-- ==== Sys2Proof/Word.lean ====
section
/-! DEFINITION. The words the part works in: bytes on the line and on its serial ports, four-bit node
numbers and 24-bit claim keys. Every other quantity of the manual (draws, millimetres, counts) is a natural
number or an integer, because the manual never adds it modulo a power of two. -/

namespace Sys2Proof

/-- A byte of a frame, of the configuration image or of a serial port (section 0.5). -/
abbrev Byte := BitVec 8

/-- A node number, 0..15. The turn of the key is a difference of node numbers modulo 16 (R44), which is the
subtraction of this type. -/
abbrev Node := BitVec 4

/-- A claim key, 24 bits (R44). -/
abbrev Key := BitVec 24

end Sys2Proof
end

