-- ==== Sys2Proof/Syntax.lean ====
section
/-! DEFINITION. The commands of the part: one constructor of Instr per row of spec/opcode_table.json, in the
table's order. A command is one whole and indivisible step of the part (spec/95): a transaction of the lift
port taken at the release of select, the expiry of a timer, an event of the rescue line, an edge of an input
pin, a reset. Its operands are what comes from outside the part with the event. -/

namespace Sys2Proof

/-- The five discrete inputs of R129. A level of `true` is high: asserted. -/
inductive Input where
  | mains | chain | doorZone | doorsOpen | brakeFeedback
  deriving DecidableEq, Repr

/-- A direction of travel or of drive (R20, R126). -/
inductive Dir where
  | up | down
  deriving DecidableEq, Repr

/-- What the lift controller clocks after the command byte until it releases select (R147): the whole bytes,
and how many bits of a byte that the release cut short.
(Assumption 7: DESIGN CHOICE, unsafe.) -/
structure Tail where
  bytes : List Byte
  bits  : Fin 8
  deriving DecidableEq, Repr

/-- The errors that end a loopback test at their first occurrence (R120). -/
inductive LoopError where
  | echo | symbol | framing
  deriving DecidableEq, Repr

/-- How the loopback test ended (R120): at an error, or with the internal path released for 24 LU after the
bytes that the test receiver assembled. -/
inductive LoopEnd where
  | error (e : LoopError)
  | received (bytes : List Byte)
  deriving DecidableEq, Repr

/-- A symbol error that LIF hands to FRE (R110, R111): at the end of a driven phase of that length, or at the
edge that ends a released phase of that length, in whole line units. -/
inductive SymbolFault where
  | driven (lu : Nat)
  | edge (lu : Nat)
  deriving DecidableEq, Repr

/-- The commands, one per row of the opcode table. -/
inductive Instr where
  /-- POWER_ON (R153). `selected`: LP_CSN is asserted as the reset ends (R147). -/
  | powerOn (selected : Bool)
  /-- RESET_INPUT (R153): RSTN goes low (`low = true`) or returns high (`low = false`). -/
  | resetInput (low selected : Bool)
  /-- RESTART, command byte 0x0C (R153). -/
  | restart (t : Tail)
  /-- LOAD, command byte 0x0A (R150). -/
  | load (t : Tail)
  /-- COMMIT, command byte 0x0B (R151). -/
  | commit (t : Tail)
  /-- LOOPBACK, command byte 0x0D (R154). -/
  | loopback (t : Tail)
  /-- LOOPBACK_TEST_END (R120). -/
  | loopbackTestEnd (e : LoopEnd)
  /-- TICK_A, command byte 0x31 (R155). -/
  | tickA (t : Tail)
  /-- TICK_B, command byte 0x32 (R155). -/
  | tickB (t : Tail)
  /-- RESUME, command byte 0x60 (R31). -/
  | resume (t : Tail)
  /-- STATUS, command byte 0x50 (R156). -/
  | status (t : Tail)
  /-- VIEW, command byte 0x51 (R157); the first byte of the tail is the index. -/
  | view (t : Tail)
  /-- UNKNOWN_COMMAND: a command byte of any other code (R148). -/
  | unknownCommand (code : Byte) (t : Tail)
  /-- INCOMPLETE_COMMAND_BYTE: select released after that many bits of the command byte (R148). -/
  | incompleteCommandByte (bits : Fin 8)
  /-- HEARTBEAT_EXPIRY (R124). -/
  | heartbeatExpiry
  /-- DEBOUNCE_EXPIRY of one input's stability timer (R130). -/
  | debounceExpiry (i : Input)
  /-- ENCODER_STEP: a legal change of the encoder pair (R126). -/
  | encoderStep (d : Dir)
  /-- ILLEGAL_TRANSITION: both encoder channels changed at once (R127). -/
  | illegalTransition
  /-- VERIFY_TIMER_EXPIRY (R11). -/
  | verifyTimerExpiry
  /-- GATE_FALLBACK_EXPIRY (R18). -/
  | gateFallbackExpiry
  /-- PROBE_WINDOW_EXPIRY: the probe window counter reaches its limit (R20). -/
  | probeWindowExpiry
  /-- BRAKE_TIMER_EXPIRY (R25). -/
  | brakeTimerExpiry
  /-- PROGRESS_WINDOW_END (R24). -/
  | progressWindowEnd
  /-- SPEED_WINDOW_END (R24). -/
  | speedWindowEnd
  /-- LEVEL_TIMER_EXPIRY (R27). -/
  | levelTimerExpiry
  /-- STANDSTILL_EXPIRY (R27). -/
  | standstillExpiry
  /-- DOOR_TIMER_EXPIRY (R28). -/
  | doorTimerExpiry
  /-- WAIT_SECONDS_TIMER_EXPIRY (R33). -/
  | waitSecondsTimerExpiry
  /-- RETRY_TIMER_EXPIRY (R56). -/
  | retryTimerExpiry
  /-- DEFERRAL_LIMIT_EXPIRY (R54). -/
  | deferralLimitExpiry
  /-- LINE_STUCK_TIMER_EXPIRY (R52). -/
  | lineStuckTimerExpiry
  /-- RECORD_STALE: the record of that node reaches age 4 s (R76). -/
  | recordStale (n : Node)
  /-- RECORD_REMOVED: the record of that node reaches age 30 s (R76). -/
  | recordRemoved (n : Node)
  /-- PRESENCE_TIMER_EXPIRY (R93). -/
  | presenceTimerExpiry
  /-- ATTEMPT_START (R94). -/
  | attemptStart
  /-- ARBITRATION_LOSS (R95, R113). -/
  | arbitrationLoss
  /-- TRANSMIT_SYMBOL_ERROR (R113). -/
  | transmitSymbolError
  /-- ECHO_FAILURE (R114). -/
  | echoFailure
  /-- LINE_SYMBOL_ERROR (R100, R110, R111). -/
  | lineSymbolError (e : SymbolFault)
  /-- LINE_HELD: a driven phase reaches 40 LU (R116). -/
  | lineHeld
  /-- LINE_STUCK: a driven phase reaches 160 LU (R116). -/
  | lineStuck
  /-- DATA_END: a released phase reaches 12 LU (R111, R98). -/
  | dataEnd
  /-- RESPONSE_START (R102). -/
  | responseStart
  /-- EDGE_AFTER_DATA_END: an edge after that many whole LU of released line, 12..23 (R111). -/
  | edgeAfterDataEnd (lu : Nat)
  /-- ROLL_CALL_RESPONSE: a response of 16 bits is complete (R101). -/
  | rollCallResponse
  /-- FRAME_END: a released phase reaches 24 LU (R111). -/
  | frameEnd
  /-- LOST_RETRY_TIMER_EXPIRY (R118). -/
  | lostRetryTimerExpiry
  /-- LOST_RETRY_PRESENCE (R118). -/
  | lostRetryPresence
  /-- VOICE_DIRECTORY_READ_DONE: the six bytes of the directory entry (R138, R164), as the voice memory holds them
  (assumption 10: DESIGN CHOICE, safe). -/
  | voiceDirectoryReadDone (bytes : List Byte)
  /-- VOICE_REFILL_READ_DONE: the next bytes of the read, as the voice memory holds them from the fetch address on.
  All that the read covers end it; fewer are those clocked in so far (R141; assumption 9: DESIGN CHOICE, safe;
  assumption 10: DESIGN CHOICE, safe). -/
  | voiceRefillReadDone (bytes : List Byte)
  /-- SAMPLE_INSTANT (R142). -/
  | sampleInstant
  /-- PATIENCE_TIMER_EXPIRY (R144). -/
  | patienceTimerExpiry
  /-- CLASSIFIED_SYMBOL: the end of a driven phase of the filtered line of that length in whole LU (R110). -/
  | classifiedSymbol (lu : Nat)
  /-- IDLE_LINE_DRIVEN (R115). -/
  | idleLineDriven
  /-- SYMBOL_DUE_TIME (R112). -/
  | symbolDueTime
  /-- INPUT_PIN_CHANGE: a sample of a discrete input pin (R130). -/
  | inputPinChange (i : Input) (level : Bool)
  deriving DecidableEq, Repr

end Sys2Proof
end

