-- ==== Sys2Proof/Decode.lean ====
section
/-! DEFINITION. The block has no instruction words: no row of spec/opcode_table.json gives bits, so no word
spells a command (the host's decoder answers none on every word). The byte codes of the lift port's commands
and the frames of the rescue line are operand forms; they are decoded in Machine/Operands.lean,
Machine/Frames.lean and Machine/Port.lean. -/

namespace Sys2Proof

/-- The command that a word spells by the table's bits. The table gives no row any bits (every row's
"fields" is empty and none has "fixed"), so none. -/
def decodeTableWord (_nbits _w : Nat) : Option Instr := none

end Sys2Proof
end

