-- ==== Sys2Proof/Config.lean ====
section
/-! DEFINITION. What the part fixes (the lengths of its timers, its thresholds on the line) and the one free
value of the model: the order in which events that the manual leaves unordered are taken. -/

namespace Sys2Proof.Config

/-- **Free value** (assumption 4: DESIGN CHOICE, safe). Where the manual says that events taken within one step "may be taken in
either order", or have "no order among themselves", the order taken is read from this constant, applied to the
running count of such choices that State holds. It has no body: nothing in Lean can evaluate it, so a claim
about a step that consults it holds for every order. -/
opaque eventOrder : Nat → Nat

/-- The filter sample period is 4 µs (section 0.5), so a millisecond is 250 sample periods. Timers count
sample periods. -/
def samplesPerMs : Nat := 250

/-- One line unit is 16 µs (section 0.5): four sample periods. -/
def samplesPerLU : Nat := 4

/-- A time in milliseconds, as sample periods. -/
def ms (n : Nat) : Nat := samplesPerMs * n

/-- The retry timer of ADU, 5 s (R50). -/
def retryTime : Nat := ms 5000
/-- The deferral limit timer of ADU, 10 s (R50). -/
def deferralTime : Nat := ms 10000
/-- The line-stuck timer of ADU, 2 s (R50). -/
def lineStuckTime : Nat := ms 2000
/-- The gate fallback timer of RSQ, 3 s (R18). -/
def gateTime : Nat := ms 3000
/-- The brake timer of RSQ, 500 ms (R23). -/
def brakeTime : Nat := ms 500
/-- The progress window of RSQ, 1 s (R23). -/
def progressTime : Nat := ms 1000
/-- The speed window of RSQ, 100 ms (R23). -/
def speedTime : Nat := ms 100
/-- The level timer of RSQ, 2 s (R27). -/
def levelTime : Nat := ms 2000
/-- The standstill timer of RSQ, 500 ms (R27). -/
def standstillTime : Nat := ms 500
/-- The probe window counter advances once every 10 ms (R20). -/
def probeTickTime : Nat := ms 10
/-- The wait-seconds timer of PCU, 1 s (R33). -/
def secondTime : Nat := ms 1000
/-- The Presence timer of FRE, 1 s (R89). -/
def presenceTime : Nat := ms 1000
/-- The LOST retry timer of LIF, 10 s (R108). -/
def lostRetryTime : Nat := ms 10000
/-- The stability timer of a discrete input, 20 ms (R130). -/
def debounceTime : Nat := ms 20
/-- The PATIENCE timer of ANU, 30 s (R136). -/
def patienceTime : Nat := ms 30000
/-- The sample instants of ANU come every 125 µs (R142). Since 125 µs is 31.25 sample periods of 4 µs, they are
counted in microseconds. -/
def sampleInstantMicros : Nat := 125
/-- The sample period of the filter and of the encoder in microseconds (R109, R126). -/
def samplePeriodMicros : Nat := 4

/-- Age in whole seconds at which a peer record becomes stale (R76). -/
def staleAge : Nat := 4
/-- Age in whole seconds at which a peer record is removed (R76). -/
def removalAge : Nat := 30
/-- An entry is dropped at its eighth error attempt (R96). -/
def attemptLimit : Nat := 8
/-- Net reverse travel above 20 mm halts the car (R25). -/
def reverseLimit : Nat := 20
/-- The shaft ends at 60000 mm: a tick position above it clears the position-valid flag (R123). -/
def shaftTop : Nat := 60000
/-- The position counter saturates at 65535 mm (R126). -/
def positionTop : Nat := 65535
/-- The image buffer holds 58 bytes (R150). -/
def imageLength : Nat := 58
/-- The staging store of LPC holds up to 35 bytes (R147). -/
def stagingLength : Nat := 35
/-- The phrase number 255 means that the event has no phrase (section 8.3). -/
def noPhrase : Nat := 255
/-- The underrun, repeat and port-error counts and the line's error counters saturate at 255 (R136, R121, R148,
R107). -/
def countTop : Nat := 255
/-- The wait-seconds count saturates at 65535 (R33). -/
def waitSecondsTop : Nat := 65535
/-- The refusal count saturates at 15 (R34). -/
def refusalTop : Nat := 15

end Sys2Proof.Config
end

