-- ==== Sys2Proof/Machine/State.lean ====
section
/-! DEFINITION. The state of the part as plain data: one record per block of section 0.3, each holding the
state its chapter names, the pins, and the queue of waiting commands; the reasons a step can stop; and the
reset values. -/

namespace Sys2Proof.Machine

/-! ## Timers and shared names -/

/-- A timer (section 0.5). `running left` counts the 4 µs sample periods still to run. `expired` is kept only
where a rule later asks whether the timer has expired (the gate fallback timer, R18; the line-stuck timer,
R52); every other timer stands stopped after its expiry. -/
inductive Timer where
  | stopped
  | running (left : Nat)
  | expired
  deriving DecidableEq, Repr

/-- The thirteen rescue states (R3). -/
inductive RescueState where
  | start | watch | parked | verify | blocked | wait | warn | probe | creep | level | doors | landed | halted
  deriving DecidableEq, Repr

/-- The recorded cause (R4). -/
inductive Cause where
  | none | chain | position | infeasible | line | progress | overspeed | reverse | brake | overrun | door
  deriving DecidableEq, Repr

/-- The outcome carried by a RELEASE (R66, R159). -/
inductive ReleaseOutcome where
  | landed | abandoned | halted | replan
  deriving DecidableEq, Repr

/-! ## RSQ: the rescue sequencer -/

/-- The five lift outputs (R5). `true` is asserted. -/
structure Outputs where
  brakeRelease : Bool
  driveEnable  : Bool
  direction    : Dir
  doorRequest  : Bool
  alarm        : Bool
  deriving DecidableEq, Repr

/-- The state record of the sequencer (R4). `probeTick` runs toward the next 10 ms advance of the probe window
counter (R20). `cancelCame` is the model's own: the debounced mains has made the cancel condition hold in this instant, and that ended
BLOCKED, and no transaction of the lift port has been taken since (R31, assumption 44: DESIGN CHOICE, safe). -/
structure Rsq where
  state            : RescueState
  cause            : Cause
  verifyTimer      : Timer
  gateTimer        : Timer
  voiceUnavailable : Bool
  probeTick        : Timer
  probeWindow      : Nat
  probePulses      : Nat
  probeNet         : Int
  progressTimer    : Timer
  progressNet      : Int
  speedTimer       : Timer
  speedCount       : Nat
  netReverse       : Nat
  brakeTimer       : Timer
  brakeSeen        : Bool
  levelTimer       : Timer
  standstillTimer  : Timer
  doorTimer        : Timer
  outputs          : Outputs
  cancelCame       : Bool
  deriving DecidableEq, Repr

/-! ## PCU: the plan calculator -/

/-- The plan's kind (R32). -/
inductive PlanKind where
  | none | zone | motion
  deriving DecidableEq, Repr

/-- The plan's basis (R32). -/
inductive Basis where
  | none | favoured | against | balanced | unknown
  deriving DecidableEq, Repr

/-- The block cause of a plan (R32). -/
inductive BlockCause where
  | none | position | infeasible
  deriving DecidableEq, Repr

/-- The plan record (R32). `target` is the landing index 1..K (0 in the empty record), `level` its level in
millimetres, `draw` is U in draw units. -/
structure Plan where
  kind         : PlanKind
  basis        : Basis
  direction    : Option Dir
  target       : Nat
  level        : Nat
  motorDraw    : Nat
  totalDraw    : Option Nat
  draw         : Nat
  levelDraw    : Nat
  timeEstimate : Nat
  timeUnits    : Nat
  occupied     : Bool
  key          : Option Key
  blockCause   : BlockCause
  deriving DecidableEq, Repr

/-- PCU holds the plan record and the three figures that outlive a plan, with the 1 s timer of the
wait-seconds count (R32, R33, R34). -/
structure Pcu where
  plan         : Plan
  waitSeconds  : Nat
  waitTimer    : Timer
  refusals     : Nat
  loadOverride : Bool
  deriving DecidableEq, Repr

/-! ## ADU: the admission unit -/

/-- The admission state (R50). -/
inductive AdmissionState where
  | none | defer | queued | claiming | holder | solo
  deriving DecidableEq, Repr

/-- The admission record (R50), with the outcome of the node's own last Release, which status reports as
ADU's (R156). -/
structure Adu where
  state         : AdmissionState
  heldDraw      : Nat
  admittedDraw  : Nat
  retryTimer    : Timer
  deferralTimer : Timer
  stuckTimer    : Timer
  withdrawn     : Bool
  pendingSeek   : Bool
  pendingKey    : Bool
  lastRelease   : Option ReleaseOutcome
  deriving DecidableEq, Repr

/-! ## PVW: the peer view -/

/-- One peer record (R75). `ageClock` counts the sample periods of the second in progress since the last
refresh (R76). -/
structure PeerRecord where
  node        : Node
  stateCode   : Nat
  age         : Nat
  ageClock    : Nat
  inferred    : Bool
  sEcho       : Option Nat
  draw        : Option Nat
  key         : Option Key
  lastOutcome : Option ReleaseOutcome
  deriving DecidableEq, Repr

/-- The peer view (R75): the records in ascending node order, the last-released node, the effective store
limit, the mismatch flag, the standing deferral answer (R87), and the node and U of a CLAIM whose window is
open (R79). -/
structure Pvw where
  records      : List PeerRecord
  lastReleased : Node
  sEff         : Option Nat
  mismatch     : Bool
  deferral     : Bool
  claim        : Option (Node × Nat)
  deriving DecidableEq, Repr

/-! ## FRE: the frame engine -/

/-- The four frame kinds, in ascending order of kind code (section 5.1). -/
inductive FrameKind where
  | release | adjust | claim | presence
  deriving DecidableEq, Repr

/-- What a PRESENCE carries beside the node number (R90, R159). -/
structure PresenceBody where
  code       : Nat
  storeLimit : Nat
  draw       : Option Nat
  key        : Option Key
  mismatch   : Bool
  solo       : Bool
  deriving DecidableEq, Repr

/-- A frame of the rescue line (R159). The node of a CLAIM is the low four bits of its key. -/
inductive Frame where
  | release (outcome : ReleaseOutcome) (node : Node)
  | adjust (node : Node) (draw : Nat)
  | claim (key : Key) (draw : Nat)
  | presence (node : Node) (body : PresenceBody)
  deriving DecidableEq, Repr

/-- The receive phase (R89). -/
inductive ReceivePhase where
  | idle | frame | window | discard
  deriving DecidableEq, Repr

/-- The node's role in the traffic in progress (R89). -/
inductive Role where
  | none | sender | receiver | claimant | responder | listener
  deriving DecidableEq, Repr

/-- The receive buffer: the whole bytes, and the bits taken into the byte in progress (R89). -/
structure RxBuffer where
  bytes   : List Byte
  current : Byte
  count   : Nat
  deriving DecidableEq, Repr

/-- An entry of the transmit queue (R89). -/
structure Entry where
  frame    : Frame
  attempts : Nat
  deriving DecidableEq, Repr

/-- An offer held against the entry in flight (R92). -/
inductive HeldOffer where
  | replace (f : Frame)
  | remove
  deriving DecidableEq, Repr

/-- The in-flight mark (R89). -/
structure InFlight where
  kind : FrameKind
  held : Option HeldOffer
  deriving DecidableEq, Repr

/-- A claim report that waits for the frame end (R104). A clean report is made at the frame end itself. -/
inductive PendingReport where
  | lost | spoiled | dropped
  deriving DecidableEq, Repr

/-- The six error counters (R107). -/
structure ErrorCounters where
  symbol      : Nat
  framing     : Nat
  check       : Nat
  echo        : Nat
  unknownKind : Nat
  arbitration : Nat
  deriving DecidableEq, Repr

/-- The state of FRE (R89). Beside the parts R89 lists: `lostKind`, the kind whose attempt was lost in the
traffic in progress (R105); `report`, the claim report owed at its frame end (R104); `valid`, a valid
non-Claim frame between its data end and its frame end (R99); `inResponse`, a response of the window is being
taken (R101); `windowAbandoned`, the traffic being discarded was a window (R100). -/
structure Fre where
  phase           : ReceivePhase
  rx              : RxBuffer
  role            : Role
  response        : Option (Node × Nat)
  listed          : Bool
  queue           : List Entry
  inFlight        : Option InFlight
  lostKind        : Option FrameKind
  report          : Option PendingReport
  valid           : Option Frame
  inResponse      : Bool
  windowAbandoned : Bool
  list            : List (Node × Nat)
  claimant        : Option (Node × Nat)
  duplicate       : Bool
  presenceTimer   : Timer
  counters        : ErrorCounters
  deriving DecidableEq, Repr

/-! ## LIF: the line interface -/

/-- The line state (R108). -/
inductive LineState where
  | idle | busy | sending | held | stuck | lost
  deriving DecidableEq, Repr

/-- What LIF is sending (R112). -/
inductive TxSource where
  | frame | retry | response | mark | loopback
  deriving DecidableEq, Repr

/-- The transmit role (R108): what is sent, its bits, how many of them have begun (0 while the Opening is
sent), whether LIF drives now, for how many samples this drive has lasted, whether the filtered line has shown
driven in it (R114), and the due times of the release and of the next edge, in samples from now. -/
structure Tx where
  source     : TxSource
  bits       : List Bool
  begun      : Nat
  driving    : Bool
  driveAge   : Nat
  shown      : Bool
  releaseDue : Option Nat
  edgeDue    : Option Nat
  deriving DecidableEq, Repr

/-- The LOST retry (R118): none, waiting for an idle line, its Presence being sent, or ended with an error
whose frame end restarts the timer. -/
inductive Retry where
  | none | waiting | sending | failed
  deriving DecidableEq, Repr

/-- The loopback result (R108, R120). -/
inductive LoopResult where
  | none | pass | failEcho | failSymbol | failFraming | failCheck | failMismatch
  deriving DecidableEq, Repr

/-- A running loopback test (R119): the test frame, and what the test receiver has assembled of it. -/
structure LoopRun where
  sent : List Byte
  rx   : RxBuffer
  deriving DecidableEq, Repr

/-- The state of LIF (R108). `filtered` is the filtered output, `true` for driven, and so also the level of
the current phase; `samples` is that phase's length; `idleBefore` records that the line was idle before the
current driven phase (R110). -/
structure Lif where
  integrator : Nat
  filtered   : Bool
  samples    : Nat
  idleBefore : Bool
  traffic    : Bool
  tx         : Option Tx
  lineState  : LineState
  echoRun    : Nat
  lostTimer  : Timer
  retry      : Retry
  loopResult : LoopResult
  loopRun    : Option LoopRun
  deriving DecidableEq, Repr

/-! ## LIU: the lift input unit -/

/-- The heartbeat state (R121). -/
inductive Heartbeat where
  | unsupervised | healthy | expired
  deriving DecidableEq, Repr

/-- The two tick kinds (R121). -/
inductive TickKind where
  | a | b
  deriving DecidableEq, Repr

/-- The controller states of a tick (R160). -/
inductive ControllerState where
  | running | idle | stalled | service
  deriving DecidableEq, Repr

/-- One debounced input (R130). -/
structure Debounced where
  level     : Bool
  candidate : Bool
  timer     : Timer
  deriving DecidableEq, Repr

/-- The supervision record (R121). -/
structure Liu where
  heartbeat      : Heartbeat
  heartbeatTimer : Timer
  lastKind       : Option TickKind
  repeats        : Nat
  position       : Nat
  positionValid  : Bool
  load           : Option Nat
  controller     : Option ControllerState
  lockout        : Bool
  encoder        : Bool × Bool
  mains          : Debounced
  chain          : Debounced
  doorZone       : Debounced
  doorsOpen      : Debounced
  brakeFeedback  : Debounced
  stall          : Bool
  cancel         : Bool
  deriving DecidableEq, Repr

/-! ## ANU: the announcement unit -/

/-- The stage of the phrase in the current slot (R136). -/
inductive Stage where
  | lookup | fetch | sounding
  deriving DecidableEq, Repr

/-- The current slot's phrase (R136). -/
structure Phrase where
  number : Nat
  stage  : Stage
  deriving DecidableEq, Repr

/-- The directory cache entry (R136). -/
structure CacheEntry where
  number : Nat
  start  : Nat
  length : Nat
  deriving DecidableEq, Repr

/-- The memory transaction in progress (R136), with the byte address that ANU sends (R137, R138, R141); of a refill
the number of bytes it covers, and how many of them have been clocked in. -/
inductive Transaction where
  | none
  | directory (address : Nat)
  | refill (address count received : Nat)
  deriving DecidableEq, Repr

/-- The speaker pair (R143): both outputs low, or pulse-width outputs with SPK_A high for `duty` of the 256
steps of each period and SPK_B high for the others. -/
inductive Speaker where
  | low
  | pulse (duty : Nat)
  deriving DecidableEq, Repr

/-- The announcement record (R136), the speaker outputs (R143), and the timer of the sample instants, which
runs from reset (R142), in microseconds since the last instant. -/
structure Anu where
  current      : Option Phrase
  next         : Option Nat
  cache        : Option CacheEntry
  fetchAddress : Nat
  toFetch      : Nat
  toPlay       : Nat
  fifo         : List Byte
  lastDuty     : Nat
  volume       : Nat
  movingOwed   : Bool
  patience     : Timer
  voiceFault   : Bool
  underruns    : Nat
  transaction  : Transaction
  speaker      : Speaker
  sampleClock  : Nat
  deriving DecidableEq, Repr

/-! ## LPC: the lift port and configuration -/

/-- The phases of the port framing state (R147). -/
inductive PortPhase where
  | idle | command | operands | readout | ignore
  deriving DecidableEq, Repr

/-- The start cause (R153). -/
inductive StartCause where
  | powerOn | resetInput | restart
  deriving DecidableEq, Repr

/-- The last-command result (R149). -/
inductive CommandResult where
  | none | done | framing | unknown | wrongState | range | invalid | busy | resumeRefused
  deriving DecidableEq, Repr

/-- The state of LPC (section 9): the port framing state with its staging store and counts (R147), the record
latched for a read, and what LP_DO carried in the last transaction, its whole bytes and the bits of a byte cut
short (R156, R157, assumption 29: DESIGN CHOICE, safe), whether bytes are ignored until
select is released (R147), the image buffer and the committed flag (R150), the start cause, the last-command
result, the commit failure offset and the port-error count. -/
structure Lpc where
  phase        : PortPhase
  staging      : List Byte
  byteCount    : Nat
  bitCount     : Nat
  snapshot     : List Byte
  dout         : List Byte
  doutBits     : List Bool
  awaitRelease : Bool
  image        : List Byte
  committed    : Bool
  startCause   : StartCause
  lastResult   : CommandResult
  failOffset   : Option Nat
  portErrors   : Nat
  deriving DecidableEq, Repr

/-! ## The pins and the whole part -/

/-- The levels of the input pins (section 0.8), as their drivers outside the part set them: the five discrete
inputs, the encoder pair, RSTN held low, LP_CSN asserted as the last reset ended, and whether some party
other than the node drives the rescue line (assumption 10: DESIGN CHOICE, safe). -/
structure Pins where
  mains         : Bool
  chain         : Bool
  doorZone      : Bool
  doorsOpen     : Bool
  brakeFeedback : Bool
  encoder       : Bool × Bool
  resetLow      : Bool
  selected      : Bool
  lineOther     : Bool
  deriving DecidableEq, Repr

/-- The part: its nine blocks and its pins. `choices` is the model's own field, not the spec's: how many times
a free order of events has been read from Config.eventOrder (assumption 4: DESIGN CHOICE, safe). -/
structure Part where
  rsq     : Rsq
  pcu     : Pcu
  adu     : Adu
  pvw     : Pvw
  fre     : Fre
  lif     : Lif
  liu     : Liu
  anu     : Anu
  lpc     : Lpc
  pins    : Pins
  choices : Nat
  deriving DecidableEq, Repr

/-- The state of the machine: the part, and the commands that wait, first in, first out. `announced` is the model's own
field: the commands of the clock that the last sample period put in that queue, which are the expiries of timers, the end of the
probe window, and LIF's own next edge or release (assumption 51: DESIGN CHOICE, safe). -/
structure State where
  part      : Part
  pending   : List Instr
  announced : List Instr
  deriving DecidableEq, Repr

/-! ## The reasons a step can stop -/

/-- Faults: the manual names none. No event it describes stops the part, so no meaning raises one. -/
inductive Fault where
  deriving DecidableEq, Repr

/-- Refusals. -/
inductive Refusal where
  /-- Raised by an arm of exec whose command has no meaning yet. Safe: the model stops where the part goes on. -/
  | notModelled (mnemonic : String)
  /-- Raised by a meaning whose command's operands fail Instr.wellFormed: no event of the part has them
  (assumption 3: DESIGN CHOICE, safe). Safe: the model stops on what the part never meets. -/
  | notAnEvent
  deriving DecidableEq, Repr

/-! ## Reset values -/

/-- The safe output state, with drive direction indicating down (R2, R4). -/
def Outputs.safe : Outputs :=
  { brakeRelease := false, driveEnable := false, direction := .down, doorRequest := false, alarm := false }

/-- R4. -/
def Rsq.reset : Rsq :=
  { state := .start, cause := .none, verifyTimer := .stopped, gateTimer := .stopped, voiceUnavailable := false
    probeTick := .stopped, probeWindow := 0, probePulses := 0, probeNet := 0
    progressTimer := .stopped, progressNet := 0, speedTimer := .stopped, speedCount := 0, netReverse := 0
    brakeTimer := .stopped, brakeSeen := false, levelTimer := .stopped, standstillTimer := .stopped
    doorTimer := .stopped, outputs := .safe, cancelCame := false }

/-- The empty plan record (R32). R32 gives the occupancy no reset value: occupied (assumption 6: DESIGN CHOICE, unsafe). -/
def Plan.empty : Plan :=
  { kind := .none, basis := .none, direction := none, target := 0, level := 0, motorDraw := 0
    totalDraw := some 0, draw := 0, levelDraw := 0, timeEstimate := 0, timeUnits := 0, occupied := true
    key := none, blockCause := .none }

/-- R32. -/
def Pcu.reset : Pcu :=
  { plan := .empty, waitSeconds := 0, waitTimer := .stopped, refusals := 0, loadOverride := false }

/-- R50; the last release outcome is none after each reset (R156). -/
def Adu.reset : Adu :=
  { state := .none, heldDraw := 0, admittedDraw := 0, retryTimer := .stopped, deferralTimer := .stopped
    stuckTimer := .stopped, withdrawn := false, pendingSeek := false, pendingKey := false
    lastRelease := none }

/-- R75: the last-released node is 15, S_eff has no value. -/
def Pvw.reset : Pvw :=
  { records := [], lastReleased := 15, sEff := none, mismatch := false, deferral := false, claim := none }

/-- An empty receive buffer (R89). -/
def RxBuffer.empty : RxBuffer := { bytes := [], current := 0, count := 0 }

/-- R89, R107. -/
def ErrorCounters.reset : ErrorCounters :=
  { symbol := 0, framing := 0, check := 0, echo := 0, unknownKind := 0, arbitration := 0 }

/-- R89. -/
def Fre.reset : Fre :=
  { phase := .idle, rx := .empty, role := .none, response := none, listed := false, queue := []
    inFlight := none, lostKind := none, report := none, valid := none, inResponse := false
    windowAbandoned := false, list := [], claimant := none, duplicate := false, presenceTimer := .stopped
    counters := .reset }

/-- R108: the phase measure stands as a released phase of 24 LU. -/
def Lif.reset : Lif :=
  { integrator := 0, filtered := false, samples := 24 * Config.samplesPerLU, idleBefore := false
    traffic := false, tx := none, lineState := .idle, echoRun := 0, lostTimer := .stopped, retry := .none
    loopResult := .none, loopRun := none }

/-- A debounced input as a reset ends: debounced and candidate level from the pin, timer stopped (R131). -/
def Debounced.sampled (pin : Bool) : Debounced := { level := pin, candidate := pin, timer := .stopped }

/-- R121, R131: the encoder pair and the inputs take the levels sampled as the reset ends. -/
def Liu.reset (pins : Pins) : Liu :=
  { heartbeat := .unsupervised, heartbeatTimer := .stopped, lastKind := none, repeats := 0, position := 0
    positionValid := false, load := none, controller := none, lockout := false, encoder := pins.encoder
    mains := .sampled pins.mains, chain := .sampled pins.chain, doorZone := .sampled pins.doorZone
    doorsOpen := .sampled pins.doorsOpen, brakeFeedback := .sampled pins.brakeFeedback
    stall := false, cancel := false }

/-- R136. The play position has no phrase to describe and reads zero (assumption 5: DESIGN CHOICE, unsafe). -/
def Anu.reset : Anu :=
  { current := none, next := none, cache := none, fetchAddress := 0, toFetch := 0, toPlay := 0, fifo := []
    lastDuty := 128, volume := 0, movingOwed := false, patience := .stopped, voiceFault := false
    underruns := 0, transaction := .none, speaker := .low, sampleClock := 0 }

/-- The image buffer after power-on and after the reset input: every byte 0x00 (R150). -/
def clearedImage : List Byte := List.replicate Config.imageLength 0

/-- R147 to R153, with the image buffer and the start cause the kind of reset leaves, and whether LP_CSN is
asserted as the reset ends. -/
def Lpc.reset (image : List Byte) (cause : StartCause) (selected : Bool) : Lpc :=
  { phase := .idle, staging := [], byteCount := 0, bitCount := 0, snapshot := [], dout := [], doutBits := []
    awaitRelease := selected, image := image, committed := false, startCause := cause, lastResult := .none
    failOffset := none, portErrors := 0 }

/-- The input pins of State.reset: every level low, RSTN high, select released, the line not driven. The
manual gives no level for a pin (assumption 5: DESIGN CHOICE, unsafe). -/
def Pins.initial : Pins :=
  { mains := false, chain := false, doorZone := false, doorsOpen := false, brakeFeedback := false
    encoder := (false, false), resetLow := false, selected := false, lineOther := false }

/-- Every block at its reset values (R153), over the pins as they stand. -/
def Part.reset (image : List Byte) (cause : StartCause) (pins : Pins) (choices : Nat) : Part :=
  { rsq := .reset, pcu := .reset, adu := .reset, pvw := .reset, fre := .reset, lif := .reset
    liu := .reset pins, anu := .reset, lpc := .reset image cause pins.selected, pins := pins
    choices := choices }

/-- The machine right after power-on, with no command waiting. -/
def State.reset : State :=
  { part := .reset clearedImage .powerOn .initial 0, pending := [], announced := [] }

end Sys2Proof.Machine
end

