-- ==== Sys2Proof/Machine/Ops.lean ====
section
/-! DEFINITION. The named operations the meanings are written over: updates of one block's record, timers,
saturating counts, bit and byte helpers, the check byte, the receive buffer and the image buffer. -/

namespace Sys2Proof.Machine

/-! ## Updates of one block's record -/

/-- Update the sequencer's record. -/
def Part.mapRsq (f : Rsq → Rsq) (p : Part) : Part := { p with rsq := f p.rsq }
/-- Update the plan calculator's record. -/
def Part.mapPcu (f : Pcu → Pcu) (p : Part) : Part := { p with pcu := f p.pcu }
/-- Update the admission record. -/
def Part.mapAdu (f : Adu → Adu) (p : Part) : Part := { p with adu := f p.adu }
/-- Update the peer view. -/
def Part.mapPvw (f : Pvw → Pvw) (p : Part) : Part := { p with pvw := f p.pvw }
/-- Update the frame engine's record. -/
def Part.mapFre (f : Fre → Fre) (p : Part) : Part := { p with fre := f p.fre }
/-- Update the line interface's record. -/
def Part.mapLif (f : Lif → Lif) (p : Part) : Part := { p with lif := f p.lif }
/-- Update the supervision record. -/
def Part.mapLiu (f : Liu → Liu) (p : Part) : Part := { p with liu := f p.liu }
/-- Update the announcement record. -/
def Part.mapAnu (f : Anu → Anu) (p : Part) : Part := { p with anu := f p.anu }
/-- Update the lift port's record. -/
def Part.mapLpc (f : Lpc → Lpc) (p : Part) : Part := { p with lpc := f p.lpc }
/-- Update the pins. -/
def Part.mapPins (f : Pins → Pins) (p : Part) : Part := { p with pins := f p.pins }

/-- Update the five lift outputs. -/
def Part.mapOutputs (f : Outputs → Outputs) : Part → Part :=
  Part.mapRsq fun r => { r with outputs := f r.outputs }

/-- The part works unless RSTN is held low: it stays at its reset values for as long as RSTN is low, and takes
no event (R153, assumption 8: DEDUCED, safe). -/
def Part.whenWorking (p : Part) (f : Part → Part) : Part := if p.pins.resetLow then p else f p

/-- The outcome of a command that has its effect on the part: a next state, the queue untouched. -/
def State.run (f : Part → Part) (s : State) : Host.Outcome State Fault Refusal :=
  .next { s with part := s.part.whenWorking f }

/-- The outcome of a command whose operands must first be those of an event (assumption 3: DESIGN CHOICE, safe). -/
def State.runIf (ok : Bool) (f : Part → Part) (s : State) : Host.Outcome State Fault Refusal :=
  if ok then s.run f else .refused .notAnEvent

/-! ## Timers -/

/-- The timer is running. -/
def Timer.isRunning : Timer → Bool
  | .running _ => true
  | .stopped | .expired => false

/-- The timer has expired and not been started again. -/
def Timer.hasExpired : Timer → Bool
  | .expired => true
  | .stopped | .running _ => false

/-- One sample period passes. -/
def Timer.elapse : Timer → Timer
  | .running left => .running (left - 1)
  | .stopped => .stopped
  | .expired => .expired

/-- The timer has run its length: its expiry is due. -/
def Timer.due : Timer → Bool
  | .running left => left == 0
  | .stopped | .expired => false

/-- A command of the clock stands unless the clock has queued it at the last sample and it is due no longer: then a command
taken before it has ended what it belongs to, or begun it again, and it does not occur (R10, R20, R112, R124, R130, assumption
51: DESIGN CHOICE, safe). -/
def State.stands (c : Instr) (due : Bool) (s : State) : Bool := due || !decide (c ∈ s.announced)

/-- The outcome of a command `c` of the clock: its effect on the part where it stands, and none where it does not. -/
def State.runDue (c : Instr) (due : Part → Bool) (f : Part → Part) (s : State) : Host.Outcome State Fault Refusal :=
  if s.stands c (due s.part) then s.run f else .next s

/-- The outcome of the expiry `c` of a timer, which is due while the timer is at its end. -/
def State.runExpiry (c : Instr) (timer : Part → Timer) (f : Part → Part) (s : State) : Host.Outcome State Fault Refusal :=
  s.runDue c (fun p => (timer p).due) f

/-! ## Counts -/

/-- A count raised by one that saturates at `top` (section 0.5). -/
def saturate (top n : Nat) : Nat := min top (n + 1)

/-- The quotient rounded up (section 0.5). -/
def ceilDiv (a b : Nat) : Nat := (a + b - 1) / b

/-! ## Bits and bytes -/

/-- The bits of a byte, most significant first (R158). -/
def bitsOfByte (b : Byte) : List Bool :=
  [b.getLsbD 7, b.getLsbD 6, b.getLsbD 5, b.getLsbD 4, b.getLsbD 3, b.getLsbD 2, b.getLsbD 1, b.getLsbD 0]

/-- The bits of a run of bytes, in the order sent (R158). -/
def bitsOfBytes (bytes : List Byte) : List Bool := bytes.flatMap bitsOfByte

/-- A number as one byte. -/
def byte (n : Nat) : Byte := BitVec.ofNat 8 n

/-- A number as two bytes, most significant first (R158). -/
def bytes2 (n : Nat) : List Byte := [byte (n / 256), byte n]

/-- A number as three bytes, most significant first (R137). -/
def bytes3 (n : Nat) : List Byte := [byte (n / 65536), byte (n / 256), byte n]

/-- A key as three bytes, most significant first (R158). -/
def bytesOfKey (k : Key) : List Byte :=
  [BitVec.extractLsb' 16 8 k, BitVec.extractLsb' 8 8 k, BitVec.extractLsb' 0 8 k]

/-- Two bytes read as a number, most significant first (R158). -/
def nat2 (hi lo : Byte) : Nat := hi.toNat * 256 + lo.toNat

/-- Three bytes read as a number, most significant first (R158). -/
def nat3 (a b c : Byte) : Nat := (a.toNat * 256 + b.toNat) * 256 + c.toNat

/-- Three bytes read as a key. -/
def keyOfBytes (a b c : Byte) : Key := BitVec.ofNat 24 (nat3 a b c)

/-- The byte at an offset of a run of bytes, zero past its end. -/
def byteAt (bytes : List Byte) (i : Nat) : Byte := bytes.getD i 0

/-- The two-byte field at an offset. -/
def fieldAt2 (bytes : List Byte) (i : Nat) : Nat := nat2 (byteAt bytes i) (byteAt bytes (i + 1))

/-- A flag as bit `i` of a byte. -/
def flagBit (i : Nat) (flag : Bool) : Nat := if flag then 2 ^ i else 0

/-! ## The check byte (R1) -/

/-- One bit of the CRC-8 with generator 0x07, most significant bit first, no reflection. -/
def crcShift (c : Byte) : Byte := if c.getLsbD 7 then (c <<< 1) ^^^ 0x07#8 else c <<< 1

/-- The CRC-8 carried over one byte. -/
def crcByte (c b : Byte) : Byte :=
  crcShift (crcShift (crcShift (crcShift (crcShift (crcShift (crcShift (crcShift (c ^^^ b))))))))

/-- The check byte over a run of bytes: initial value 0x00, no final inversion (R1). -/
def crc (bytes : List Byte) : Byte := bytes.foldl crcByte 0

/-- A run of bytes with its check byte. -/
def withCheck (bytes : List Byte) : List Byte := bytes ++ [crc bytes]

/-! ## The receive buffer (R89, R98) -/

/-- Take one bit, most significant first; the eighth completes a byte. -/
def RxBuffer.take (b : Bool) (r : RxBuffer) : RxBuffer :=
  let current := (r.current <<< 1) ||| (if b then 1#8 else 0#8)
  if r.count + 1 = 8 then { bytes := r.bytes ++ [current], current := 0, count := 0 }
  else { r with current := current, count := r.count + 1 }

/-- How many bits the buffer holds. -/
def RxBuffer.bits (r : RxBuffer) : Nat := 8 * r.bytes.length + r.count

/-! ## The image buffer (R150) -/

/-- Write data bytes at an offset and onward. -/
def writeBytes (offset : Nat) (data image : List Byte) : List Byte :=
  image.take offset ++ data ++ image.drop (offset + data.length)

/-! ## Free orders -/

/-- Read the next free choice: a number that nothing constrains, and the part with the choice counted
(assumption 4: DESIGN CHOICE, safe). -/
def Part.choose (p : Part) : Nat × Part :=
  (Config.eventOrder p.choices, { p with choices := p.choices + 1 })

/-- Take the element at an index out of a list. -/
def pick {α : Type} : Nat → List α → List α
  | _, [] => []
  | 0, x :: xs => x :: xs
  | n + 1, x :: xs =>
    match pick n xs with
    | [] => [x]
    | y :: ys => y :: x :: ys

/-- The arrangement of a list that a number names: its remainder by the length picks the first element, its
quotient arranges the rest. Every arrangement is named by some number. `fuel` is the list's length. -/
def arrange {α : Type} (fuel : Nat) (n : Nat) (l : List α) : List α :=
  match fuel with
  | 0 => l
  | fuel + 1 =>
    match pick (n % l.length) l with
    | [] => []
    | x :: xs => x :: arrange fuel (n / l.length) xs

/-- Take a list of events that the manual leaves unordered, in a free order. A single event needs no order. -/
def takeUnordered {α : Type} (act : α → Part → Part) (events : List α) (p : Part) : Part :=
  match events with
  | [] => p
  | [e] => act e p
  | es =>
    let (n, p) := p.choose
    (arrange es.length n es).foldl (fun p e => act e p) p

end Sys2Proof.Machine
end

