-- ==== Sys2Proof/Machine/Operands.lean ====
section
/-! DEFINITION. The operand forms: the configuration image as the committed configuration (R151, R161), the
tick message (R160), the voice directory entry (R164), the codes of the status and view records (R162, R163)
and the byte codes of the lift port (R148). -/

namespace Sys2Proof.Machine

/-! ## The committed configuration (R161) -/

/-- One landing: its level in millimetres and its eligible flag. -/
structure Landing where
  level    : Nat
  eligible : Bool
  deriving DecidableEq, Repr

/-- The configuration that the 58 bytes of the image hold, under the manual's symbols (R35, R161). -/
structure Settings where
  node          : Node
  storeLimit    : Nat
  soloAllowance : Nat
  drawCeiling   : Nat
  baseDraw      : Nat
  frictionDraw  : Nat
  carMass       : Nat
  counterMass   : Nat
  efficiency    : Nat
  creepSpeed    : Nat
  halfWidth     : Nat
  fixedTime     : Nat
  occupancy     : Nat
  balanceBand   : Nat
  verifyTime    : Nat
  heartbeatTime : Nat
  probeWindow   : Nat
  probeTravel   : Nat
  minProgress   : Nat
  overspeed     : Nat
  doorTimeout   : Nat
  landingCount  : Nat
  landings      : List Landing
  voiceSize     : Nat
  volume        : Nat
  phrases       : List Nat
  deriving DecidableEq, Repr

/-- Landing i of the image, counted from 0: its position at 31 + 3i and its flags at 33 + 3i, of which only
bit 0 is read (R151, R161). -/
def landingAt (image : List Byte) (i : Nat) : Landing :=
  { level := fieldAt2 image (31 + 3 * i), eligible := (byteAt image (33 + 3 * i)).getLsbD 0 }

/-- The configuration in an image. The first K landings are read (R161); a default volume above 7 is taken as 7
(R136, R152). -/
def Settings.ofImage (image : List Byte) : Settings :=
  let k := (byteAt image 30).toNat
  { node := BitVec.ofNat 4 (byteAt image 0).toNat
    storeLimit := fieldAt2 image 1
    soloAllowance := fieldAt2 image 3
    drawCeiling := (byteAt image 5).toNat
    baseDraw := fieldAt2 image 6
    frictionDraw := fieldAt2 image 8
    carMass := fieldAt2 image 10
    counterMass := fieldAt2 image 12
    efficiency := (byteAt image 14).toNat
    creepSpeed := fieldAt2 image 15
    halfWidth := (byteAt image 17).toNat
    fixedTime := (byteAt image 18).toNat
    occupancy := (byteAt image 19).toNat
    balanceBand := fieldAt2 image 20
    verifyTime := (byteAt image 22).toNat
    heartbeatTime := (byteAt image 23).toNat
    probeWindow := (byteAt image 24).toNat
    probeTravel := (byteAt image 25).toNat
    minProgress := (byteAt image 26).toNat
    overspeed := fieldAt2 image 27
    doorTimeout := (byteAt image 29).toNat
    landingCount := k
    landings := (List.range k).map (landingAt image)
    voiceSize := (byteAt image 49).toNat
    volume := min 7 (byteAt image 50).toNat
    phrases := (List.range 6).map fun i => (byteAt image (51 + i)).toNat }

/-- The committed configuration: the image buffer is locked at commit and keeps it (R150). -/
def Part.settings (p : Part) : Settings := Settings.ofImage p.lpc.image

/-- The node's number, which it has from commit on (R89). -/
def Part.ownNode (p : Part) : Option Node := if p.lpc.committed then some p.settings.node else none

/-- The six announcement events, in configuration order (section 8.3). -/
inductive Announcement where
  | confirm | patience | moving | arrive | doors | help
  deriving DecidableEq, Repr

/-- The configured phrase number of an event, 0..63 or 255 (R139). -/
def Settings.phrase (c : Settings) : Announcement → Nat
  | .confirm => c.phrases.getD 0 Config.noPhrase
  | .patience => c.phrases.getD 1 Config.noPhrase
  | .moving => c.phrases.getD 2 Config.noPhrase
  | .arrive => c.phrases.getD 3 Config.noPhrase
  | .doors => c.phrases.getD 4 Config.noPhrase
  | .help => c.phrases.getD 5 Config.noPhrase

/-- MOVING and HELP are cutting requests, the others ordinary (R7, section 8.3). -/
def Announcement.cutting : Announcement → Bool
  | .moving | .help => true
  | .confirm | .patience | .arrive | .doors => false

/-! ## Validation of the image (R151) -/

/-- One test of COMMIT's validation: the offset it reports on failure, and whether it passes. -/
structure FieldTest where
  offset : Nat
  passes : Bool
  deriving DecidableEq, Repr

/-- A number lies in a range that includes both ends. -/
def within (lo hi n : Nat) : Bool := lo ≤ n && n ≤ hi

/-- The tests on the positions of landings 1..K, and at the flags of landing K the eligibility test. -/
def landingTests (image : List Byte) (k : Nat) : List FieldTest :=
  (List.range k).flatMap fun i =>
    let level := fieldAt2 image (31 + 3 * i)
    let position : FieldTest :=
      { offset := 31 + 3 * i
        passes := within 0 60000 level && (i == 0 || fieldAt2 image (31 + 3 * (i - 1)) + 1000 ≤ level) }
    if i + 1 = k then
      [position, { offset := 33 + 3 * i, passes := ((List.range k).map (landingAt image)).any (·.eligible) }]
    else [position]

/-- The tests of R151 in ascending order of offset. -/
def fieldTests (image : List Byte) : List FieldTest :=
  let c := Settings.ofImage image
  [ { offset := 0, passes := within 0 15 (byteAt image 0).toNat },
    { offset := 1, passes := within 1 2000 c.storeLimit },
    { offset := 3, passes := within 0 c.storeLimit c.soloAllowance },
    { offset := 5, passes := within 1 255 c.drawCeiling },
    { offset := 6, passes := within 0 2000 c.baseDraw },
    { offset := 8, passes := within 0 3000 c.frictionDraw },
    { offset := 10, passes := within 200 6000 c.carMass },
    { offset := 12, passes := within 200 8000 c.counterMass },
    { offset := 14, passes := within 40 95 c.efficiency },
    { offset := 15, passes := within 50 300 c.creepSpeed },
    { offset := 17, passes := within 20 200 c.halfWidth },
    { offset := 18, passes := within 5 60 c.fixedTime },
    { offset := 19, passes := within 0 200 c.occupancy },
    { offset := 20, passes := within 0 500 c.balanceBand },
    { offset := 22, passes := within 1 30 c.verifyTime },
    { offset := 23, passes := within 10 200 c.heartbeatTime },
    { offset := 24, passes := within 20 200 c.probeWindow },
    { offset := 25, passes := within 5 50 c.probeTravel },
    { offset := 26, passes := within 20 200 c.minProgress },
    { offset := 27, passes := within 60 600 c.overspeed && c.creepSpeed < c.overspeed },
    { offset := 29, passes := within 5 30 c.doorTimeout },
    { offset := 30, passes := within 2 6 c.landingCount } ]
  ++ landingTests image c.landingCount
  ++ (List.range 6).map (fun i =>
      let n := (byteAt image (51 + i)).toNat
      { offset := 51 + i, passes := within 0 63 n || n == Config.noPhrase })
  ++ [ { offset := 57, passes := byteAt image 57 == crc (image.take 57) } ]

/-- The validation of COMMIT: the offset of the first test that fails, none when every test passes (R151). -/
def validateImage (image : List Byte) : Option Nat :=
  ((fieldTests image).find? fun t => !t.passes).map (·.offset)

/-! ## The tick message (R160) -/

/-- The four data bytes of a tick. `controller` is none for a state byte above 3, which is out of range. -/
structure TickData where
  position   : Nat
  loadByte   : Nat
  controller : Option ControllerState
  deriving DecidableEq, Repr

/-- The controller state codes of R160. -/
def ControllerState.ofCode : Nat → Option ControllerState
  | 0 => some .running
  | 1 => some .idle
  | 2 => some .stalled
  | 3 => some .service
  | _ => none

/-- The tick in its four data bytes (R160). -/
def TickData.ofBytes (data : List Byte) : TickData :=
  { position := fieldAt2 data 0, loadByte := (byteAt data 2).toNat
    controller := ControllerState.ofCode (byteAt data 3).toNat }

/-- The load that a load byte gives: unknown for 0xFF, ten times the byte, a byte above 250 taken as 250
(R123). -/
def loadOfByte (b : Nat) : Option Nat := if b = 255 then none else some (10 * min 250 b)

/-! ## The voice directory entry (R164) -/

/-- Start and length of a directory entry: bytes 0..2 and 3..5 (R138, R164). -/
def directoryEntry (bytes : List Byte) : Nat × Nat :=
  (nat3 (byteAt bytes 0) (byteAt bytes 1) (byteAt bytes 2), nat3 (byteAt bytes 3) (byteAt bytes 4) (byteAt bytes 5))

/-! ## Codes of the records and frames -/

/-- The presence code of a rescue state; START has none (R3). -/
def RescueState.presenceCode : RescueState → Option Nat
  | .start => none
  | .watch => some 1
  | .parked => some 2
  | .verify => some 3
  | .blocked => some 4
  | .wait => some 5
  | .warn | .probe | .creep | .level | .doors => some 6
  | .landed => some 7
  | .halted => some 8

/-- The rescue state codes of the STATUS record (R162). -/
def RescueState.code : RescueState → Nat
  | .start => 0 | .watch => 1 | .parked => 2 | .verify => 3 | .blocked => 4 | .wait => 5 | .warn => 6
  | .probe => 7 | .creep => 8 | .level => 9 | .doors => 10 | .landed => 11 | .halted => 12

/-- The cause codes of the STATUS record (R162). -/
def Cause.code : Cause → Nat
  | .none => 0 | .chain => 1 | .position => 2 | .infeasible => 3 | .line => 4 | .progress => 5
  | .overspeed => 6 | .reverse => 7 | .brake => 8 | .overrun => 9 | .door => 10

/-- The admission state codes of the STATUS record (R162). -/
def AdmissionState.code : AdmissionState → Nat
  | .none => 0 | .defer => 1 | .queued => 2 | .claiming => 3 | .holder => 4 | .solo => 5

/-- The line state codes of the STATUS record (R162). -/
def LineState.code : LineState → Nat
  | .idle => 0 | .busy => 1 | .sending => 2 | .held => 3 | .stuck => 4 | .lost => 5

/-- The loopback result codes of the STATUS record (R162). -/
def LoopResult.code : LoopResult → Nat
  | .none => 0 | .pass => 1 | .failEcho => 2 | .failSymbol => 3 | .failFraming => 4 | .failCheck => 5
  | .failMismatch => 6

/-- The heartbeat codes of the STATUS record (R162). -/
def Heartbeat.code : Heartbeat → Nat
  | .unsupervised => 0 | .healthy => 1 | .expired => 2

/-- The start cause codes of the STATUS record (R162). -/
def StartCause.code : StartCause → Nat
  | .powerOn => 1 | .resetInput => 2 | .restart => 3

/-- The last-command result codes (R149). -/
def CommandResult.code : CommandResult → Nat
  | .none => 0 | .done => 1 | .framing => 2 | .unknown => 3 | .wrongState => 4 | .range => 5
  | .invalid => 6 | .busy => 7 | .resumeRefused => 8

/-- The RELEASE outcome codes (R159). -/
def ReleaseOutcome.code : ReleaseOutcome → Nat
  | .landed => 0 | .abandoned => 1 | .halted => 2 | .replan => 3

/-- The outcome of a code; 4..15 are out of range (R159). -/
def ReleaseOutcome.ofCode : Nat → Option ReleaseOutcome
  | 0 => some .landed
  | 1 => some .abandoned
  | 2 => some .halted
  | 3 => some .replan
  | _ => none

/-- The state code that a RELEASE gives its sender's record (R83). -/
def ReleaseOutcome.stateCode : ReleaseOutcome → Nat
  | .landed => 7 | .halted => 8 | .replan => 5 | .abandoned => 1

/-- What the port does with a command byte (R148). -/
inductive PortCommand where
  | load | commit | restart | loopback | tickA | tickB | resume | status | view | unknown
  deriving DecidableEq, Repr

/-- The command of a code (R148). -/
def PortCommand.ofCode (b : Byte) : PortCommand :=
  match b.toNat with
  | 0x0A => .load
  | 0x0B => .commit
  | 0x0C => .restart
  | 0x0D => .loopback
  | 0x31 => .tickA
  | 0x32 => .tickB
  | 0x60 => .resume
  | 0x50 => .status
  | 0x51 => .view
  | _ => .unknown

/-- The code of a command (R148); the unknown command has none of its own. -/
def PortCommand.code : PortCommand → Byte
  | .load => 0x0A | .commit => 0x0B | .restart => 0x0C | .loopback => 0x0D | .tickA => 0x31
  | .tickB => 0x32 | .resume => 0x60 | .status => 0x50 | .view => 0x51 | .unknown => 0x00

/-- The byte counts of R148, with the command byte: a modifying command takes effect only with one of them. -/
def PortCommand.countFits : PortCommand → Nat → Bool
  | .load, n => 3 ≤ n && n ≤ 34
  | .commit, n | .restart, n | .loopback, n | .resume, n => n == 1
  | .tickA, n | .tickB, n => n == 5
  | .status, _ | .view, _ | .unknown, _ => false

/-- The modifying commands of R148. -/
def PortCommand.modifying : PortCommand → Bool
  | .load | .commit | .restart | .loopback | .tickA | .tickB | .resume => true
  | .status | .view | .unknown => false

end Sys2Proof.Machine
end

