-- ==== Sys2Proof/Machine/Frames.lean ====
section
/-! DEFINITION. The frames of the rescue line (R159): the bytes the part sends for a frame, and the receive
tests of R98 on the bytes it hears. -/

namespace Sys2Proof.Machine

/-- The kind codes of section 5.1. -/
def FrameKind.code : FrameKind → Byte
  | .release => 0x12 | .adjust => 0x24 | .claim => 0x3C | .presence => 0x71

/-- The order in which entries are taken for sending: ascending kind code (R91). -/
def FrameKind.rank (k : FrameKind) : Nat := k.code.toNat

/-- The kind of a frame. -/
def Frame.kind : Frame → FrameKind
  | .release .. => .release
  | .adjust .. => .adjust
  | .claim .. => .claim
  | .presence .. => .presence

/-- The node number a frame carries: the low four bits of a CLAIM's key (R98). -/
def Frame.node : Frame → Node
  | .release _ n => n
  | .adjust n _ => n
  | .claim k _ => BitVec.extractLsb' 0 4 k
  | .presence n _ => n

/-- The PRESENCE state byte (R159). -/
def PresenceBody.stateByte (b : PresenceBody) : Byte :=
  byte (b.code + flagBit 4 b.draw.isSome + flagBit 5 b.key.isSome + flagBit 6 b.mismatch + flagBit 7 b.solo)

/-- The optional draw of a PRESENCE: one byte or none. -/
def drawBytes : Option Nat → List Byte
  | some d => [byte d]
  | none => []

/-- The optional key of a PRESENCE: three bytes or none. -/
def keyBytes : Option Key → List Byte
  | some k => bytesOfKey k
  | none => []

/-- The bytes of a frame before its check byte (R159). -/
def Frame.payload : Frame → List Byte
  | .release o n => [FrameKind.release.code, byte (16 * o.code + n.toNat)]
  | .adjust n d => [FrameKind.adjust.code, byte n.toNat, byte d]
  | .claim k u => FrameKind.claim.code :: (bytesOfKey k ++ [byte u])
  | .presence n b =>
    [FrameKind.presence.code, byte n.toNat, b.stateByte] ++ bytes2 b.storeLimit ++ drawBytes b.draw
      ++ keyBytes b.key

/-- The bytes of a frame as sent, its check byte last (R1, R159). -/
def Frame.encode (f : Frame) : List Byte := withCheck f.payload

/-- A frame whose fields lie in the ranges of R98 and R159. -/
def Frame.inRange : Frame → Bool
  | .release .. => true
  | .adjust _ d => within 1 255 d
  | .claim _ u => within 1 255 u
  | .presence _ b =>
    within 1 8 b.code && within 1 2000 b.storeLimit && (b.draw.map (within 1 255)).getD true

/-- What FRE finds when it tests the bytes of a frame (R98), before the test for its own number. -/
inductive FrameTest where
  | valid (f : Frame)
  | framing
  | check
  | unknownKind
  deriving DecidableEq, Repr

/-- The node number in a byte whose high four bits must be zero (R158, R159). -/
def nodeOfByte (b : Byte) : Option Node := if b.toNat ≤ 15 then some (BitVec.ofNat 4 b.toNat) else none

/-- A valid frame, or the framing error of contents out of range. -/
def FrameTest.ofContents : Option Frame → FrameTest
  | some f => if f.inRange then .valid f else .framing
  | none => .framing

/-- RELEASE contents: outcome in the high four bits, node in the low (R159). -/
def parseRelease (contents : List Byte) : FrameTest :=
  match contents with
  | [b] => .ofContents ((ReleaseOutcome.ofCode (b.toNat / 16)).map fun o => .release o (BitVec.ofNat 4 b.toNat))
  | _ => .framing

/-- ADJUST contents: node byte, new held draw (R159). -/
def parseAdjust (contents : List Byte) : FrameTest :=
  match contents with
  | [n, d] => .ofContents ((nodeOfByte n).map fun n => .adjust n d.toNat)
  | _ => .framing

/-- CLAIM contents: the key, then U (R159). -/
def parseClaim (contents : List Byte) : FrameTest :=
  match contents with
  | [a, b, c, u] => .ofContents (some (.claim (keyOfBytes a b c) u.toNat))
  | _ => .framing

/-- The optional parts of a PRESENCE, in the order draw, then key, by the flags of its state byte. None when
the byte count is not the one the flags require (R98, R159). -/
def parseOptional (drawFlag keyFlag : Bool) (rest : List Byte) : Option (Option Nat × Option Key) :=
  match drawFlag, keyFlag, rest with
  | false, false, [] => some (none, none)
  | true, false, [d] => some (some d.toNat, none)
  | false, true, [a, b, c] => some (none, some (keyOfBytes a b c))
  | true, true, [d, a, b, c] => some (some d.toNat, some (keyOfBytes a b c))
  | _, _, _ => none

/-- PRESENCE contents: node byte, state byte, S, optional parts (R159). -/
def parsePresence (contents : List Byte) : FrameTest :=
  match contents with
  | n :: st :: hi :: lo :: rest =>
    match parseOptional (st.getLsbD 4) (st.getLsbD 5) rest with
    | some (draw, key) =>
      .ofContents ((nodeOfByte n).map fun n => .presence n
        { code := st.toNat % 16, storeLimit := nat2 hi lo, draw := draw, key := key
          mismatch := st.getLsbD 6, solo := st.getLsbD 7 })
    | none => .framing
  | _ => .framing

/-- The tests of R98 in their order, on the whole bytes of a frame: at least two bytes, the check byte, the
kind, the byte count of the kind, the ranges of the contents. -/
def testFrame (bytes : List Byte) : FrameTest :=
  if bytes.length < 2 then .framing
  else if crc bytes.dropLast ≠ bytes.getLastD 0 then .check
  else
    let contents := bytes.dropLast.drop 1
    match (byteAt bytes 0).toNat with
    | 0x12 => parseRelease contents
    | 0x24 => parseAdjust contents
    | 0x3C => parseClaim contents
    | 0x71 => parsePresence contents
    | _ => .unknownKind

/-- The tests of R98 on a receive buffer: bits that do not make up whole bytes are a framing error. -/
def testBuffer (rx : RxBuffer) : FrameTest := if rx.count = 0 then testFrame rx.bytes else .framing

/-- The two bytes of a roll-call response: node byte, held draw (R159). -/
def responseBytes (n : Node) (draw : Nat) : List Byte := [byte n.toNat, byte draw]

/-- The bits that LIF sends for a frame. -/
def Frame.bits (f : Frame) : List Bool := bitsOfBytes f.encode

end Sys2Proof.Machine
end

