-- ==== Sys2Proof/Machine/Flags.lean ====
section
/-! DEFINITION. The conditions that blocks derive from their state: the stall indication and the cancel
condition of LIU, the availability of the line and the holder role of ADU, the effective store limit, the
mismatch flag and the deferral answer of PVW, the flags byte of the STATUS record, and the output tables of
RSQ. -/

namespace Sys2Proof.Machine

/-! ## LIU -/

/-- The stall indication by its terms (R132): supervised, service lockout clear, and the heartbeat expired, the
debounced mains absent or the latched controller state STALLED. -/
def Liu.stallCondition (l : Liu) : Bool :=
  l.heartbeat != .unsupervised && !l.lockout
    && (l.heartbeat == .expired || !l.mains.level || l.controller == some .stalled)

/-- The cancel condition by its terms (R133): heartbeat healthy, debounced mains present, latched controller
state not STALLED. -/
def Liu.cancelCondition (l : Liu) : Bool :=
  l.heartbeat == .healthy && l.mains.level && l.controller != some .stalled

/-- The debounced input (R129). -/
def Liu.input (l : Liu) : Input → Debounced
  | .mains => l.mains
  | .chain => l.chain
  | .doorZone => l.doorZone
  | .doorsOpen => l.doorsOpen
  | .brakeFeedback => l.brakeFeedback

/-- Write one debounced input. -/
def Liu.setInput (i : Input) (d : Debounced) (l : Liu) : Liu :=
  match i with
  | .mains => { l with mains := d }
  | .chain => { l with chain := d }
  | .doorZone => { l with doorZone := d }
  | .doorsOpen => { l with doorsOpen := d }
  | .brakeFeedback => { l with brakeFeedback := d }

/-- Write the level of one input pin. -/
def Pins.setInput (i : Input) (level : Bool) (p : Pins) : Pins :=
  match i with
  | .mains => { p with mains := level }
  | .chain => { p with chain := level }
  | .doorZone => { p with doorZone := level }
  | .doorsOpen => { p with doorsOpen := level }
  | .brakeFeedback => { p with brakeFeedback := level }

/-- What a sample of the encoder pair means against the pair held (R126). -/
inductive EncoderMeaning where
  | unchanged | step (d : Dir) | illegal
  deriving DecidableEq, Repr

/-- The next pair of the upward cycle: LL, HL, HH, LH (R126). -/
def pairUp (pair : Bool × Bool) : Bool × Bool := (!pair.2, pair.1)

/-- The next pair of the downward cycle, the upward cycle in reverse (R126). -/
def pairDown (pair : Bool × Bool) : Bool × Bool := (pair.2, !pair.1)

/-- The pair one legal step away in a direction. -/
def pairMoved (d : Dir) (pair : Bool × Bool) : Bool × Bool :=
  match d with
  | .up => pairUp pair
  | .down => pairDown pair

/-- The pair with both channels changed (R127). -/
def pairSkipped (pair : Bool × Bool) : Bool × Bool := (!pair.1, !pair.2)

/-- The table of R126. -/
def encoderMeaning (held sampled : Bool × Bool) : EncoderMeaning :=
  if sampled = held then .unchanged
  else if sampled = pairUp held then .step .up
  else if sampled = pairDown held then .step .down
  else .illegal

/-! ## ADU -/

/-- The node is a holder while its admission state is HOLDER or SOLO (R50). -/
def Adu.isHolder (a : Adu) : Bool := a.state == .holder || a.state == .solo

/-- ADU takes the line to be available (R52): not LOST, not STUCK with the line-stuck timer expired, no
DUPLICATE recorded. -/
def Part.lineAvailable (p : Part) : Bool :=
  p.lif.lineState != .lost && !(p.lif.lineState == .stuck && p.adu.stuckTimer.hasExpired)
    && !p.fre.duplicate

/-! ## PVW -/

/-- A record is fresh while its age is below 4 (R76). -/
def PeerRecord.fresh (r : PeerRecord) : Bool := r.age < Config.staleAge

/-- The smallest of the node's own S and the S echoes of all fresh records (R85). -/
def effectiveLimit (own : Nat) (records : List PeerRecord) : Nat :=
  records.foldl (fun m r => if r.fresh then (r.sEcho.map (min m)).getD m else m) own

/-- A fresh record's S echo differs from the node's own S (R85). -/
def mismatchSeen (own : Nat) (records : List PeerRecord) : Bool :=
  records.any fun r => r.fresh && (r.sEcho.map (· != own)).getD false

/-- A record that makes the deferral answer yes for a node whose own key is `own`: fresh, state code 5, a key
present and numerically lower (R87). -/
def PeerRecord.betterPlaced (own : Key) (r : PeerRecord) : Bool :=
  r.fresh && r.stateCode == 5 && (r.key.map fun k => decide (k.toNat < own.toNat)).getD false

/-- The deferral answer (R87): no while the node has no key of its own. -/
def deferralAnswer (own : Option Key) (records : List PeerRecord) : Bool :=
  match own with
  | some k => records.any (PeerRecord.betterPlaced k)
  | none => false

/-! ## RSQ -/

/-- The states in which the alarm is asserted (R5). -/
def RescueState.alarmed : RescueState → Bool
  | .blocked | .wait | .warn | .probe | .creep | .level | .doors | .halted => true
  | .start | .watch | .parked | .verify | .landed => false

/-- The states in which the door-open request is asserted (R5). -/
def RescueState.doorRequested : RescueState → Bool
  | .doors | .landed => true
  | .start | .watch | .parked | .verify | .blocked | .wait | .warn | .probe | .creep | .level | .halted => false

/-- WAIT and BLOCKED, in which the wait-seconds count runs (R33) and the key moves (R45). -/
def RescueState.waiting : RescueState → Bool
  | .wait | .blocked => true
  | .start | .watch | .parked | .verify | .warn | .probe | .creep | .level | .doors | .landed | .halted => false

/-! ## The flags byte of the STATUS record (R162) -/

/-- Bit 0 committed, 1 position valid, 2 service lockout, 3 mismatch, 4 duplicate, 5 voice fault; bits 7..6
zero. -/
def Part.statusFlags (p : Part) : Byte :=
  byte (flagBit 0 p.lpc.committed + flagBit 1 p.liu.positionValid + flagBit 2 p.liu.lockout
    + flagBit 3 p.pvw.mismatch + flagBit 4 p.fre.duplicate + flagBit 5 p.anu.voiceFault)

end Sys2Proof.Machine
end

