-- ==== Sys2Proof/Machine/Plan.lean ====
section
/-! DEFINITION. PCU, the plan calculator (chapter 2): candidates, draws, the time estimate, the key, the plan,
its re-check and the probe re-plan. -/

namespace Sys2Proof.Machine

/-! ## Draws (R40, R41) -/

/-- The electrical power in watts to drive a mass in kilograms: lifting power, then drive efficiency, each
rounded up (R40). -/
def Settings.motor (c : Settings) (mass : Nat) : Nat :=
  ceilDiv (ceilDiv (mass * c.creepSpeed * 981) 100000 * 100) c.efficiency

/-- Draw units of a draw in watts: 50 W each, rounded up, and 1 for a draw of 0 W (R41). -/
def drawUnits (watts : Nat) : Nat := max 1 (ceilDiv watts 50)

/-- The level draw: the base draw alone (R41, R27). -/
def Settings.levelDraw (c : Settings) : Nat := drawUnits c.baseDraw

/-! ## Landings and candidates (R37, R38) -/

/-- A landing with its index 1..K. -/
structure Target where
  index : Nat
  level : Nat
  deriving DecidableEq, Repr

/-- The eligible landings, in ascending order, with their indices. -/
def Settings.eligible (c : Settings) : List Target :=
  c.landings.zipIdx.filterMap fun (l, i) => if l.eligible then some { index := i + 1, level := l.level } else none

/-- The distance between a landing and a position. -/
def Target.distance (t : Target) (p : Nat) : Nat := (t.level - p) + (p - t.level)

/-- The eligible landing within Z of p (R37); at most one exists in a valid configuration. -/
def Settings.zoneLanding (c : Settings) (p : Nat) : Option Target :=
  c.eligible.find? fun t => t.distance p ≤ c.halfWidth

/-- A landing is a candidate in a direction from p (R38). -/
def Settings.isCandidate (c : Settings) (p : Nat) (d : Dir) (t : Target) : Bool :=
  match d with
  | .up => p + c.halfWidth < t.level
  | .down => t.level + c.halfWidth < p

/-- The closest of a list of landings, the first on equal distance. -/
def nearest (p : Nat) : List Target → Option Target
  | [] => none
  | t :: ts =>
    match nearest p ts with
    | none => some t
    | some u => if t.distance p ≤ u.distance p then some t else some u

/-- The nearest candidate in a direction (R38). -/
def Settings.candidate (c : Settings) (p : Nat) (d : Dir) : Option Target :=
  nearest p (c.eligible.filter (c.isCandidate p d))

/-- The nearest candidate in either direction with its direction, down on equal distance (R38). -/
def Settings.eitherCandidate (c : Settings) (p : Nat) : Option (Dir × Target) :=
  match c.candidate p .down, c.candidate p .up with
  | some t, some u => if t.distance p ≤ u.distance p then some (.down, t) else some (.up, u)
  | some t, none => some (.down, t)
  | none, some u => some (.up, u)
  | none, none => none

/-! ## The key (R44) -/

/-- The wait class: min(7, floor(wait seconds / 60)) (R33). -/
def waitClass (waitSeconds : Nat) : Nat := min 7 (waitSeconds / 60)

/-- The key from its fields: occupancy, wait field, time units, turn, refusal field, node (R44). -/
def composeKey (occupied : Bool) (waitSeconds timeUnits : Nat) (own last : Node) (refusals : Nat) : Key :=
  (if occupied then 0#1 else 1#1) ++ BitVec.ofNat 3 (7 - waitClass waitSeconds) ++ BitVec.ofNat 8 timeUnits
    ++ (own - last - 1#4) ++ BitVec.ofNat 4 (15 - min 15 refusals) ++ own

/-! ## Time (R43) -/

/-- The time estimate of a motion plan: travel time rounded up, plus the fixed time. -/
def Settings.motionTime (c : Settings) (distance : Nat) : Nat := ceilDiv distance c.creepSpeed + c.fixedTime

/-- The time units of the key. -/
def timeUnitsOf (estimate : Nat) : Nat := min 255 (ceilDiv estimate 2)

/-! ## Making a plan (R36) -/

/-- What PCU reads when a plan is made (R35). -/
structure PlanInputs where
  position     : Nat
  valid        : Bool
  load         : Option Nat
  sEff         : Nat
  lastReleased : Node
  waitSeconds  : Nat
  refusals     : Nat
  deriving DecidableEq, Repr

/-- A plan blocked for POSITION: kind motion, basis none, U zero, no key, no further figure (R36 step 1). -/
def Plan.blockedPosition : Plan := { Plan.empty with kind := .motion, blockCause := .position }

/-- The imbalance D = Mc + L − Mw (R38). -/
def Settings.imbalance (c : Settings) (load : Nat) : Int := (c.carMass : Int) + load - c.counterMass

/-- The direction that gravity favours: down for D > 0, up for D < 0 (R38). -/
def favoured (d : Int) : Dir := if 0 < d then .down else .up

/-- The other direction. -/
def oppositeDir : Dir → Dir
  | .up => .down
  | .down => .up

/-- The choice of R38 and R39: basis, direction and target, motor draw. -/
structure MotionChoice where
  basis  : Basis
  target : Option (Dir × Target)
  motor  : Nat
  deriving DecidableEq, Repr

/-- The table of R38 for an imbalance. -/
def Settings.chooseByImbalance (c : Settings) (p : Nat) (d : Int) : MotionChoice :=
  if d = 0 ∨ d.natAbs < c.balanceBand then
    { basis := .balanced, target := c.eitherCandidate p, motor := c.motor c.balanceBand }
  else
    match c.candidate p (favoured d) with
    | some t => { basis := .favoured, target := some (favoured d, t), motor := 0 }
    | none =>
      { basis := .against
        target := (c.candidate p (oppositeDir (favoured d))).map fun t => (oppositeDir (favoured d), t)
        motor := c.motor d.natAbs }

/-- R38 when the load is known, R39 when it is not. `load` is none too while the load-override flag is set. -/
def Settings.chooseMotion (c : Settings) (p : Nat) (load : Option Nat) : MotionChoice :=
  match load with
  | some l => c.chooseByImbalance p (c.imbalance l)
  | none => { basis := .unknown, target := c.eitherCandidate p, motor := 0 }

/-- The check of U against the draw ceiling and S_eff (R42). -/
def Settings.checkDraw (c : Settings) (draw sEff : Nat) : BlockCause :=
  if c.drawCeiling < draw then .infeasible else if sEff < draw then .infeasible else .none

/-- The occupancy field: occupied when L ≥ Locc, or the load unknown or overridden (R44). -/
def Settings.isOccupied (c : Settings) (load : Option Nat) : Bool := (load.map fun l => decide (c.occupancy ≤ l)).getD true

/-- Steps 4 to 6 of R36: the draw check, the time units and the key, over the figures found before. -/
def Settings.finishPlan (c : Settings) (i : PlanInputs) (base : Plan) (estimate : Nat) : Plan :=
  let occupied := c.isOccupied i.load
  { base with
    levelDraw := c.levelDraw
    timeEstimate := estimate
    timeUnits := timeUnitsOf estimate
    occupied := occupied
    key := some (composeKey occupied i.waitSeconds (timeUnitsOf estimate) c.node i.lastReleased i.refusals)
    blockCause := c.checkDraw base.draw i.sEff }

/-- A zone plan (R37). -/
def Settings.zonePlan (c : Settings) (i : PlanInputs) (t : Target) : Plan :=
  c.finishPlan i
    { Plan.empty with
      kind := .zone, target := t.index, level := t.level, totalDraw := some c.baseDraw
      draw := drawUnits c.baseDraw }
    c.fixedTime

/-- A motion plan (R38, R39, R41). The total draw is absent and U is Cmax for an UNKNOWN plan. -/
def Settings.motionPlan (c : Settings) (i : PlanInputs) : Plan :=
  let m := c.chooseMotion i.position i.load
  let total := c.baseDraw + c.frictionDraw + m.motor
  let level := (m.target.map (·.2.level)).getD 0
  c.finishPlan i
    { Plan.empty with
      kind := .motion, basis := m.basis, direction := m.target.map (·.1)
      target := (m.target.map (·.2.index)).getD 0
      level := level, motorDraw := m.motor
      totalDraw := if m.basis = .unknown then none else some total
      draw := if m.basis = .unknown then c.drawCeiling else drawUnits total }
    (c.motionTime ((level - i.position) + (i.position - level)))

/-- A plan, made in one step from its inputs: position, zone, then load (R36). -/
def Settings.makePlan (c : Settings) (i : PlanInputs) : Plan :=
  if !i.valid then .blockedPosition
  else
    match c.zoneLanding i.position with
    | some t => c.zonePlan i t
    | none => c.motionPlan i

/-- The inputs of a plan as the blocks hold them (R35). The load reads unknown while the load-override flag is
set (R34). -/
def Part.planInputs (p : Part) : PlanInputs :=
  { position := p.liu.position, valid := p.liu.positionValid
    load := if p.pcu.loadOverride then none else p.liu.load
    sEff := p.pvw.sEff.getD 0, lastReleased := p.pvw.lastReleased
    waitSeconds := p.pcu.waitSeconds, refusals := p.pcu.refusals }

/-! ## The key in place (R45) -/

/-- The plan with its key recomputed from the figures as they stand; a plan without a key gets none (R45). -/
def Part.rekeyedPlan (p : Part) : Plan :=
  { p.pcu.plan with
    key := p.pcu.plan.key.map fun _ =>
      composeKey p.pcu.plan.occupied p.pcu.waitSeconds p.pcu.plan.timeUnits p.settings.node
        p.pvw.lastReleased p.pcu.refusals }

/-! ## The probe re-plan (R46 to R48) -/

/-- The outcome of the probe race (R20). -/
inductive ProbeOutcome where
  | observed (d : Dir)
  | balanced
  deriving DecidableEq, Repr

/-- PCU's result (R21): continue with the target and direction given and the draw needed, or REPLAN. -/
inductive ProbeResult where
  | proceed (needed : Nat) (retarget : Option (Dir × Target))
  | replan
  deriving DecidableEq, Repr

/-- The draw of motion without the motor: ceil((Pbase + Pfric) / 50), or 1 when that is 0 (R46). -/
def Settings.coastDraw (c : Settings) : Nat := drawUnits (c.baseDraw + c.frictionDraw)

/-- The draw of a balanced car: ceil((Pbase + Pfric + motor(Dmin)) / 50), or 1 when that is 0 (R48). -/
def Settings.balancedDraw (c : Settings) : Nat :=
  drawUnits (c.baseDraw + c.frictionDraw + c.motor c.balanceBand)

/-- The claim covered driving against an unknown imbalance (R47, second case): a BALANCED or AGAINST plan on the figures, a
FAVOURED or UNKNOWN one by its row of the table, so that a FAVOURED plan is not covered even where motor(Dmin) is 0
(assumption 50: DESIGN CHOICE, unsafe). -/
def Plan.coversDrive (plan : Plan) (c : Settings) : Bool :=
  match plan.basis with
  | .unknown => true
  | .balanced | .against => c.motor c.balanceBand ≤ plan.motorDraw
  | .favoured | .none => false

/-- PCU's answer to the probe outcome, for the claimed draw and the position at the end of the race. -/
def Settings.probeReplan (c : Settings) (plan : Plan) (claimed position : Nat) : ProbeOutcome → ProbeResult
  | .observed d =>
    if plan.direction = some d then .proceed c.coastDraw none
    else
      match c.candidate position d with
      | some t => .proceed c.coastDraw (some (d, t))
      | none => if plan.coversDrive c then .proceed claimed none else .replan
  | .balanced =>
    if c.balancedDraw ≤ claimed then .proceed c.balancedDraw (c.eitherCandidate position) else .replan

/-- The plan with its target and direction changed in place by a re-target (R32, R49). -/
def Plan.retargeted (plan : Plan) : Option (Dir × Target) → Plan
  | some (d, t) => { plan with direction := some d, target := t.index, level := t.level }
  | none => plan

end Sys2Proof.Machine
end

