-- ==== Sys2Proof/Machine/Announce.lean ====
section
/-! DEFINITION. ANU, the announcement unit (chapter 8), as operations on its own record. Each takes the committed
configuration and, where the PATIENCE timer depends on it (R144), whether the rescue state is WAIT. -/

namespace Sys2Proof.Machine

/-- ANU's report to RSQ about a MOVING request (R145). -/
inductive MovingReport where
  | completed | unavailable
  deriving DecidableEq, Repr

/-- The PATIENCE timer starts at 30 s when both slots are empty while the rescue state is WAIT (R144). -/
def Anu.startPatience (waiting : Bool) (a : Anu) : Anu :=
  if waiting ∧ a.current = none ∧ a.next = none then { a with patience := .running Config.patienceTime } else a

/-- The current phrase is in FETCH or SOUNDING. -/
def Anu.fetching (a : Anu) : Bool :=
  match a.current with
  | some ph => ph.stage != .lookup
  | none => false

/-- A directory read is issued: the six bytes at 6 times the phrase number (R138, R164). -/
def Transaction.lookUp (number : Nat) : Transaction := .directory (6 * number)

/-- What ANU sends on VM_DO in a transaction: the read command byte 0x03 and the 24-bit byte address, most
significant byte first (R137). -/
def Transaction.sent : Transaction → List Byte
  | .none => []
  | .directory address | .refill address _ _ => 0x03 :: bytes3 address

/-- The number of bytes that a transaction clocks in (R137, R138, R141). -/
def Transaction.length : Transaction → Nat
  | .none => 0
  | .directory _ => 6
  | .refill _ count _ => count

/-- VM_CSN is asserted exactly while a transaction stands; VM_SCK and VM_DO are held low when none does (R137). -/
def Anu.selectsMemory (a : Anu) : Bool := a.transaction != .none

/-- Issue a refill read when the four conditions of R141 hold; it covers 8 bytes, or what is still to fetch, at the
fetch address. -/
def Anu.refill (a : Anu) : Anu :=
  if a.fetching ∧ 0 < a.toFetch ∧ a.fifo.length ≤ 8 ∧ a.transaction = .none then
    { a with transaction := .refill a.fetchAddress (min 8 a.toFetch) 0 }
  else a

/-- A valid entry: the play position is set, the stage becomes FETCH, the first refill is issued (R140). -/
def Anu.openEntry (number start length : Nat) (a : Anu) : Anu :=
  Anu.refill { a with current := some { number := number, stage := .fetch }, fetchAddress := start
                      toFetch := length, toPlay := length }

/-- A phrase enters the current slot at LOOKUP: a memory size of 0 skips it, and with it any phrase in the next
slot, without a read; a cache hit needs no read; otherwise a directory read is made (R138, R140). The PATIENCE
timer stops (R144). -/
def Anu.place (c : Settings) (waiting : Bool) (number : Nat) (a : Anu) : Anu :=
  let a := { a with current := some { number := number, stage := .lookup }, patience := .stopped }
  if c.voiceSize = 0 then Anu.startPatience waiting { a with current := none, next := none }
  else
    match a.cache with
    | some e =>
      if e.number = number then a.openEntry number e.start e.length
      else { a with transaction := .lookUp number }
    | none => { a with transaction := .lookUp number }

/-- A played or skipped end: the next slot's phrase moves to the current slot, or ANU is silent (R140). -/
def Anu.endPhrase (c : Settings) (waiting : Bool) (a : Anu) : Anu :=
  match a.next with
  | some n => Anu.place c waiting n { a with current := none, next := none }
  | none => Anu.startPatience waiting { a with current := none }

/-- A cut ends the current phrase, abandons its transaction and empties the FIFO and the next slot; it makes no
completion report, and a MOVING that is cut is owed no longer (R139, R145). The speaker goes low at the next
sample instant. -/
def Anu.cut (a : Anu) : Anu :=
  { a with current := none, next := none, fifo := [], transaction := .none, movingOwed := false }

/-- An ordinary or a cutting request, by the configured phrase number (R139). -/
def Anu.request (c : Settings) (waiting : Bool) (ev : Announcement) (a : Anu) : Anu :=
  let number := c.phrase ev
  if ev.cutting then
    let a := a.cut
    if number = Config.noPhrase then a.startPatience waiting else a.place c waiting number
  else if a.current = none then
    if number = Config.noPhrase then a.startPatience waiting else a.place c waiting number
  else if number = Config.noPhrase then { a with next := none }
  else { a with next := some number }

/-- The MOVING request with the report made as it is taken: completed for phrase number 255, voice unavailable
for a memory size of 0; otherwise the report is owed (R145). -/
def Anu.requestMoving (c : Settings) (a : Anu) : Anu × Option MovingReport :=
  let a := a.request c false .moving
  if c.phrase .moving = Config.noPhrase then (a, some .completed)
  else if c.voiceSize = 0 then (a, some .unavailable)
  else ({ a with movingOwed := true }, none)

/-- The report that an ended phrase owes, if it is the MOVING phrase of the current WARN (R145). -/
def Anu.owedReport (a : Anu) (r : MovingReport) : Option MovingReport := if a.movingOwed then some r else none

/-- The duty for a sample (R143): the sample less 128, scaled by V/7 toward zero, plus 128. -/
def sampleDuty (volume : Nat) (sample : Byte) : Nat :=
  (128 + Int.tdiv (((sample.toNat : Int) - 128) * volume) 7).toNat

/-- The speaker outputs while a phrase plays: held low while V is 0 (R143). -/
def speakerFor (volume duty : Nat) : Speaker := if volume = 0 then .low else .pulse duty

/-- Take the oldest sample byte: duty, last duty, samples still to play, and a refill when one is due
(R142, R141).
(Assumption 30: DESIGN CHOICE, unsafe.) -/
def Anu.takeSample (sample : Byte) (rest : List Byte) (a : Anu) : Anu :=
  let duty := sampleDuty a.volume sample
  Anu.refill { a with fifo := rest, toPlay := a.toPlay - 1, lastDuty := duty
                      speaker := speakerFor a.volume duty }

/-- One sample instant (R142). The played end comes at the instant after the last sample was taken (R140). The
first sample makes the phrase SOUNDING and clears the voice-fault flag (R146). -/
def Anu.sample (c : Settings) (waiting : Bool) (a : Anu) : Anu × Option MovingReport :=
  match a.current with
  | some { number := n, stage := .sounding } =>
    if a.toPlay = 0 then
      (Anu.endPhrase c waiting { a with movingOwed := false, speaker := .low }, a.owedReport .completed)
    else
      match a.fifo with
      | b :: rest => (Anu.takeSample b rest { a with current := some { number := n, stage := .sounding } }, none)
      | [] => ({ a with underruns := saturate Config.countTop a.underruns }, none)
  | some { number := n, stage := .fetch } =>
    match a.fifo with
    | b :: rest =>
      (Anu.takeSample b rest { a with current := some { number := n, stage := .sounding }, voiceFault := false }, none)
    | [] => ({ a with speaker := .low }, none)
  | some { number := _, stage := .lookup } => ({ a with speaker := .low }, none)
  | none => ({ a with speaker := .low }, none)

/-- The tests on a directory entry: a length of 0, or an end beyond the memory, is invalid (R138). -/
def entryValid (c : Settings) (start length : Nat) : Bool :=
  length != 0 && start + length ≤ c.voiceSize * 65536

/-- A completed directory read (R138): a valid entry is cached and the phrase passes to FETCH; an invalid one
sets the voice-fault flag and the phrase is skipped. -/
def Anu.directoryDone (c : Settings) (waiting : Bool) (entry : Nat × Nat) (a : Anu) : Anu × Option MovingReport :=
  match a.transaction, a.current with
  | .directory _, some { number := n, stage := .lookup } =>
    let a := { a with transaction := .none }
    if entryValid c entry.1 entry.2 then
      (Anu.openEntry n entry.1 entry.2
        { a with cache := some { number := n, start := entry.1, length := entry.2 } }, none)
    else
      (Anu.endPhrase c waiting { a with voiceFault := true, movingOwed := false }, a.owedReport .unavailable)
  | _, _ => (a, none)

/-- The next bytes of a refill read are clocked in, and each enters the FIFO (R141); of bytes beyond those that the
read covers none is taken. With the last of them the transaction ends: the fetch address advances by the count and the
samples still to fetch fall by it. (Assumption 9: DESIGN CHOICE, safe.) -/
def Anu.refillDone (bytes : List Byte) (a : Anu) : Anu :=
  match a.transaction with
  | .refill address count received =>
    let taken := bytes.take (count - received)
    let a := { a with fifo := a.fifo ++ taken }
    if received + taken.length < count then { a with transaction := .refill address count (received + taken.length) }
    else
      Anu.refill { a with fetchAddress := a.fetchAddress + count, toFetch := a.toFetch - count, transaction := .none }
  | .none | .directory _ => a

/-- The expiry of the PATIENCE timer: an ordinary PATIENCE request of ANU's own (R144). -/
def Anu.patienceExpiry (c : Settings) (waiting : Bool) (a : Anu) : Anu :=
  if a.patience.isRunning then Anu.request c waiting .patience { a with patience := .stopped } else a

/-- ANU's part in a change of the rescue state: leaving WARN ends the debt of a MOVING report (R145), leaving
WAIT stops the PATIENCE timer, entering WAIT with both slots empty starts it (R144). -/
def Anu.rescueStateChanged (old new : RescueState) (a : Anu) : Anu :=
  let a := if old = .warn then { a with movingOwed := false } else a
  if new = .wait then a.startPatience true else { a with patience := .stopped }

/-- At commit ANU takes the default volume; the phrase numbers and the memory size are read from the committed
configuration (R136). -/
def Anu.commit (c : Settings) (a : Anu) : Anu := { a with volume := c.volume }

end Sys2Proof.Machine
end

