-- ==== Sys2Proof/Machine/TxQueue.lean ====
section
/-! DEFINITION. FRE's transmit queue (section 5.2): offers, removals, the entry in flight and the end of its
attempt; and the building of Presence frames (R90). -/

namespace Sys2Proof.Machine

/-- The entries of one kind leave the queue. -/
def dropKind (k : FrameKind) (queue : List Entry) : List Entry := queue.filter fun e => e.frame.kind != k

/-- Insert an entry in ascending order of kind code (R91). -/
def insertEntry (e : Entry) : List Entry → List Entry
  | [] => [e]
  | x :: xs => if e.frame.kind.rank ≤ x.frame.kind.rank then e :: x :: xs else x :: insertEntry e xs

/-- An entry joins the queue or takes another's place, with attempt count 0 (R91). -/
def enqueue (f : Frame) (queue : List Entry) : List Entry :=
  insertEntry { frame := f, attempts := 0 } (dropKind f.kind queue)

/-- The entry of a kind is in flight. -/
def Fre.flying (r : Fre) (k : FrameKind) : Bool :=
  match r.inFlight with
  | some x => x.kind == k
  | none => false

/-- Hold an offer against the entry in flight; of two, the later decides (R92). -/
def Fre.hold (h : HeldOffer) (r : Fre) : Fre :=
  { r with inFlight := r.inFlight.map fun x => { x with held := some h } }

/-- Remove a queued entry of a kind, at once or, in flight, at the end of its attempt (R91, R92). -/
def Fre.removeKind (k : FrameKind) (r : Fre) : Fre :=
  if r.flying k then r.hold .remove else { r with queue := dropKind k r.queue }

/-- Put a frame in the queue, at once or, against an entry in flight, at the end of its attempt (R91, R92). -/
def Fre.put (f : Frame) (r : Fre) : Fre :=
  if r.flying f.kind then r.hold (.replace f) else { r with queue := enqueue f r.queue }

/-- Take an offer (R91): a RELEASE also removes any queued Claim and any queued Adjust. -/
def Fre.offer (f : Frame) (r : Fre) : Fre :=
  match f.kind with
  | .release => ((r.put f).removeKind .claim).removeKind .adjust
  | .adjust | .claim | .presence => r.put f

/-- Apply an offer held against an entry whose attempt has ended (R92): a replacement takes its place with
attempt count 0, a removal removes it. -/
def applyHeld (k : FrameKind) (held : Option HeldOffer) (queue : List Entry) : List Entry :=
  match held with
  | some (.replace f) => enqueue f queue
  | some .remove => dropKind k queue
  | none => queue

/-- Raise the attempt count of the entry of a kind. -/
def raiseAttempts (k : FrameKind) (queue : List Entry) : List Entry :=
  queue.map fun e => if e.frame.kind = k then { e with attempts := e.attempts + 1 } else e

/-- The entry of a kind has reached its eighth error attempt (R96). -/
def attemptsSpent (k : FrameKind) (queue : List Entry) : Bool :=
  queue.any fun e => e.frame.kind == k && Config.attemptLimit ≤ e.attempts

/-- An error attempt of the entry of a kind: the count is raised, the entry dropped at 8, and then a held offer
applied (R92, R96). A Claim's report is spoiled, or dropped (R104). -/
def Fre.errorAttemptOf (k : FrameKind) (held : Option HeldOffer) (r : Fre) : Fre :=
  let raised := raiseAttempts k r.queue
  let spent := attemptsSpent k raised
  let kept := if spent then dropKind k raised else raised
  { r with
    queue := applyHeld k held kept
    inFlight := none
    report := if k = .claim then some (if spent then .dropped else .spoiled) else r.report }

/-- The attempt in flight ends with an error (R96). -/
def Fre.errorAttempt (r : Fre) : Fre :=
  match r.inFlight with
  | some x => r.errorAttemptOf x.kind x.held
  | none => r

/-- The attempt in flight is lost (R95): its count is unchanged, a held offer is applied, and a Claim's report
is lost. -/
def Fre.lostAttempt (r : Fre) : Fre :=
  match r.inFlight with
  | some x =>
    { r with
      queue := applyHeld x.kind x.held r.queue, inFlight := none, lostKind := some x.kind
      report := if x.kind = .claim then some .lost else r.report
      counters := { r.counters with arbitration := saturate Config.countTop r.counters.arbitration } }
  | none => r

/-- The attempt in flight ended clean: the sent entry leaves the queue and a held replacement joins it (R92,
R97). -/
def Fre.cleanAttempt (r : Fre) : Fre :=
  match r.inFlight with
  | some x => { r with queue := applyHeld x.kind x.held (dropKind x.kind r.queue), inFlight := none }
  | none => r

/-- The Presence built for the state as it stands (R90); a node without a number, or in START, builds none. -/
def Part.buildPresence (p : Part) : Option Frame :=
  match p.ownNode, p.rsq.state.presenceCode with
  | some n, some code =>
    some (.presence n
      { code := code, storeLimit := p.settings.storeLimit
        draw := if p.adu.isHolder then some p.adu.heldDraw else none
        key := if p.rsq.state = .wait then p.pcu.plan.key else none
        mismatch := p.pvw.mismatch, solo := p.adu.state == .solo })
  | _, _ => none

/-- Offer a Presence built for the state as it stands (R93). -/
def Part.offerPresence (p : Part) : Part :=
  match p.buildPresence with
  | some f => p.mapFre (Fre.offer f)
  | none => p

/-- Offer a Claim with the plan's key and U, copied as they stand (R53, R59). -/
def Part.offerClaim (p : Part) : Part :=
  match p.pcu.plan.key with
  | some k => p.mapFre (Fre.offer (.claim k p.pcu.plan.draw))
  | none => p

end Sys2Proof.Machine
end

