-- ==== Sys2Proof/Machine/Rescue.lean ====
section
/-! DEFINITION. RSQ and ADU together (chapters 1 and 3): the entries to the rescue states, the admission
record's events, the reports RSQ takes from its neighbours, and PCU's plan requests and key recomputations.
Every entry is one operation here; the meanings call it. -/

namespace Sys2Proof.Machine

/-! ## Changes of the rescue state -/

/-- The timers of the sequencer, each of which belongs to one state, stand stopped. -/
def Rsq.stopTimers (r : Rsq) : Rsq :=
  { r with
    verifyTimer := .stopped, gateTimer := .stopped, probeTick := .stopped, progressTimer := .stopped
    speedTimer := .stopped, brakeTimer := .stopped, levelTimer := .stopped, standstillTimer := .stopped
    doorTimer := .stopped }

/-- PCU's 1 s timer starts on a move into WAIT or BLOCKED from another state, runs on in a move between them,
and stops when RSQ leaves both (R33). -/
def Pcu.rescueStateChanged (old new : RescueState) (c : Pcu) : Pcu :=
  if !new.waiting then { c with waitTimer := .stopped }
  else if old.waiting then c
  else { c with waitTimer := .running Config.secondTime }

/-- Change the rescue state and report it to PCU, ANU and FRE, which offers a Presence built for the new state
(section 1.2, R93). -/
def Part.changeState (new : RescueState) (p : Part) : Part :=
  let old := p.rsq.state
  (p.mapRsq (fun r => { r.stopTimers with state := new, cancelCame := false })
    |>.mapPcu (Pcu.rescueStateChanged old new)
    |>.mapAnu (Anu.rescueStateChanged old new)).offerPresence

/-- Brake release, drive enable, door-open request and alarm for a state that asserts neither brake release
nor drive enable; drive direction held (R5). -/
def RescueState.restOutputs (s : RescueState) (o : Outputs) : Outputs :=
  { o with brakeRelease := false, driveEnable := false, doorRequest := s.doorRequested, alarm := s.alarmed }

/-- Enter a state in which the car is not moved: outputs by R5, cause none. -/
def Part.enterAtRest (new : RescueState) (p : Part) : Part :=
  (p.mapRsq fun r => { r with cause := .none, outputs := new.restOutputs r.outputs }).changeState new

/-- Request a phrase of ANU (R7, R139). -/
def Part.requestPhrase (ev : Announcement) (p : Part) : Part :=
  p.mapAnu fun a => a.request p.settings (p.rsq.state == .wait) ev

/-- Enter VERIFY and start the verify timer at the configured verify time (R9). -/
def Part.enterVerify (p : Part) : Part :=
  (p.enterAtRest .verify).mapRsq fun r => { r with verifyTimer := .running (Config.ms (1000 * p.settings.verifyTime)) }

/-- Enter WATCH (R7): outputs, cause, PCU's counts cleared; a stall indication present sends the sequencer on
to VERIFY. -/
def Part.enterWatch (p : Part) : Part :=
  let p := (p.enterAtRest .watch).mapPcu fun c => { c with waitSeconds := 0, refusals := 0, loadOverride := false }
  if p.liu.stall then p.enterVerify else p

/-- Enter PARKED (R12). -/
def Part.enterParked (p : Part) : Part := p.enterAtRest .parked

/-! ## The end of a holding (R66) -/

/-- ADU takes ended with an outcome: in the holder states both draws fall to 0, the state becomes NONE, and a
RELEASE is offered when the line is available; in any other state it has no effect.
(Assumption 12: DEDUCED, unsafe.) -/
def Part.ended (outcome : ReleaseOutcome) (p : Part) : Part :=
  if p.adu.isHolder then
    let p := p.mapAdu fun a =>
      { a with state := .none, heldDraw := 0, admittedDraw := 0, retryTimer := .stopped
               deferralTimer := .stopped, lastRelease := some outcome }
    if p.lineAvailable then p.mapFre (Fre.offer (.release outcome p.settings.node)) else p
  else p

/-- A needed draw below the held draw lowers it and offers an ADJUST when the line is available (R65). -/
def Part.neededDraw (needed : Nat) (p : Part) : Part :=
  if p.adu.isHolder ∧ needed < p.adu.heldDraw then
    let p := p.mapAdu fun a => { a with heldDraw := needed }
    if p.lineAvailable then p.mapFre (Fre.offer (.adjust p.settings.node needed)) else p
  else p

/-! ## Landing, doors, levelling, halting -/

/-- Enter LANDED (R29): the holding ends with Release LANDED, before the Presence of the new state is built (assumption
36: DESIGN CHOICE, unsafe); the cancel condition as it stands leads on to WATCH. -/
def Part.enterLanded (p : Part) : Part :=
  let p := (p.ended .landed).enterAtRest .landed
  if p.liu.cancel then p.enterWatch else p

/-- Enter DOORS (R28): door-open request, DOORS phrase, door timer; doors already open lead on to LANDED. -/
def Part.enterDoors (p : Part) : Part :=
  let p := ((p.enterAtRest .doors).requestPhrase .doors).mapRsq fun r =>
    { r with doorTimer := .running (Config.ms (1000 * p.settings.doorTimeout)) }
  if p.liu.doorsOpen.level then p.enterLanded else p

/-- Enter HALTED with a cause (R30): outputs, cause, Release HALTED, HELP. The holding ends before the Presence of the
new state is built (assumption 36: DESIGN CHOICE, unsafe). -/
def Part.enterHalted (cause : Cause) (p : Part) : Part :=
  (((p.ended .halted).enterAtRest .halted).mapRsq fun r => { r with cause := cause }).requestPhrase .help

/-- Enter LEVEL (R27): drive and brake off, ARRIVE, the level and standstill timers, the level draw to ADU (R65), after
the Presence of the new state has been built (assumption 31: DESIGN CHOICE, unsafe). -/
def Part.enterLevel (p : Part) : Part :=
  (((p.enterAtRest .level).requestPhrase .arrive).mapRsq fun r =>
    { r with levelTimer := .running Config.levelTime, standstillTimer := .running Config.standstillTime }).neededDraw
      p.pcu.plan.levelDraw

/-! ## Motion -/

/-- The plan direction is written to the drive direction output; a plan without a direction does not write it
(R5). -/
def Outputs.steer (d : Option Dir) (o : Outputs) : Outputs := { o with direction := d.getD o.direction }

/-- Enter CREEP (R23). -/
def Part.enterCreep (p : Part) : Part :=
  (p.mapRsq fun r =>
    { r with
      cause := .none
      outputs := { r.outputs.steer p.pcu.plan.direction with
                   brakeRelease := true, driveEnable := true, doorRequest := false, alarm := true } })
    |>.changeState .creep
    |>.mapRsq fun r =>
      { r with
        brakeTimer := .running Config.brakeTime, brakeSeen := p.liu.brakeFeedback.level
        progressTimer := .running Config.progressTime, progressNet := 0
        speedTimer := .running Config.speedTime, speedCount := 0, netReverse := 0 }

/-- Enter PROBE (R20). -/
def Part.enterProbe (p : Part) : Part :=
  (p.mapRsq fun r =>
    { r with
      cause := .none
      outputs := { r.outputs.steer p.pcu.plan.direction with
                   brakeRelease := true, driveEnable := false, doorRequest := false, alarm := true } })
    |>.changeState .probe
    |>.mapRsq fun r =>
      { r with probeWindow := 0, probePulses := 0, probeNet := 0, probeTick := .running Config.probeTickTime }

/-- RSQ takes a report about MOVING in WARN (R18): completed opens the gate; voice unavailable sets the mark,
and opens the gate when the fallback timer has already expired. -/
def Part.movingReport (r : MovingReport) (p : Part) : Part :=
  if p.rsq.state = .warn then
    match r with
    | .completed => p.enterProbe
    | .unavailable =>
      let p := p.mapRsq fun r => { r with voiceUnavailable := true }
      if p.rsq.gateTimer.hasExpired then p.enterProbe else p
  else p

/-- RSQ takes a report, if ANU made one. -/
def Part.takeMoving (r : Option MovingReport) (p : Part) : Part :=
  match r with
  | some r => p.movingReport r
  | none => p

/-- Enter WARN (R18): the mark clear, the fallback timer at 3 s, MOVING as a cutting request. -/
def Part.enterWarn (p : Part) : Part :=
  let p := (p.enterAtRest .warn).mapRsq fun r =>
    { r with voiceUnavailable := false, gateTimer := .running Config.gateTime }
  let (anu, report) := p.anu.requestMoving p.settings
  ({ p with anu := anu }).takeMoving report

/-! ## Blocking -/

/-- Enter BLOCKED with a cause (R13): alarm, cause recorded, HELP as a cutting request. -/
def Part.enterBlocked (cause : Cause) (p : Part) : Part :=
  ((p.enterAtRest .blocked).mapRsq fun r => { r with cause := cause }).requestPhrase .help

/-- ADU takes a withdraw (R68, R69, R70). -/
def Part.withdraw (p : Part) : Part :=
  match p.adu.state with
  | .none => p
  | .defer => p.mapAdu fun a => { a with state := .none, retryTimer := .stopped, deferralTimer := .stopped }
  | .queued =>
    (p.mapFre (Fre.removeKind .claim)).mapAdu fun a => { a with state := .none, retryTimer := .stopped }
  | .claiming => p.mapAdu fun a => { a with withdrawn := true, pendingSeek := false }
  | .holder | .solo => p.ended .abandoned

/-! ## Admission (R53, R57, R62, R71) -/

/-- RSQ takes "admitted" in WAIT: a motion plan leads to WARN, a zone plan to DOORS (R16). -/
def Part.admitted (p : Part) : Part :=
  if p.rsq.state = .wait then (if p.pcu.plan.kind = .zone then p.enterDoors else p.enterWarn) else p

/-- RSQ takes "line-blocked" in WAIT: BLOCKED with cause LINE (R15). -/
def Part.lineBlocked (p : Part) : Part := if p.rsq.state = .wait then p.enterBlocked .line else p

/-- ADU grants a draw: held and admitted draw are set to it, and the retry and deferral limit timers stop (R51,
R62, R71). -/
def Adu.grant (s : AdmissionState) (draw : Nat) (a : Adu) : Adu :=
  { a with state := s, heldDraw := draw, admittedDraw := draw, retryTimer := .stopped, deferralTimer := .stopped }

/-- The solo rule, with the line unavailable: SOLO when U is at most A_solo, else line-blocked; either way no
Claim entry stays queued (R53, R57, R71). -/
def Part.soloRule (p : Part) : Part :=
  let p := p.mapFre (Fre.removeKind .claim)
  if p.pcu.plan.draw ≤ p.settings.soloAllowance then (p.mapAdu (Adu.grant .solo p.pcu.plan.draw)).admitted
  else (p.mapAdu fun a => { a with state := .none, retryTimer := .stopped, deferralTimer := .stopped }).lineBlocked

/-- ADU enters DEFER; the deferral limit timer starts on entry from another state (R54). -/
def Adu.enterDefer (a : Adu) : Adu :=
  if a.state = .defer then a else { a with state := .defer, deferralTimer := .running Config.deferralTime }

/-- The queueing procedure (R53). `asked` is false at the deferral limit, where step 2 is skipped (R54). -/
def Part.queueing (asked : Bool) (p : Part) : Part :=
  if !p.lineAvailable then p.soloRule
  else if asked && deferralAnswer p.pcu.plan.key p.pvw.records then p.mapAdu Adu.enterDefer
  else p.offerClaim.mapAdu fun a => { a with state := .queued, deferralTimer := .stopped }

/-- ADU takes a seek (R53, R70). -/
def Part.seek (p : Part) : Part :=
  match p.adu.state with
  | .none => p.queueing true
  | .claiming => if p.adu.withdrawn then p.mapAdu fun a => { a with pendingSeek := true } else p
  | .defer | .queued | .holder | .solo => p

/-- The line test of QUEUED (R57). -/
def Part.lineTest (p : Part) : Part := if p.lineAvailable then p else p.soloRule

/-- A retry trigger (R55), which in QUEUED is a line test (R57). -/
def Part.retryTrigger (p : Part) : Part :=
  match p.adu.state with
  | .defer => p.queueing true
  | .queued => p.lineTest
  | .none | .claiming | .holder | .solo => p

/-- The line has become unavailable: in QUEUED the retry timer starts (R56).
(Assumption 23: DEDUCED, unsafe.) -/
def Part.lineBecameUnavailable (p : Part) : Part :=
  if p.adu.state = .queued then p.mapAdu fun a => { a with retryTimer := .running Config.retryTime } else p

/-! ## PCU's plan and key -/

/-- PVW's standing deferral answer is re-evaluated. Passing from yes to no is reported to ADU, which takes it as
a retry trigger in DEFER and takes no action on it in any other state (R87). -/
def Part.reevaluateDeferral (p : Part) : Part :=
  let answer := deferralAnswer p.pcu.plan.key p.pvw.records
  let turned := p.pvw.deferral && !answer
  let p := p.mapPvw fun v => { v with deferral := answer }
  if turned ∧ p.adu.state = .defer then p.queueing true else p

/-- RSQ asks PCU for a plan (R36). The new key re-evaluates the deferral answer, which finds ADU outside DEFER at
each of the three occasions. -/
def Part.requestPlan (p : Part) : Part :=
  (p.mapPcu fun c => { c with plan := p.settings.makePlan p.planInputs }).reevaluateDeferral

/-- PCU recomputes the key while RSQ is in WAIT or BLOCKED (R45). ADU replaces a queued Claim, or marks the key as
pending while its Claim is on the line (R59); PVW re-evaluates the deferral answer (R87). -/
def Part.recomputeKey (p : Part) : Part :=
  if p.rsq.state.waiting ∧ p.pcu.plan.key.isSome then
    let p := p.mapPcu fun c => { c with plan := p.rekeyedPlan }
    let p :=
      match p.adu.state with
      | .queued => p.offerClaim
      | .claiming => p.mapAdu fun a => { a with pendingKey := true }
      | .none | .defer | .holder | .solo => p
    p.reevaluateDeferral
  else p

/-! ## WAIT -/

/-- The block cause of a plan as RSQ records it, if it has one (R11). -/
def BlockCause.recorded : BlockCause → Option Cause
  | .none => Option.none
  | .position => some Cause.position
  | .infeasible => some Cause.infeasible

/-- Enter WAIT from VERIFY or BLOCKED with an unblocked plan and seek admission (R15). The manual gives the request for CONFIRM and
the seek no order among themselves: CONFIRM is requested first, also where the seek leaves WAIT at once (assumption 49: DESIGN
CHOICE, unsafe). -/
def Part.enterWait (confirm : Bool) (p : Part) : Part :=
  let p := p.enterAtRest .wait
  (if confirm then p.requestPhrase .confirm else p).seek

/-- A clearing event in BLOCKED: a new plan, and WAIT, or the cause it carries (R14). -/
def Part.replanBlocked (p : Part) : Part :=
  let p := p.requestPlan
  match p.pcu.plan.blockCause.recorded with
  | some cause => p.mapRsq fun r => { r with cause := cause }
  | none => p.enterWait false

/-- Leave WAIT for BLOCKED: withdraw, then enter (R13, R17). -/
def Part.withdrawToBlocked (cause : Cause) (p : Part) : Part := p.withdraw.enterBlocked cause

/-- The verify timer's expiry (R11). -/
def Part.decideCase (p : Part) : Part :=
  if p.liu.doorZone.level ∧ p.liu.doorsOpen.level then p.enterParked
  else
    let p := p.mapPcu fun c => { c with waitSeconds := 0 }
    if !p.liu.chain.level then p.enterBlocked .chain
    else
      let p := p.requestPlan
      match p.pcu.plan.blockCause.recorded with
      | some cause => p.enterBlocked cause
      | none => p.enterWait true

/-- A REPLAN result, in the order of R22. The cancel condition as it stands leads from WAIT to WATCH without a new
plan; a new plan with a block cause leads to BLOCKED.
(Assumption 14: DEDUCED, unsafe.) -/
def Part.replan (p : Part) : Part :=
  let p := (p.ended .replan).mapPcu fun c => { c with loadOverride := true }
  let p := p.enterAtRest .wait
  if p.liu.cancel then p.enterWatch
  else
    let p := p.requestPlan
    match p.pcu.plan.blockCause.recorded with
    | some cause => p.enterBlocked cause
    | none => p.seek

/-- The probe race ends with an outcome: brake release off, PCU's answer taken (R20, R21, R49). ADU takes the draw needed, and
offers the ADJUST, before the Presence of CREEP entry is built, which so carries the lowered draw (assumption 45: DESIGN CHOICE,
unsafe). -/
def Part.raceEnds (outcome : ProbeOutcome) (p : Part) : Part :=
  let p := p.mapOutputs fun o => { o with brakeRelease := false }
  match p.settings.probeReplan p.pcu.plan p.adu.admittedDraw p.liu.position outcome with
  | .proceed needed retarget =>
    ((p.mapPcu fun c => { c with plan := c.plan.retargeted retarget }).neededDraw needed).enterCreep
  | .replan => p.replan

/-! ## Reports that RSQ takes -/

/-- The stall indication is raised: WATCH goes to VERIFY (R9). -/
def Part.stallRaised (p : Part) : Part := if p.rsq.state = .watch then p.enterVerify else p

/-- The stall indication is withdrawn: VERIFY goes to WATCH (R10). -/
def Part.stallWithdrawn (p : Part) : Part := if p.rsq.state = .verify then p.enterWatch else p

/-- The cancel condition comes to hold (section 1.13). -/
def Part.cancelHolds (p : Part) : Part :=
  match p.rsq.state with
  | .verify | .parked | .blocked | .landed => p.enterWatch
  | .wait => p.withdraw.enterWatch
  | .warn => (p.ended .abandoned).enterWatch
  | .start | .watch | .probe | .creep | .level | .doors | .halted => p

/-- The debounced safety chain opens (section 1.13). -/
def Part.chainOpens (p : Part) : Part :=
  match p.rsq.state with
  | .blocked => p.mapRsq fun r => { r with cause := .chain }
  | .wait => p.withdrawToBlocked .chain
  | .warn => (p.ended .abandoned).enterBlocked .chain
  | .probe | .creep | .level => p.enterHalted .chain
  | .start | .watch | .parked | .verify | .doors | .landed | .halted => p

/-- A clearing event for a recorded cause, taken in BLOCKED with that cause (R14). -/
def Part.clears (causes : List Cause) (p : Part) : Part :=
  if p.rsq.state = .blocked ∧ p.rsq.cause ∈ causes then p.replanBlocked else p

/-- The position-valid flag changes (R14, R17). -/
def Part.validChanged (valid : Bool) (p : Part) : Part :=
  if p.rsq.state = .wait ∧ !valid then p.withdrawToBlocked .position
  else p.clears (if valid then [.position, .infeasible] else [.infeasible])

/-- The latched load changes (R14). -/
def Part.loadChanged (p : Part) : Part := p.clears [.infeasible]

/-- ADU reports the line recovered (R52, R14). -/
def Part.lineRecovered (p : Part) : Part := p.clears [.line]

/-- The outcome of the target test of R26. -/
inductive CreepEnd where
  | arrival
  | failure (cause : Cause)
  deriving DecidableEq, Repr

/-- The target test (R26): arrival or overrun. A plan without a direction has no side to overrun. -/
def Part.targetTest (p : Part) : Option CreepEnd :=
  let z := p.settings.halfWidth
  let level := p.pcu.plan.level
  let at_ := p.liu.position
  if p.liu.doorZone.level ∧ (at_ - level) + (level - at_) ≤ z then some .arrival
  else
    match p.pcu.plan.direction with
    | some .up => if level + z < at_ then some (.failure .overrun) else none
    | some .down => if at_ + z < level then some (.failure .overrun) else none
    | none => none

/-- The car leaves CREEP by arrival or by a supervision failure. -/
def Part.endCreep (e : CreepEnd) (p : Part) : Part :=
  match e with
  | .arrival => p.enterLevel
  | .failure cause => p.enterHalted cause

/-- The target test is made in CREEP at a latched position and at a change of the door zone input (R26). -/
def Part.testTarget (p : Part) : Part :=
  if p.rsq.state = .creep then
    match p.targetTest with
    | some e => p.endCreep e
    | none => p
  else p

/-- A change of a debounced input, as RSQ takes it (R134). -/
def Part.inputChanged (i : Input) (level : Bool) (p : Part) : Part :=
  match i with
  | .mains => p
  | .chain => if level then p.clears [.chain] else p.chainOpens
  | .doorZone => if p.rsq.state = .parked ∧ !level then p.enterVerify else p.testTarget
  | .doorsOpen =>
    if p.rsq.state = .parked ∧ !level then p.enterVerify
    else if p.rsq.state = .doors ∧ level then p.enterLanded
    else p
  | .brakeFeedback =>
    if p.rsq.state = .creep then
      if level then p.mapRsq fun r => { r with brakeSeen := true }
      else if p.rsq.brakeSeen then p.enterHalted .brake
      else p
    else p

/-! ## Encoder steps (R20, R24, R25, R27) -/

/-- A step as a signed millimetre, up positive. -/
def Dir.millimetres : Dir → Int
  | .up => 1
  | .down => -1

/-- A step in PROBE: the pulse counter and the net displacement (R20). -/
def Part.probeStep (d : Dir) (p : Part) : Part :=
  let p := p.mapRsq fun r =>
    { r with probePulses := r.probePulses + 1, probeNet := r.probeNet + Dir.millimetres d }
  if p.settings.probeTravel ≤ p.rsq.probePulses then
    p.raceEnds (if p.rsq.probeNet = 0 then .balanced
                else if 0 < p.rsq.probeNet then .observed .up else .observed .down)
  else p

/-- The measurements of CREEP after a step: net progress, steps in the speed window, net reverse travel (R24,
R25). -/
def Rsq.countStep (plan : Option Dir) (d : Dir) (r : Rsq) : Rsq :=
  if plan = some d then
    { r with progressNet := r.progressNet + 1, speedCount := r.speedCount + 1, netReverse := r.netReverse - 1 }
  else
    { r with progressNet := r.progressNet - 1, speedCount := r.speedCount + 1, netReverse := r.netReverse + 1 }

/-- The supervision tests that a step can end CREEP by: overspeed, reverse, and the target test. -/
def Part.creepEnds (p : Part) : List CreepEnd :=
  (if p.settings.overspeed < 10 * p.rsq.speedCount then [CreepEnd.failure .overspeed] else [])
    ++ (if Config.reverseLimit < p.rsq.netReverse then [CreepEnd.failure .reverse] else [])
    ++ p.targetTest.toList

/-- Several tests that end CREEP at one step may be taken in either order; the first one taken leaves CREEP and is
the one that acts (R25). A single one needs no choice. -/
def Part.firstOf (ends : List CreepEnd) (p : Part) : Part :=
  match ends with
  | [] => p
  | [e] => p.endCreep e
  | e :: es =>
    let (n, p) := p.choose
    p.endCreep ((e :: es).getD (n % (es.length + 1)) e)

/-- A step in CREEP. -/
def Part.creepStep (d : Dir) (p : Part) : Part :=
  let p := p.mapRsq (Rsq.countStep p.pcu.plan.direction d)
  p.firstOf p.creepEnds

/-- RSQ takes a step event (R126). -/
def Part.stepEvent (d : Dir) (p : Part) : Part :=
  match p.rsq.state with
  | .probe => p.probeStep d
  | .creep => p.creepStep d
  | .level => p.mapRsq fun r => { r with standstillTimer := .running Config.standstillTime }
  | .start | .watch | .parked | .verify | .blocked | .wait | .warn | .doors | .landed | .halted => p

/-! ## S_eff (R42, R86) -/

/-- A new value of S_eff: PCU re-checks U in WAIT and RSQ goes to BLOCKED with INFEASIBLE; RSQ in BLOCKED with
INFEASIBLE asks for a new plan. When the re-check has itself led to BLOCKED, RSQ's own report of the new value may
be taken before or after it; after it, it asks for a new plan (assumption 4: DESIGN CHOICE, safe).
(Assumption 27: DEDUCED, safe.) -/
def Part.limitChanged (p : Part) : Part :=
  if p.rsq.state = .wait then
    if p.pvw.sEff.getD 0 < p.pcu.plan.draw then
      let p := p.mapPcu fun c => { c with plan := { c.plan with blockCause := .infeasible } }
      let (n, p) := (p.withdrawToBlocked .infeasible).choose
      if n % 2 = 0 then p else p.replanBlocked
    else p
  else p.clears [.infeasible]

/-- PVW recomputes S_eff and the mismatch flag, and reports a new value of S_eff (R85, R86). -/
def Part.recomputeLimit (p : Part) : Part :=
  let own := p.settings.storeLimit
  let limit := some (effectiveLimit own p.pvw.records)
  let changed := p.pvw.sEff != limit
  let p := p.mapPvw fun v => { v with sEff := limit, mismatch := mismatchSeen own v.records }
  if changed then p.limitChanged else p

/-! ## Claim reports (R58 to R63, R69, R70) -/

/-- What FRE reports of one attempt at the node's own Claim (R58). A clean report carries the claimed U and the
roll-call list. -/
inductive ClaimReport where
  | lost | spoiled | dropped
  | clean (draw : Nat) (list : List (Node × Nat))
  deriving DecidableEq, Repr

/-- The sum of the draws of a roll-call list (R62). -/
def rollCallSum (list : List (Node × Nat)) : Nat := (list.map (·.2)).sum

/-- The claim fits: U plus the sum is at most S_eff (R62). -/
def Part.claimFits (draw : Nat) (list : List (Node × Nat)) (p : Part) : Bool :=
  draw + rollCallSum list ≤ p.pvw.sEff.getD 0

/-- The return to QUEUED on a lost or spoiled report: a pending key replaces the entry; the retry timer starts
when the line is then unavailable (R56, R59, R60). -/
def Part.requeue (p : Part) : Part :=
  let pending := p.adu.pendingKey
  let p := p.mapAdu fun a => { a with state := .queued, pendingKey := false }
  let p := if pending then p.offerClaim else p
  if p.lineAvailable then p else p.mapAdu fun a => { a with retryTimer := .running Config.retryTime }

/-- DEFER with the retry timer started, after a refusal or a drop (R61, R63). -/
def Part.deferAndRetry (p : Part) : Part :=
  p.mapAdu fun a =>
    { a.enterDefer with retryTimer := .running Config.retryTime, pendingKey := false }

/-- A refusal (R63, R34): PCU raises the refusal count and recomputes the key, then ADU enters DEFER.
(Assumption 22: DEDUCED, unsafe.) -/
def Part.refused (p : Part) : Part :=
  ((p.mapPcu fun c => { c with refusals := saturate Config.refusalTop c.refusals }).recomputeKey).deferAndRetry

/-- The settlement of a report with the withdrawn mark set (R69): the Claim entry is gone, an admission is
answered with Release ABANDONED, and every mark of the old claim is cleared. RSQ takes no action on the
"admitted" report.
(Assumption 13: DEDUCED, unsafe.) -/
def Part.settleWithdrawn (report : ClaimReport) (p : Part) : Part :=
  let p := p.mapFre (Fre.removeKind .claim)
  let p := p.mapAdu fun a => { a with withdrawn := false, pendingKey := false }
  match report with
  | .clean draw list =>
    if p.claimFits draw list then (p.mapAdu (Adu.grant .holder draw)).ended .abandoned
    else p.mapAdu fun a => { a with state := .none, retryTimer := .stopped }
  | .lost | .spoiled | .dropped => p.mapAdu fun a => { a with state := .none, retryTimer := .stopped }

/-- ADU takes FRE's claim report in CLAIMING (R58 to R63, R69, R70). -/
def Part.claimReport (report : ClaimReport) (p : Part) : Part :=
  if p.adu.state = .claiming then
    if p.adu.withdrawn then
      let seekAgain := p.adu.pendingSeek
      let p := (p.settleWithdrawn report).mapAdu fun a => { a with pendingSeek := false }
      if seekAgain then p.queueing true else p
    else
      match report with
      | .lost | .spoiled => p.requeue
      | .dropped => (p.mapFre (Fre.removeKind .claim)).deferAndRetry
      | .clean draw list =>
        let p := p.mapFre (Fre.removeKind .claim)
        if p.claimFits draw list then
          ((p.mapAdu (Adu.grant .holder draw)).mapAdu fun a => { a with pendingKey := false }).admitted
        else p.refused
  else p

end Sys2Proof.Machine
end

