-- ==== Sys2Proof/Machine/PeerView.lean ====
section
/-! DEFINITION. PVW, the peer view (chapter 4): the updates of a record by each frame kind and by a clean
roll-call, ageing, and the last-released node. -/

namespace Sys2Proof.Machine

/-- The record of a node that has none, before the update that creates it (R77). -/
def PeerRecord.blank (n : Node) : PeerRecord :=
  { node := n, stateCode := 1, age := 0, ageClock := 0, inferred := false, sEcho := none, draw := none
    key := none, lastOutcome := none }

/-- Update the record of a node in the collection, which is in ascending node order, or create it in its place
(R75, R77). -/
def upsert (n : Node) (f : PeerRecord → PeerRecord) : List PeerRecord → List PeerRecord
  | [] => [f (.blank n)]
  | r :: rs =>
    if r.node = n then f r :: rs
    else if n.toNat < r.node.toNat then f (.blank n) :: r :: rs
    else r :: upsert n f rs

/-- The record of a node. -/
def recordOf (n : Node) (records : List PeerRecord) : Option PeerRecord := records.find? fun r => r.node == n

/-- The node has a record and it is stale (R76). -/
def isStale (n : Node) (records : List PeerRecord) : Bool := ((recordOf n records).map fun r => !r.fresh).getD false

/-- A record refreshed: its age returns to 0 (R76). -/
def PeerRecord.refreshed (r : PeerRecord) : PeerRecord := { r with age := 0, ageClock := 0 }

/-- R78: a PRESENCE is taken over the record wholesale. -/
def PeerRecord.takePresence (b : PresenceBody) (r : PeerRecord) : PeerRecord :=
  { r.refreshed with
    stateCode := b.code, sEcho := some b.storeLimit, draw := b.draw, key := b.key, inferred := false }

/-- R79: a CLAIM gives its sender code 5 and the key. -/
def PeerRecord.takeClaim (k : Key) (r : PeerRecord) : PeerRecord :=
  { r.refreshed with stateCode := 5, key := some k, draw := none, inferred := false }

/-- R80, R82: a clean roll-call entry or an ADJUST shows a holder of that draw, and removes the key. A record that
already has code 6 keeps its inferred mark. -/
def PeerRecord.takeHolding (draw : Nat) (r : PeerRecord) : PeerRecord :=
  { r.refreshed with
    draw := some draw, key := none, stateCode := 6, inferred := if r.stateCode = 6 then r.inferred else true }

/-- R81: the claimant of a clean window that fits the node's own S_eff is an inferred holder of U. -/
def PeerRecord.inferHolder (draw : Nat) (r : PeerRecord) : PeerRecord :=
  { r with stateCode := 6, draw := some draw, inferred := true, key := none }

/-- R83: a RELEASE. -/
def PeerRecord.takeRelease (o : ReleaseOutcome) (r : PeerRecord) : PeerRecord :=
  { r.refreshed with
    draw := none, key := none, inferred := false, stateCode := o.stateCode, lastOutcome := some o }

/-- Update the record of a node; a stale record that it makes fresh is a staleness change, at which S_eff is
recomputed (R76, R85). `always` is set for a PRESENCE, at which S_eff is recomputed in any case (R78). -/
def Part.updateRecord (n : Node) (f : PeerRecord → PeerRecord) (always : Bool) (p : Part) : Part :=
  let stale := isStale n p.pvw.records
  let p := p.mapPvw fun v => { v with records := upsert n f v.records }
  if always || stale then p.recomputeLimit else p

/-- The last-released node is set; a change is reported to PCU, which recomputes the key (R84, R45). -/
def Part.setLastReleased (n : Node) (p : Part) : Part :=
  if p.pvw.lastReleased = n then p
  else (p.mapPvw fun v => { v with lastReleased := n }).recomputeKey

/-- PVW takes a valid frame of a peer (R78, R79, R82, R83). Before commit it discards every frame (R75). A RELEASE that
brings a stale record back reports S_eff first, then the last-released node (assumption 39: DESIGN CHOICE, unsafe). With
every kind a new S_eff is reported and acted on before a deferral answer that turns from yes to no (assumption 46: DESIGN
CHOICE, unsafe). -/
def Part.peerFrame (f : Frame) (p : Part) : Part :=
  if p.lpc.committed then
    match f with
    | .presence n b => (p.updateRecord n (.takePresence b) true).reevaluateDeferral
    | .claim k u =>
      ((p.mapPvw fun v => { v with claim := some (f.node, u) }).updateRecord f.node (.takeClaim k) false).reevaluateDeferral
    | .adjust n d => (p.updateRecord n (.takeHolding d) false).reevaluateDeferral
    | .release o n => ((p.updateRecord n (.takeRelease o) false).setLastReleased n).reevaluateDeferral
  else p

/-- PVW takes the node's own RELEASE heard back clean: only the last-released node moves (R84). -/
def Part.ownReleaseHeard (p : Part) : Part := p.setLastReleased p.settings.node

/-- The entries of a clean list that carry another node's number (R80). -/
def peerEntries (own : Node) (list : List (Node × Nat)) : List (Node × Nat) := list.filter fun e => e.1 != own

/-- The collection after the entries of a clean list, in ascending node order (R80). -/
def applyEntries (entries : List (Node × Nat)) (records : List PeerRecord) : List PeerRecord :=
  entries.foldl (fun rs e => upsert e.1 (.takeHolding e.2) rs) records

/-- The frame end of a clean window (R80, R81): the entries first, S_eff when one of them brings a stale record
back, then the node's own judgement of a peer's claim, and the deferral answer once after both. A new S_eff is acted on
before a deferral answer that turns (assumption 46: DESIGN CHOICE, unsafe). -/
def Part.cleanWindow (list : List (Node × Nat)) (p : Part) : Part :=
  if p.lpc.committed then
    let own := p.settings.node
    let entries := peerEntries own list
    let stale := entries.any fun e => isStale e.1 p.pvw.records
    let p := p.mapPvw fun v => { v with records := applyEntries entries v.records }
    let p := if stale then p.recomputeLimit else p
    let p :=
      match p.pvw.claim with
      | some (n, u) =>
        if p.claimFits u list then p.mapPvw fun v => { v with records := upsert n (.inferHolder u) v.records } else p
      | none => p
    (p.mapPvw fun v => { v with claim := none }).reevaluateDeferral
  else p

/-- The frame end of a spoiled window: PVW applies none of it (R103). -/
def Part.spoiledWindow (p : Part) : Part := p.mapPvw fun v => { v with claim := none }

/-- The whole seconds since the record's last refresh reach an age: the second before it is complete (R76). -/
def PeerRecord.reaches (age : Nat) (r : PeerRecord) : Bool := r.age + 1 == age && Config.secondTime ≤ r.ageClock

/-- A record reaches age 4 s (R76): stale, and S_eff, the mismatch flag and the deferral answer are evaluated
again, a new S_eff acted on before a deferral answer that turns (assumption 46: DESIGN CHOICE, unsafe). A record that has
been refreshed at the same sample before its expiry was taken has no such event. -/
def Part.recordReachesStale (n : Node) (p : Part) : Part :=
  match recordOf n p.pvw.records with
  | some r =>
    if r.reaches Config.staleAge then
      ((p.mapPvw fun v =>
          { v with records := upsert n (fun r => { r with age := Config.staleAge, ageClock := 0 }) v.records }).recomputeLimit).reevaluateDeferral
    else p
  | none => p

/-- A record reaches age 30 s and is removed (R76). -/
def Part.recordReachesRemoval (n : Node) (p : Part) : Part :=
  match recordOf n p.pvw.records with
  | some r =>
    if r.reaches Config.removalAge then
      (p.mapPvw fun v => { v with records := v.records.filter fun r => r.node != n }).reevaluateDeferral
    else p
  | none => p

/-- Commit (R75, R85): S_eff is the committed S over an empty view. -/
def Part.commitView (p : Part) : Part :=
  p.mapPvw fun v => { v with sEff := some p.settings.storeLimit, mismatch := false }

end Sys2Proof.Machine
end

