-- ==== Sys2Proof/Machine/Line.lean ====
section
/-! DEFINITION. FRE and LIF on the rescue line (chapters 5 and 6): the classification of phases, the reception
of frames and roll-calls, the errors, the sending of symbols, the line states, the LOST retry and the loopback
test. -/

namespace Sys2Proof.Machine

/-! ## Symbols (R110) -/

/-- A classified driven phase. -/
inductive Symbol where
  | one | zero | opening | symbolError | framingError
  deriving DecidableEq, Repr

/-- The table of R110 for a driven phase of a length in whole LU, on a line that was idle before it or in
traffic. A stray symbol is handed to FRE as a symbol error. A phase of 40 LU or more is not classified. -/
def classify (idle : Bool) (lu : Nat) : Option Symbol :=
  if lu = 0 ∨ 40 ≤ lu then none
  else if idle then (if 10 ≤ lu ∧ lu ≤ 14 then some .opening else some .symbolError)
  else if lu ≤ 3 then some .one
  else if lu ≤ 6 then some .zero
  else if lu ≤ 9 then some .symbolError
  else if lu ≤ 14 then some .framingError
  else some .symbolError

/-! ## The filtered line (R108 to R112) -/

/-- A length in LU as samples. -/
def lu (n : Nat) : Nat := n * Config.samplesPerLU

/-- The delay of the filter: six samples, 1.5 LU (R109). -/
def filterDelay : Nat := 6

/-- The filtered edge of the node's own bit sets the due times of its release, 2 LU or 5 LU after the edge, and of
the next bit's edge, 8 LU after it; the drive changes 1.5 LU before the change is due to appear (R112). -/
def Tx.edgeSeen (t : Tx) : Tx :=
  let t := { t with shown := t.shown || t.driving }
  if t.driving ∧ 0 < t.begun then
    { t with
      releaseDue := some (lu (if t.bits.getD (t.begun - 1) false then 2 else 5) - filterDelay)
      edgeDue := if t.begun < t.bits.length then some (lu 8 - filterDelay) else none }
  else t

/-- The filtered release at the end of the Opening sets the due time of the first bit's edge, 4 LU after it
(R112). -/
def Tx.releaseSeen (t : Tx) : Tx :=
  if t.begun = 0 ∧ !t.driving then { t with edgeDue := some (lu 4 - filterDelay) } else t

/-- The filtered line turns driven: a driven phase begins, and the traffic mark is set (R110). -/
def Lif.turnDriven (l : Lif) : Lif :=
  { l with integrator := 6, filtered := true, samples := 0, idleBefore := !l.traffic, traffic := true
           tx := l.tx.map Tx.edgeSeen }

/-- The filtered line turns released: a released phase begins. -/
def Lif.turnReleased (l : Lif) : Lif :=
  { l with integrator := 0, filtered := false, samples := 0, tx := l.tx.map Tx.releaseSeen }

/-- LIF drives the line now. -/
def Lif.drives (l : Lif) : Bool := (l.tx.map (·.driving)).getD false

/-- The filtered line turns driven, if it is not so already: IDLE becomes BUSY (R115). When LIF is not driving,
some other party is. -/
def Part.lineTurnsDriven (p : Part) : Part :=
  if p.lif.filtered then p
  else
    (p.mapPins fun q => { q with lineOther := !p.lif.drives }).mapLif fun l =>
      { l.turnDriven with lineState := if l.lineState = .idle then .busy else l.lineState }

/-- The filtered line turns released: no party drives it. -/
def Part.lineTurnsReleased (p : Part) : Part :=
  (p.mapPins fun q => { q with lineOther := false }).mapLif Lif.turnReleased

/-- The filtered line stays driven while LIF does not drive: some other party drives it. -/
def Part.othersDrive (p : Part) : Part :=
  p.mapPins fun q => { q with lineOther := q.lineOther || (p.lif.filtered && !p.lif.drives) }

/-- LIF hands FRE no symbols while the state is HELD or STUCK (R116). -/
def Lif.silent (l : Lif) : Bool := l.lineState == .held || l.lineState == .stuck

/-- While the loopback test runs, LIF does not classify the line and hands FRE nothing from it (R119). -/
def Part.whenListening (f : Part → Part) (p : Part) : Part := if p.lif.loopRun.isSome then p else f p

/-! ## Sending (R112) -/

/-- The node begins an Opening for a frame: driven so that it appears as 12 LU. -/
def openingTx (source : TxSource) (bits : List Bool) : Tx :=
  { source := source, bits := bits, begun := 0, driving := true, driveAge := 0, shown := false
    releaseDue := some (lu 12), edgeDue := none }

/-- The node begins the first bit of a response (R102). -/
def responseTx (bits : List Bool) : Tx :=
  { source := .response, bits := bits, begun := 1, driving := true, driveAge := 0, shown := false
    releaseDue := none, edgeDue := none }

/-- The error mark: driven at once, for 16 LU (R100). On a line already driven its echo check passes at once (R114). -/
def markTx (shown : Bool) : Tx :=
  { source := .mark, bits := [], begun := 0, driving := true, driveAge := 0, shown := shown
    releaseDue := some (lu 16), edgeDue := none }

/-- The due time of LIF's own next edge or release (R112): the drive ends, or the next bit's begins. -/
def Lif.dueTime (l : Lif) : Lif :=
  match l.tx with
  | none => l
  | some t =>
    if t.driving then
      if t.source = .mark then { l with tx := none }
      else { l with tx := some { t with driving := false, driveAge := 0, releaseDue := none } }
    else if t.begun < t.bits.length then
      { l with
        tx := some { t with
          driving := true, begun := t.begun + 1, driveAge := 0, shown := l.filtered, edgeDue := none } }
    else l

/-- What begins with an Opening: an attempt at a frame or at the LOST retry (R94, R118), or the loopback test's frame. A response
and an error mark lie in traffic that the node did not open (R114, R115). -/
def TxSource.isAttempt : TxSource → Bool
  | .frame | .retry | .loopback => true
  | .response | .mark => false

/-- LIF stops driving on a report of its own: the symbol in progress ends and SENDING becomes BUSY (R115). The
frame end is reckoned from the end of the last driven phase or from this instant, whichever is later (R113), so the
traffic mark stands and a released phase in progress is measured from here (assumption 19: DEDUCED, unsafe). A response
and an error mark are no attempts: an echo failure does not stop them so. -/
def Lif.stopSending (l : Lif) : Lif :=
  { l with
    samples := if l.filtered then l.samples else 0
    tx := none, traffic := true
    lineState := if l.lineState = .sending then .busy else l.lineState }

/-! ## Errors (R96, R100, R107) -/

/-- The counters that an abandoned frame or window raises. -/
inductive ErrorKind where
  | symbol | framing | check | unknownKind
  deriving DecidableEq, Repr

/-- Raise the counter of an error's kind, saturating at 255 (R107). -/
def ErrorCounters.count (k : ErrorKind) (c : ErrorCounters) : ErrorCounters :=
  match k with
  | .symbol => { c with symbol := saturate Config.countTop c.symbol }
  | .framing => { c with framing := saturate Config.countTop c.framing }
  | .check => { c with check := saturate Config.countTop c.check }
  | .unknownKind => { c with unknownKind := saturate Config.countTop c.unknownKind }

/-- Count an error, if it has a counter. -/
def Fre.countError (k : Option ErrorKind) (r : Fre) : Fre :=
  match k with
  | some k => { r with counters := r.counters.count k }
  | none => r

/-- The node is the sender of the frame in progress, or the claimant of its window. -/
def Fre.isSender (r : Fre) : Bool := r.role == .sender || r.role == .claimant

/-- The node's attempt in progress ends with an error: a queued entry's attempt (R96) or the LOST retry, whose
timer is restarted at the frame end (R118). -/
def Part.attemptFails (p : Part) : Part :=
  (p.mapFre Fre.errorAttempt).mapLif fun l =>
    { l with retry := if l.retry = .sending then .failed else l.retry }

/-- A holder sends the error mark unless the line is HELD, the node is the sender, DUPLICATE is recorded or the
line is LOST (R100). -/
def Part.mayMark (p : Part) : Bool :=
  p.adu.isHolder && !p.fre.isSender && !p.fre.duplicate && p.lif.lineState != .lost && !p.lif.silent

/-- FRE's receive phase becomes DISCARD until the frame end; a window given up is remembered (R100). -/
def Fre.discard (r : Fre) : Fre :=
  { r with phase := .discard, rx := .empty, valid := none, inResponse := false, role := .receiver
           windowAbandoned := r.windowAbandoned || r.phase == .window }

/-- FRE abandons the traffic in progress (R100, R103): the error is counted, the node's own attempt ends with an
error, everything the node was sending stops, and where `mark` asks for it a holder drives its error mark. -/
def Part.abandon (k : Option ErrorKind) (mark : Bool) (p : Part) : Part :=
  let marks := mark && p.mayMark
  let p := p.mapFre (Fre.countError k)
  let p := if p.fre.isSender then p.attemptFails else p
  (p.mapLif fun l => { l with tx := if marks then some (markTx l.filtered) else none }).mapFre Fre.discard

/-! ## DUPLICATE (R105, R106) -/

/-- DUPLICATE is recorded: the node drives nothing from now on, and the line is unavailable to ADU (R74). -/
def Part.recordDuplicate (p : Part) : Part :=
  let available := p.lineAvailable
  let p := (p.mapFre fun r => { r with duplicate := true }).mapLif fun l => { l with tx := none }
  if available then p.lineBecameUnavailable else p

/-- The node's own attempt that was lost in the traffic in which a duplicate is found is counted as an error attempt,
and a Claim's is reported as spoiled (R74, R105). So is one lost in the frame whose window ends in a response duplicate, of
which R105 does not speak (assumption 47: DESIGN CHOICE, unsafe). -/
def Fre.spoilLost (r : Fre) : Fre :=
  match r.lostKind with
  | some k => r.errorAttemptOf k none
  | none => r

/-- A received duplicate in a frame (R105): the frame is abandoned. -/
def Part.duplicateFrame (p : Part) : Part := (p.recordDuplicate.mapFre Fre.spoilLost).mapFre Fre.discard

/-- A duplicate in a window, received or of the node's own response, spoils it; no error counter has it (R103, R105). An
attempt of the node's own lost earlier in the same traffic is counted in both cases (assumption 47: DESIGN CHOICE, unsafe). -/
def Part.duplicateResponse (p : Part) : Part := (p.recordDuplicate.mapFre Fre.spoilLost).abandon none false

/-! ## Reception of symbols (R98, R101) -/

/-- FRE takes a bit: into the frame or the response in progress. A thirteenth byte, a bit after a non-Claim
frame's data end, or a bit that no response of the window has room for is a framing error. With no frame in progress a bit is
dropped uncounted (assumption 48: DESIGN CHOICE, unsafe). -/
def Part.takeBit (b : Bool) (p : Part) : Part :=
  match p.fre.phase with
  | .frame =>
    if p.fre.valid.isSome ∨ 12 ≤ p.fre.rx.bytes.length then p.abandon (some .framing) true
    else p.mapFre fun r => { r with rx := r.rx.take b }
  | .window =>
    if p.fre.inResponse ∧ p.fre.rx.bits < 16 then p.mapFre fun r => { r with rx := r.rx.take b }
    else p.abandon (some .framing) true
  | .idle | .discard => p

/-- An Opening starts a frame with an empty buffer (R98). -/
def Fre.openFrame (r : Fre) : Fre :=
  { r with phase := .frame, rx := .empty, valid := none, role := if r.role = .sender then .sender else .receiver }

/-- FRE takes a classified symbol (R98, R100, R110). A symbol error with no frame in progress is taken as a frame
that failed at its first symbol. In DISCARD FRE counts nothing and takes nothing. A framing error with no frame in progress, on
a line in traffic, is dropped uncounted (assumption 48: DESIGN CHOICE, unsafe).
(Assumption 18: DEDUCED, unsafe.) -/
def Part.takeSymbol (s : Symbol) (p : Part) : Part :=
  match s with
  | .opening => p.mapFre Fre.openFrame
  | .one => p.takeBit true
  | .zero => p.takeBit false
  | .symbolError => if p.fre.phase = .discard then p else p.abandon (some .symbol) true
  | .framingError =>
    if p.fre.phase = .discard ∨ p.fre.phase = .idle then p else p.abandon (some .framing) true

/-- The end of a driven phase of a length in whole LU (R110). -/
def Part.drivenPhaseEnds (length : Nat) (p : Part) : Part :=
  let p := p.lineTurnsDriven
  let symbol := classify p.lif.idleBefore length
  let silent := p.lif.silent
  let p := p.lineTurnsReleased
  match symbol with
  | some s => if silent then p else p.takeSymbol s
  | none => p

/-! ## The data end and the window (R98 to R103) -/

/-- The role of the node in a window that opens (R102): the claimant, or a responder while it is a holder, LIF is
not LOST and no DUPLICATE is recorded, or a listener. -/
def Part.windowRole (p : Part) : Role :=
  if p.fre.role = .sender then .claimant
  else if p.adu.isHolder && p.lif.lineState != .lost && !p.fre.duplicate then .responder
  else .listener

/-- A valid CLAIM opens its window at its data end, the first slot boundary (R99, R101): the list is emptied, and
a responder prepares its one response from the held draw (R102). -/
def Part.openWindow (f : Frame) (draw : Nat) (p : Part) : Part :=
  let own := p.fre.isSender
  let role := p.windowRole
  let p := p.mapFre fun r =>
    { r with
      phase := .window, rx := .empty, inResponse := false, listed := false, list := []
      claimant := some (f.node, draw), role := role
      response := if role = .responder then some (p.settings.node, p.adu.heldDraw) else none }
  if own then p else p.peerFrame f

/-- A frame that passed every test (R99). -/
def Part.acceptFrame (f : Frame) (p : Part) : Part :=
  match f with
  | .claim _ draw => p.openWindow f draw
  | .release .. | .adjust .. | .presence .. => p.mapFre fun r => { r with valid := some f }

/-- FRE tests the frame at its data end (R98). An unknown kind is counted and ignored; the other failures are
abandoned as R100 states. Before commit the node has no number, so it detects no duplicate (R89).
(Assumption 15: DEDUCED, unsafe.) -/
def Part.testReceived (p : Part) : Part :=
  match testBuffer p.fre.rx with
  | .framing => p.abandon (some .framing) true
  | .check => p.abandon (some .check) true
  | .unknownKind => p.abandon (some .unknownKind) false
  | .valid f =>
    if !p.fre.isSender ∧ p.ownNode = some f.node then p.duplicateFrame else p.acceptFrame f

/-- The tests of R101 on a response: the node byte, the draw, the ascending order, not the claimant. -/
def responseValid (list : List (Node × Nat)) (claimant : Option (Node × Nat)) (nodeByte drawByte : Byte) : Bool :=
  (nodeOfByte nodeByte).isSome && 1 ≤ drawByte.toNat
    && list.all (fun e => e.1.toNat < nodeByte.toNat)
    && ((claimant.map fun c => c.1.toNat != nodeByte.toNat).getD true)

/-- The node's own response has been sent whole, all 16 bits, without loss (R102). -/
def Lif.responseSent (l : Lif) : Bool :=
  match l.tx with
  | some t => t.source == .response && t.begun == t.bits.length && !t.driving
  | none => false

/-- A complete response of 16 bits (R101): the node's own sets its listed mark and clears the echo run (R114);
one that carries the node's number but is not its own is a duplicate (R105); one that passes is appended. `sent` says
whether it is the node's own. (Assumption 16: DEDUCED, unsafe.) -/
def Part.takeResponse (sent : Bool) (p : Part) : Part :=
  let nodeByte := byteAt p.fre.rx.bytes 0
  let drawByte := byteAt p.fre.rx.bytes 1
  if !sent ∧ p.ownNode.isSome ∧ nodeOfByte nodeByte = p.ownNode then p.duplicateResponse
  else
    let p :=
      if sent then
        (p.mapFre fun r => { r with listed := true }).mapLif fun l => { l with echoRun := 0 }
      else p
    if responseValid p.fre.list p.fre.claimant nodeByte drawByte then
      p.mapFre fun r =>
        { r with
          list := r.list ++ [(BitVec.ofNat 4 nodeByte.toNat, drawByte.toNat)], rx := .empty, inResponse := false }
    else p.abandon (some .framing) true

/-- A response of 16 bits is complete and not yet tested. -/
def Fre.responseComplete (r : Fre) : Bool := r.phase == .window && r.inResponse && r.rx.bits == 16

/-- FRE at a data end or slot boundary: the frame is tested; a response that is not 16 bits long is a window
fault. A complete response that has not been tested by its own command is tested here; `sent` says whether it is the
node's own. -/
def Part.boundary (sent : Bool) (p : Part) : Part :=
  match p.fre.phase with
  | .frame => if p.fre.valid.isSome then p else p.testReceived
  | .window =>
    if p.fre.inResponse then
      if p.fre.rx.bits = 16 then p.takeResponse sent else p.abandon (some .framing) true
    else p
  | .idle | .discard => p

/-- The released phase has reached 12 LU (R111), once in each released phase of a line in traffic. -/
def Part.dataEndReached (p : Part) : Part :=
  if p.lif.traffic ∧ !p.lif.filtered ∧ p.lif.samples < lu 12 then
    let sent := p.lif.responseSent
    let p := p.mapLif fun l => { l with samples := lu 12, tx := none }
    if p.lif.silent then p else p.boundary sent
  else p

/-- An edge after the data end, by the phase of FRE (R99, R101, R103). -/
def Part.judgeEdge (length : Nat) (p : Part) : Part :=
  match p.fre.phase with
  | .window =>
    if 14 ≤ length ∧ length ≤ 18 ∧ p.fre.list.length < 15 then
      p.mapFre fun r => { r with inResponse := true, rx := .empty }
    else p.abandon (some .framing) true
  | .frame => p.abandon (some .framing) true
  | .idle | .discard => p

/-- The edge that ends a released phase of that length, 12..23 LU, on a line in traffic (R111). -/
def Part.edgeAfter (length : Nat) (p : Part) : Part :=
  if p.lif.traffic ∧ !p.lif.filtered then
    let p := p.dataEndReached.lineTurnsDriven
    if p.lif.silent then p else p.judgeEdge length
  else p

/-- A symbol error (R100): at the end of a driven phase that R110 classifies so, or at the edge of a released
phase of 1 or 8..11 LU (R111). -/
def Part.symbolFault (e : SymbolFault) (p : Part) : Part :=
  match e with
  | .driven length =>
    if classify p.lineTurnsDriven.lif.idleBefore length = some .symbolError then p.drivenPhaseEnds length else p
  | .edge _ =>
    if p.lif.traffic ∧ !p.lif.filtered then
      let p := p.lineTurnsDriven
      if p.lif.silent then p else p.takeSymbol .symbolError
    else p

/-! ## HELD and STUCK (R116, R117) -/

/-- FRE takes HELD: any frame or window in progress is abandoned with a framing error, without a mark. -/
def Part.takeHeld (p : Part) : Part :=
  if p.fre.phase = .frame ∨ p.fre.phase = .window ∨ p.fre.isSender then p.abandon (some .framing) false else p

/-- A driven phase reaches 40 LU (R116). In LOST it is reported to FRE and the state stays LOST (R117). -/
def Part.heldReached (p : Part) : Part :=
  let p := (p.lineTurnsDriven.othersDrive).mapLif fun l => { l with samples := max (lu 40) l.samples }
  match p.lif.lineState with
  | .held | .stuck => p
  | .lost => p.takeHeld
  | .idle | .busy | .sending => (p.mapLif fun l => { l with lineState := .held }).takeHeld

/-- A driven phase reaches 160 LU (R116): HELD becomes STUCK and ADU starts its line-stuck timer (R52). In LOST
the STUCK length is not reported (R117). -/
def Part.stuckReached (p : Part) : Part :=
  let p := p.heldReached.mapLif fun l => { l with samples := max (lu 160) l.samples }
  if p.lif.lineState = .held then
    (p.mapLif fun l => { l with lineState := .stuck }).mapAdu fun a =>
      { a with stuckTimer := .running Config.lineStuckTime }
  else p

/-- The line-stuck timer expires: while LIF reports STUCK the line becomes unavailable (R52, R56). -/
def Part.stuckExpires (p : Part) : Part :=
  if p.adu.stuckTimer.isRunning then
    let available := p.lineAvailable
    let p := p.mapAdu fun a => { a with stuckTimer := .expired }
    if available ∧ !p.lineAvailable then p.lineBecameUnavailable else p
  else p

/-! ## The node's own sending: starts and failures -/

/-- The conditions under which the line is idle for a start: released for 24 LU or more with no traffic, and no
loopback test running (R94, R120). -/
def Lif.quiet (l : Lif) : Bool := !l.filtered && !l.traffic && lu 24 ≤ l.samples && l.loopRun.isNone

/-- FRE may start an attempt (R94). -/
def Part.mayStart (p : Part) : Bool :=
  p.lif.lineState == .idle && p.lif.quiet && !p.fre.duplicate && p.fre.inFlight.isNone
    && p.fre.phase == .idle && !p.fre.queue.isEmpty

/-- ADU enters CLAIMING from QUEUED, the one state in which a Claim entry waits to be sent (R58). -/
def Adu.enterClaiming (a : Adu) : Adu :=
  if a.state = .queued then { a with state := .claiming, retryTimer := .stopped } else a

/-- FRE starts an attempt at the first entry in queue order (R94); for a Claim, ADU enters CLAIMING and stops the
retry timer (R58). -/
def Part.startAttempt (p : Part) : Part :=
  if p.mayStart then
    match p.fre.queue with
    | e :: _ =>
      let p := p.mapFre fun r => { r with inFlight := some { kind := e.frame.kind, held := none }, role := .sender }
      let p := p.mapLif fun l => { l with lineState := .sending, tx := some (openingTx .frame e.frame.bits) }
      if e.frame.kind = .claim then p.mapAdu Adu.enterClaiming else p
    | [] => p
  else p

/-- A bit one of the node's own that LIF is sending or has just sent: the only bit that can lose (R113). -/
def Tx.sendsOne (t : Tx) : Bool :=
  t.source != .mark && t.source != .loopback && 0 < t.begun && t.bits.getD (t.begun - 1) false

/-- Arbitration loss (R95, R102, R105, R118): a frame's attempt is lost and the node goes on as a receiver; the
retry Presence waits for the next idle line; a response lost inside its node byte stays unlisted; one lost inside
its draw byte is a response duplicate, with the error mark as the node's last transmission. -/
def Part.loseArbitration (p : Part) : Part :=
  match p.lif.tx with
  | none => p
  | some t =>
    if t.sendsOne then
      let p := (p.mapLif fun l => { l with tx := some { t with driving := false } }).lineTurnsDriven.othersDrive
      match t.source with
      | .frame =>
        (p.mapFre fun r => { r.lostAttempt with role := .receiver }).mapLif Lif.stopSending
      | .retry =>
        (p.mapFre fun r => { r with role := .receiver }).mapLif fun l =>
          { l.stopSending with retry := .waiting }
      | .response =>
        if t.begun ≤ 8 then p.mapLif Lif.stopSending
        else p.duplicateResponse.mapLif fun l => { l with tx := some (markTx l.filtered) }
      | .mark | .loopback => p
    else p

/-- The node is a responder whose slot has begun: the first edge of its response is due at 16 LU (R102, R112), and an edge
now would come earlier than 1 LU before it (R113). -/
def Part.firstEdgeDue (p : Part) : Bool :=
  p.fre.phase == .window && p.fre.role == .responder && !p.fre.listed && !p.fre.inResponse && !p.fre.duplicate
    && p.lif.lineState != .lost && p.lif.traffic && !p.lif.filtered
    && decide (lu 12 ≤ p.lif.samples ∧ p.lif.samples + 1 < lu 15)
    && (p.lif.tx.map fun t => t.source == .response && t.begun == 1).getD true

/-- A transmit symbol error (R96, R113): the filtered line is driven where the node's own timing has it released, by an
edge that has come or by a phase that has not ended. LIF stops driving; the attempt ends with an error, or the window of
the response is spoiled. A responder whose first edge is due meets it before it drives (assumption 33: DESIGN CHOICE, safe). -/
def Part.failSymbol (p : Part) : Part :=
  match p.lif.tx with
  | none =>
    if p.firstEdgeDue then (p.lineTurnsDriven.mapLif Lif.stopSending).abandon (some .symbol) true else p
  | some t =>
    if t.source = .mark ∨ t.source = .loopback then p
    else
      let p := (p.mapLif fun l => { l with tx := some { t with driving := false } }).lineTurnsDriven.othersDrive
      (p.mapLif Lif.stopSending).abandon (some .symbol) true

/-- An echo run of 3 makes the line LOST (R117): the retry timer starts at 10 s, and the line is unavailable to
ADU. -/
def Part.echoRunReached (p : Part) : Part :=
  if p.lif.echoRun = 3 ∧ p.lif.lineState ≠ .lost then
    let available := p.lineAvailable
    let p := p.mapLif fun l =>
      { l with lineState := .lost, lostTimer := .running Config.lostRetryTime, retry := .none }
    if available then p.lineBecameUnavailable else p
  else p

/-- An echo failure (R114): the filtered line has not shown the node's drive, or has fallen during it; it cannot fail
while another node holds the line down. LIF stops, the echo run and the echo counter rise, an echo run of 3 brings LOST,
and the attempt ends with an error or the response's window is spoiled. In an error mark only the counts rise. A response and
an error mark are no attempts: where one fails the drive ends, and the released phase in progress is measured on from the end
of the last driven phase (R111, assumption 19: DEDUCED, unsafe). (Assumption 17: DEDUCED, unsafe.) -/
def Part.failEcho (p : Part) : Part :=
  match p.lif.tx with
  | none => p
  | some t =>
    if t.driving ∧ t.source ≠ .loopback ∧ !p.pins.lineOther then
      let p := if p.lif.filtered then p.mapLif Lif.turnReleased else p
      let p := p.mapLif fun l =>
        { (if t.source.isAttempt then l.stopSending else { l with tx := none }) with echoRun := min 3 (l.echoRun + 1) }
      let p := p.mapFre fun r => { r with counters := { r.counters with echo := saturate Config.countTop r.counters.echo } }
      let p := p.echoRunReached
      if t.source = .mark then p else p.abandon none true
    else p

/-- A responder begins its node byte for as long as its listed mark is clear (R102). -/
def Part.startResponse (p : Part) : Part :=
  match p.fre.response with
  | some (n, draw) =>
    if p.fre.phase = .window ∧ p.fre.role = .responder ∧ !p.fre.listed ∧ !p.fre.inResponse ∧ !p.fre.duplicate
        ∧ p.lif.lineState ≠ .lost ∧ !p.lif.filtered ∧ lu 12 ≤ p.lif.samples ∧ p.lif.tx = none then
      p.mapLif fun l => { l with tx := some (responseTx (bitsOfBytes (responseBytes n draw))) }
    else p
  | none => p

/-! ## The LOST retry (R118) -/

/-- The LOST retry timer expires: LIF waits for an idle line, unless DUPLICATE is recorded. -/
def Part.retryDue (p : Part) : Part :=
  if p.lif.lostTimer.isRunning then
    p.mapLif fun l => { l with lostTimer := .stopped, retry := if p.fre.duplicate then l.retry else .waiting }
  else p

/-- The retry may begin: LOST, the retry waiting, the line idle on LIF's own measure, no DUPLICATE. -/
def Part.mayRetry (p : Part) : Bool :=
  p.lif.lineState == .lost && p.lif.retry == .waiting && p.lif.quiet && !p.fre.duplicate

/-- LIF has FRE build a Presence from the state at that moment and sends it. It is no entry of the transmit
queue. -/
def Part.startRetry (p : Part) : Part :=
  if p.mayRetry then
    match p.buildPresence with
    | some f =>
      (p.mapFre fun r => { r with role := .sender }).mapLif fun l =>
        { l with retry := .sending, tx := some (openingTx .retry f.bits) }
    | none => p
  else p

/-- The retry's clean ending: IDLE, echo run 0, timer stopped, and the line recovered when no DUPLICATE is
recorded (R118, R52).
(Assumption 28: DEDUCED, safe.) -/
def Part.retryClean (p : Part) : Part :=
  let p := p.mapLif fun l => { l with lineState := .idle, echoRun := 0, lostTimer := .stopped, retry := .none }
  if p.fre.duplicate then p else p.lineRecovered

/-! ## The frame end (R97, R99, R104, R111, R115, R116) -/

/-- The node's own frame has ended clean (R97, R114): the entry leaves the queue, the echo run is cleared, and the
node's own RELEASE moves the last-released node (R84). -/
def Part.ownFrameClean (f : Frame) (p : Part) : Part :=
  let p := (p.mapFre Fre.cleanAttempt).mapLif fun l => { l with echoRun := 0 }
  let p := if p.lif.retry = .sending then p.retryClean else p
  match f.kind with
  | .release => p.ownReleaseHeard
  | .adjust | .claim | .presence => p

/-- A peer's frame is handed to PVW, and a RELEASE or ADJUST to ADU as a retry trigger (R99). The two handings
are separate events that may be taken in either order (R55, R83); they can bear on each other only while a claim
stands in DEFER or QUEUED or a new plan may be asked for in BLOCKED. -/
def Part.peerFrameHeard (f : Frame) (p : Part) : Part :=
  match f.kind with
  | .release | .adjust =>
    if p.adu.state = .defer ∨ p.adu.state = .queued ∨ p.rsq.state = .blocked then
      takeUnordered (fun first p => if first then p.peerFrame f else p.retryTrigger) [true, false] p
    else (p.peerFrame f).retryTrigger
  | .claim | .presence => p.peerFrame f

/-- A window ended without fault (R104): the list goes to PVW, and for the node's own CLAIM the attempt ends clean
and ADU takes the list (assumption 26: DEDUCED, unsafe). A new S_eff that the list brings is reported and acted on before
ADU takes the clean report (assumption 37: DESIGN CHOICE, unsafe). -/
def Part.windowEndsClean (p : Part) : Part :=
  let own := p.fre.isSender
  let list := p.fre.list
  let draw := (p.fre.claimant.map (·.2)).getD 0
  let p := if own then (p.mapFre Fre.cleanAttempt).mapLif fun l => { l with echoRun := 0 } else p
  let p := p.cleanWindow list
  if own then p.claimReport (.clean draw list) else p

/-- FRE at the frame end: IDLE, no role, nothing in progress (R100); no attempt outlives its traffic. -/
def Fre.atFrameEnd (r : Fre) : Fre :=
  { r with phase := .idle, rx := .empty, role := .none, response := none, listed := false, inFlight := none
           lostKind := none, report := none, valid := none, inResponse := false, windowAbandoned := false }

/-- What FRE hands on at the frame end, by its phase. A frame that was tested before commit and carries the number which
the node has taken since is a duplicate (R77, R105, assumption 43: DEDUCED, unsafe). -/
def Part.handOn (p : Part) : Part :=
  match p.fre.phase with
  | .frame =>
    match p.fre.valid with
    | some f =>
      if p.fre.isSender then p.ownFrameClean f
      else if p.ownNode = some f.node then p.recordDuplicate
      else p.peerFrameHeard f
    | none => p
  | .window => p.windowEndsClean
  | .discard => if p.fre.windowAbandoned then p.spoiledWindow else p
  | .idle => p

/-- The claim report owed at the frame end, if any (R104). -/
def Part.giveReport (r : Option PendingReport) (p : Part) : Part :=
  match r with
  | some .lost => p.claimReport .lost
  | some .spoiled => p.claimReport .spoiled
  | some .dropped => p.claimReport .dropped
  | none => p

/-- A retry that ended with an error restarts its timer at the frame end (R118). -/
def Lif.retryEnds (l : Lif) : Lif :=
  if l.retry = .failed then { l with retry := .none, lostTimer := .running Config.lostRetryTime } else l

/-- LIF at the frame end: the traffic mark is cleared and every state but LOST becomes IDLE (R111, R115). The filter
keeps what its samples have counted (R109). -/
def Lif.atFrameEnd (l : Lif) : Lif :=
  { l with samples := lu 24, traffic := false, tx := none
           lineState := if l.lineState = .lost then .lost else .idle }

/-- ADU takes the report that LIF has left STUCK: it stops its line-stuck timer, and a timer that had expired
means that the line has recovered (R52, R116). -/
def Part.leaveStuck (p : Part) : Part :=
  let expired := p.adu.stuckTimer.hasExpired
  let p := p.mapAdu fun a => { a with stuckTimer := .stopped }
  if expired ∧ p.lineAvailable then p.lineRecovered else p

/-- A released phase reaches 24 LU (R111). It has passed 12 LU on the way, and a driven phase that reached 40 LU,
which is not classified, has ended before it (assumption 20: DESIGN CHOICE, safe). An idle line has no further frame end.
FRE hands on what it received before it gives ADU an owed report (assumption 40: DESIGN CHOICE, unsafe), and the report
finds the line state that the frame end brings (assumption 38: DESIGN CHOICE, unsafe). -/
def Part.frameEndReached (p : Part) : Part :=
  if p.lif.filtered ∧ p.lif.samples < lu 40 then p
  else if !p.lif.filtered ∧ !p.lif.traffic ∧ lu 24 ≤ p.lif.samples
      ∧ (p.lif.lineState = .idle ∨ p.lif.lineState = .lost) then p
  else
    let p := (if p.lif.filtered then p.lineTurnsReleased else p).dataEndReached
    let wasStuck := p.lif.lineState = .stuck
    let report := p.fre.report
    let p := p.mapLif Lif.atFrameEnd
    let p := (p.handOn.mapFre Fre.atFrameEnd).giveReport report
    let p := p.mapLif Lif.retryEnds
    if wasStuck then p.leaveStuck else p

/-! ## The loopback test (R119, R120) -/

/-- The Presence-shaped test frame, built from image bytes 0 to 2 as they stand (R119). -/
def loopbackFrame (image : List Byte) : List Byte :=
  withCheck [0x71, byteAt image 0 &&& 0x0F, 0x01, byteAt image 1, byteAt image 2]

/-- The test starts (R119): the filter leaves the pin, the pin is held released, and the Opening begins at once.
What FRE was receiving from the wire is dropped (assumption 21: DESIGN CHOICE, unsafe). -/
def Part.startLoopback (p : Part) : Part :=
  let sent := loopbackFrame p.lpc.image
  (p.mapLif fun l =>
    { l with
      integrator := 0, filtered := false, samples := lu 24, traffic := false
      tx := some (openingTx .loopback (bitsOfBytes sent)), loopRun := some { sent := sent, rx := .empty } }).mapFre
    Fre.atFrameEnd

/-- The loopback result (R120): the first error decides; else the byte count, the check byte, and the bytes. -/
def loopbackResult (sent : List Byte) : LoopEnd → LoopResult
  | .error .echo => .failEcho
  | .error .symbol => .failSymbol
  | .error .framing => .failFraming
  | .received bytes =>
    if bytes.length ≠ 6 then .failFraming
    else if crc bytes.dropLast ≠ bytes.getLastD 0 then .failCheck
    else if bytes = sent then .pass
    else .failMismatch

/-- The test ends (R120): the filter is reconnected with a released phase of 0 LU, the traffic mark clear; the
line state and the echo run stand as they were. -/
def Part.endLoopback (e : LoopEnd) (p : Part) : Part :=
  match p.lif.loopRun with
  | some run =>
    p.mapLif fun l =>
      { l with
        loopResult := loopbackResult run.sent e, loopRun := none, tx := none, integrator := 0, filtered := false
        samples := 0, traffic := false }
  | none => p

end Sys2Proof.Machine
end

