-- ==== Sys2Proof/Machine/Supervision.lean ====
section
/-! DEFINITION. LIU, the lift input unit (chapter 7): the judgement of a tick, the heartbeat, the encoder, the
discrete inputs, the two derived conditions and the reports to RSQ. -/

namespace Sys2Proof.Machine

/-! ## Reports to RSQ (R134) -/

/-- A report of LIU to RSQ. -/
inductive LiuReport where
  | position
  | valid (flag : Bool)
  | load
  | stall (present : Bool)
  | cancel
  deriving DecidableEq, Repr

/-- RSQ takes a report of LIU in its own rules. -/
def LiuReport.act (r : LiuReport) (p : Part) : Part :=
  match r with
  | .position => p.testTarget
  | .valid flag => p.validChanged flag
  | .load => p.loadChanged
  | .stall true => p.stallRaised
  | .stall false => p.stallWithdrawn
  | .cancel => p.cancelHolds

/-- The reports of one event touch RSQ as separate events without order among themselves (R134). They can bear on
each other only in WAIT and BLOCKED, where the order is free; in every other state at most one of them acts, or
all that act lead to WATCH.
(Assumption 35: DEDUCED, safe.) -/
def Part.takeReports (reports : List LiuReport) (p : Part) : Part :=
  if p.rsq.state.waiting then takeUnordered LiuReport.act reports p
  else reports.foldl (fun p r => r.act p) p

/-! ## The derived conditions (R132, R133) -/

/-- Both derived conditions are re-evaluated; before commit neither is (R121, R135). -/
def Liu.evaluate (l : Liu) : Liu :=
  if l.heartbeat = .unsupervised then l else { l with stall := l.stallCondition, cancel := l.cancelCondition }

/-- The reports of changed conditions. RSQ acts on nothing when the cancel condition stops holding. -/
def conditionReports (old new : Liu) : List LiuReport :=
  (if old.stall = new.stall then [] else [LiuReport.stall new.stall])
    ++ (if !old.cancel && new.cancel then [LiuReport.cancel] else [])

/-- One evaluation of both conditions, its changes reported. -/
def Part.evaluateConditions (p : Part) : Part :=
  let new := p.liu.evaluate
  (p.mapLiu fun _ => new).takeReports (conditionReports p.liu new)

/-! ## The heartbeat (R122 to R125) -/

/-- LIU's answer to LPC about a tick (R155). -/
inductive TickAnswer where
  | accepted | repeated | outOfRange
  deriving DecidableEq, Repr

/-- The heartbeat timeout, configured in ticks of 10 ms (R124). -/
def Settings.heartbeatLength (c : Settings) : Nat := Config.ms (10 * c.heartbeatTime)

/-- The figures of an accepted tick are latched, the lockout follows the controller state, the heartbeat is
HEALTHY and its timer reloaded (R123, R124, R125). -/
def Liu.latch (length : Nat) (kind : TickKind) (position loadByte : Nat) (controller : ControllerState) (l : Liu) :
    Liu :=
  { l with
    lastKind := some kind
    position := if position ≤ Config.shaftTop then position else l.position
    positionValid := decide (position ≤ Config.shaftTop)
    load := loadOfByte loadByte
    controller := some controller
    lockout := controller == .service
    heartbeat := .healthy
    heartbeatTimer := .running length }

/-- The reports of an accepted tick, besides those of the conditions (R134). -/
def tickReports (position : Nat) (old new : Liu) : List LiuReport :=
  (if position ≤ Config.shaftTop then [LiuReport.position] else [])
    ++ (if old.positionValid = new.positionValid then [] else [LiuReport.valid new.positionValid])
    ++ (if old.load = new.load then [] else [LiuReport.load])

/-- An accepted tick (R123): its figures, one evaluation on the complete figures, the reports. -/
def Part.acceptTick (kind : TickKind) (d : TickData) (controller : ControllerState) (p : Part) : Part :=
  let latched := p.liu.latch p.settings.heartbeatLength kind d.position d.loadByte controller
  let new := latched.evaluate
  (p.mapLiu fun _ => new).takeReports (tickReports d.position p.liu new ++ conditionReports p.liu new)

/-- LIU judges a tick (R122). -/
def Part.judgeTick (kind : TickKind) (d : TickData) (p : Part) : TickAnswer × Part :=
  match d.controller with
  | none => (.outOfRange, p)
  | some controller =>
    if p.liu.lastKind = some kind then
      (.repeated, p.mapLiu fun l => { l with repeats := saturate Config.countTop l.repeats })
    else (.accepted, p.acceptTick kind d controller)

/-- The heartbeat timer expires: EXPIRED, the timer stopped, the conditions re-evaluated (R124). -/
def Part.heartbeatExpires (p : Part) : Part :=
  if p.liu.heartbeatTimer.isRunning then
    (p.mapLiu fun l => { l with heartbeat := .expired, heartbeatTimer := .stopped }).evaluateConditions
  else p

/-- Commit (R124, R135): the heartbeat timer starts, the state is HEALTHY, and both conditions are evaluated. RSQ's
entry to WATCH reads the stall indication as it then stands (R152). -/
def Part.commitSupervision (p : Part) : Part :=
  p.mapLiu fun l =>
    { l with heartbeat := .healthy, heartbeatTimer := .running p.settings.heartbeatLength }.evaluate

/-! ## The encoder (R126, R127) -/

/-- The encoder pins take a pair. -/
def Part.moveEncoder (move : Bool × Bool → Bool × Bool) (p : Part) : Part :=
  p.mapPins fun q => { q with encoder := move (if q.resetLow then q.encoder else p.liu.encoder) }

/-- The position counter after a step, saturating at 0 and at 65535. -/
def stepPosition (d : Dir) (position : Nat) : Nat :=
  match d with
  | .up => min Config.positionTop (position + 1)
  | .down => position - 1

/-- A legal step: the counter moves by one millimetre, the held pair becomes the sample, and RSQ takes the step
event (R126). -/
def Part.encoderMoves (d : Dir) (p : Part) : Part :=
  (p.mapLiu fun l => { l with position := stepPosition d l.position, encoder := p.pins.encoder }).stepEvent d

/-- An illegal transition: the valid flag is cleared, and the change reported when the flag was set (R127). -/
def Part.encoderSkips (p : Part) : Part :=
  let wasValid := p.liu.positionValid
  let p := p.mapLiu fun l => { l with positionValid := false, encoder := p.pins.encoder }
  if wasValid then p.validChanged false else p

/-- LIU samples the encoder pair (R126). -/
def Part.sampleEncoder (p : Part) : Part :=
  match encoderMeaning p.liu.encoder p.pins.encoder with
  | .unchanged => p
  | .step d => p.encoderMoves d
  | .illegal => p.encoderSkips

/-! ## The discrete inputs (R130) -/

/-- A sample of a pin: when it differs from the candidate it becomes the candidate, and the stability timer
restarts at 20 ms. -/
def Debounced.sample (level : Bool) (d : Debounced) : Debounced :=
  if level = d.candidate then d else { d with candidate := level, timer := .running Config.debounceTime }

/-- LIU samples one input pin. -/
def Part.sampleInput (i : Input) (level : Bool) (p : Part) : Part :=
  p.mapLiu fun l => l.setInput i ((l.input i).sample level)

/-- The debounced mains changes: the conditions are re-evaluated. Where the cancel condition then ends BLOCKED, the mark of R31
says for this instant that a RESUME taken now falls together with it. A tick leaves no such mark: it is a transaction of
RESUME's own port, and the two are taken in their order (R147, R148, assumption 44: DESIGN CHOICE, safe). -/
def Part.mainsChanges (p : Part) : Part :=
  let q := p.evaluateConditions
  if p.rsq.state = .blocked ∧ q.rsq.state = .watch then q.mapRsq fun r => { r with cancelCame := true } else q

/-- A stability timer expires: a candidate that differs becomes the debounced level. A change of the mains
re-evaluates the conditions; every change is reported to RSQ. -/
def Part.debounceExpires (i : Input) (p : Part) : Part :=
  let d := p.liu.input i
  if d.timer.isRunning then
    let p := p.mapLiu (Liu.setInput i { d with level := d.candidate, timer := .stopped })
    if d.candidate = d.level then p
    else if i = .mains then p.mainsChanges.inputChanged i d.candidate
    else p.inputChanged i d.candidate
  else p

end Sys2Proof.Machine
end

