-- ==== Sys2Proof/Machine/Port.lean ====
section
/-! DEFINITION. LPC, the lift port (chapter 9): the framing of a transaction, the records it returns, the
commands it takes at the release of select, and the resets. -/

namespace Sys2Proof.Machine

/-! ## The records returned (R162, R163) -/

/-- The STATUS record as it stands: 31 bytes (R156, R162). -/
def Part.statusRecord (p : Part) : List Byte :=
  let c := p.fre.counters
  [byte p.rsq.state.code, byte p.rsq.cause.code, byte p.adu.state.code, byte p.adu.heldDraw, byte p.pcu.refusals]
    ++ bytes2 p.pcu.plan.draw ++ bytesOfKey (p.pcu.plan.key.getD 0)
    ++ [byte p.lif.lineState.code, byte p.lif.loopResult.code,
        byte c.symbol, byte c.framing, byte c.check, byte c.echo, byte c.unknownKind, byte c.arbitration]
    ++ bytes2 (p.pvw.sEff.getD 0)
    ++ [(p.adu.lastRelease.map fun o => byte o.code).getD 0xFF, byte p.anu.underruns, byte p.liu.heartbeat.code]
    ++ bytes2 p.liu.position
    ++ [byte p.liu.repeats, byte p.lpc.startCause.code, byte p.lpc.lastResult.code,
        (p.lpc.failOffset.map byte).getD 0xFF, byte p.lpc.portErrors, p.statusFlags]

/-- The VIEW record of a peer record: 11 bytes (R163). -/
def PeerRecord.bytes (r : PeerRecord) : List Byte :=
  [byte r.node.toNat, byte r.stateCode, byte r.age,
    byte (flagBit 0 r.inferred + flagBit 1 r.sEcho.isSome + flagBit 2 r.draw.isSome + flagBit 3 r.key.isSome
      + flagBit 4 r.lastOutcome.isSome)]
    ++ bytes2 (r.sEcho.getD 0) ++ [byte (r.draw.getD 0)] ++ bytesOfKey (r.key.getD 0)
    ++ [byte ((r.lastOutcome.map ReleaseOutcome.code).getD 0)]

/-- The VIEW record that names no record: node 0xFF, every other byte zero (R163). -/
def absentRecord : List Byte := 0xFF :: List.replicate 10 0

/-- The VIEW record at an index: an index at or beyond the number of records, or above 14, names none (R157). -/
def Part.viewRecord (index : Nat) (p : Part) : List Byte :=
  if 14 < index then absentRecord else ((p.pvw.records[index]?).map PeerRecord.bytes).getD absentRecord

/-! ## The framing of a transaction (R147) -/

/-- Select is asserted: the command byte is being clocked. -/
def Lpc.select (l : Lpc) : Lpc :=
  { l with phase := .command, staging := [], byteCount := 0, bitCount := 0, snapshot := [], dout := []
           doutBits := [] }

/-- The byte LP_DO carries next: the record byte that is next in READOUT, 0x00 in every other phase and after the
record's end. In IGNORE the bytes after the command byte are operands that nothing takes (assumption 32: DEDUCED, unsafe). -/
def Lpc.nextOut (l : Lpc) : Byte := if l.phase = .readout then l.snapshot.headD 0 else 0

/-- The phase that a complete command byte leads to. A VIEW waits for its index byte (assumption 11: DEDUCED, safe). -/
def PortCommand.phaseAfter (c : PortCommand) : PortPhase :=
  match c with
  | .load | .commit | .restart | .loopback | .tickA | .tickB | .resume => .operands
  | .status => .readout
  | .view => .command
  | .unknown => .ignore

/-- A whole byte is clocked while the part has these records: the STATUS record is latched as its command byte
completes, the VIEW record as its index byte completes (R156, R157). -/
def Lpc.clockByte (status : List Byte) (viewed : Nat → List Byte) (b : Byte) (l : Lpc) : Lpc :=
  let out := l.nextOut
  let l := { l with byteCount := l.byteCount + 1, dout := l.dout ++ [out] }
  match l.phase with
  | .idle | .ignore => l
  | .command =>
    if l.byteCount = 1 then
      let c := PortCommand.ofCode b
      { l with phase := c.phaseAfter, snapshot := if c = .status then status else [] }
    else { l with phase := .readout, snapshot := viewed b.toNat }
  | .operands => { l with staging := if l.staging.length < Config.stagingLength then l.staging ++ [b] else l.staging }
  | .readout => { l with snapshot := l.snapshot.drop 1 }

/-- The bits of a byte that the release of select cuts short. -/
def Lpc.clockBits (bits : Nat) (l : Lpc) : Lpc :=
  { l with bitCount := bits, doutBits := (bitsOfByte l.nextOut).take bits }

/-- A transaction from the assertion of select to the last bit before its release. -/
def Part.clock (bytes : List Byte) (bits : Nat) (p : Part) : Part :=
  let status := p.statusRecord
  p.mapLpc fun l =>
    (bytes.foldl (fun l b => l.clockByte status (fun i => p.viewRecord i) b) l.select).clockBits bits

/-- The release of select: IDLE, the staging store and the counts empty. -/
def Part.release (p : Part) : Part :=
  p.mapLpc fun l => { l with phase := .idle, staging := [], byteCount := 0, bitCount := 0, snapshot := [] }

/-- The last-command result. -/
def Part.setResult (r : CommandResult) (p : Part) : Part := p.mapLpc fun l => { l with lastResult := r }

/-- A transaction refused for its framing or its code: the port-error count is raised (R148). -/
def Part.refuseTransaction (r : CommandResult) (p : Part) : Part :=
  (p.mapLpc fun l => { l with portErrors := saturate Config.countTop l.portErrors }).setResult r

/-- A transaction whose beginning the part did not see: LPC takes no byte of it, and its release of select ends
the wait (R147). What LP_DO carries in it is left out (assumption 42: DESIGN CHOICE, safe). -/
def Part.missTransaction (p : Part) : Part :=
  (p.mapLpc fun l => { l with awaitRelease := false }).mapPins fun q => { q with selected := false }

/-- A transaction has been taken: one after it is later than the instant in which the debounced mains ended BLOCKED (R147, R148,
assumption 44: DESIGN CHOICE, safe). -/
def Rsq.instantOver (r : Rsq) : Rsq := { r with cancelCame := false }

/-- A whole transaction: `finish` is what LPC does at the release of select, given the framing state that the
release found. -/
def Part.transaction (bytes : List Byte) (bits : Nat) (finish : Lpc → Part → Part) (p : Part) : Part :=
  if p.lpc.awaitRelease then p.missTransaction.mapRsq Rsq.instantOver
  else
    let p := p.clock bytes bits
    (finish p.lpc p.release).mapRsq Rsq.instantOver

/-- A modifying command is taken at the release of select, with exactly the byte count it requires and no bits of
a partial byte; otherwise it is refused for its framing (R148). -/
def Part.modify (c : PortCommand) (t : Tail) (take : List Byte → Part → Part) (p : Part) : Part :=
  p.transaction (c.code :: t.bytes) t.bits.val fun l p =>
    if l.phase = .operands ∧ c.countFits l.byteCount ∧ l.bitCount = 0 then take l.staging p
    else p.refuseTransaction .framing

/-- A read may end at any byte and at any bit (R148). -/
def Part.readOut (c : PortCommand) (t : Tail) (p : Part) : Part :=
  p.transaction (c.code :: t.bytes) t.bits.val fun _ p => p

/-! ## The commands (R150 to R155) -/

/-- LOAD (R150). -/
def Part.takeLoad (staged : List Byte) (p : Part) : Part :=
  let offset := (byteAt staged 0).toNat
  let data := staged.drop 1
  if p.lpc.committed then p.setResult .wrongState
  else if Config.imageLength < offset + data.length then p.setResult .range
  else (p.mapLpc fun l => { l with image := writeBytes offset data l.image }).setResult .done

/-- The hand-overs of a successful COMMIT (R152). -/
def Part.goIntoService (p : Part) : Part :=
  let p := p.mapLpc fun l => { l with committed := true, failOffset := none, lastResult := .done }
  let p := p.mapAnu (Anu.commit p.settings)
  let p := p.mapFre fun r => { r with presenceTimer := .running Config.presenceTime }
  p.commitView.commitSupervision.enterWatch

/-- COMMIT (R151, R152). -/
def Part.takeCommit (p : Part) : Part :=
  if p.lpc.committed then p.setResult .wrongState
  else
    match validateImage p.lpc.image with
    | some offset => (p.mapLpc fun l => { l with failOffset := some offset }).setResult .invalid
    | none => p.goIntoService

/-- LOOPBACK (R154). -/
def Part.takeLoopback (p : Part) : Part :=
  if p.lpc.committed then p.setResult .wrongState
  else if p.lif.loopRun.isSome then p.setResult .busy
  else p.startLoopback.setResult .done

/-- TICK_A and TICK_B (R155). -/
def Part.takeTick (kind : TickKind) (staged : List Byte) (p : Part) : Part :=
  if !p.lpc.committed then p.setResult .wrongState
  else
    match p.judgeTick kind (TickData.ofBytes staged) with
    | (.outOfRange, p) => p.setResult .range
    | (.accepted, p) | (.repeated, p) => p.setResult .done

/-- RSQ accepts a RESUME (R31). -/
def Part.resumeAccepted (p : Part) : Bool :=
  match p.rsq.state with
  | .blocked => p.liu.cancel
  | .landed => true
  | .halted => p.liu.cancel && p.liu.chain.level
  | .start | .watch | .parked | .verify | .wait | .warn | .probe | .creep | .level | .doors => false

/-- The debounced mains has made the cancel condition hold in this same instant, and that ended BLOCKED, so that RESUME and the
cancel condition fall together (R31). -/
def Part.resumeMeetsCancel (p : Part) : Bool := p.rsq.state == .watch && p.rsq.cancelCame

/-- RESUME (R31, R155). One that falls together with the cancel condition in BLOCKED may be taken before it, accepted, or after
it, refused; the sequencer is in WATCH either way (assumption 44: DESIGN CHOICE, safe). -/
def Part.takeResume (p : Part) : Part :=
  if p.resumeAccepted then p.enterWatch.setResult .done
  else if p.resumeMeetsCancel then
    let (n, p) := p.choose
    p.setResult (if n % 2 = 0 then .resumeRefused else .done)
  else p.setResult .resumeRefused

/-! ## The resets (R153) -/

/-- RESTART: every block at its reset values, the image buffer kept; select has just been released. -/
def Part.takeRestart (p : Part) : Part :=
  .reset p.lpc.image .restart { p.pins with selected := false } p.choices

/-- Power-on: the image buffer is cleared. The levels of the pins are their drivers'. -/
def Part.powerUp (selected : Bool) (p : Part) : Part :=
  .reset clearedImage .powerOn { p.pins with selected := selected } p.choices

/-- RSTN goes low: the reset is taken, and the part stays at its reset values for as long as RSTN is low. -/
def Part.resetFalls (selected : Bool) (p : Part) : Part :=
  .reset clearedImage .resetInput { p.pins with selected := selected, resetLow := true } p.choices

/-- RSTN returns high: the part begins work with the levels of its pins as they stand now (R121, R131, R147). -/
def Part.resetRises (selected : Bool) (p : Part) : Part :=
  if p.pins.resetLow then
    .reset clearedImage .resetInput { p.pins with selected := selected, resetLow := false } p.choices
  else p

end Sys2Proof.Machine
end

