-- ==== Sys2Proof/Machine/Sequence.lean ====
section
/-! DEFINITION. The expiries of the timers of RSQ, PCU, ADU and FRE, as the part takes them. An expiry whose timer
does not run, or whose state is not the one the timer belongs to, is no event and has no effect (assumption 2: DESIGN CHOICE, safe). -/

namespace Sys2Proof.Machine

/-! ## RSQ -/

/-- The verify timer expires in VERIFY: the case decision (R11). -/
def Part.verifyExpires (p : Part) : Part :=
  if p.rsq.state = .verify ∧ p.rsq.verifyTimer.isRunning then
    (p.mapRsq fun r => { r with verifyTimer := .stopped }).decideCase
  else p

/-- The gate fallback timer expires in WARN: the gate opens when the voice-unavailable mark is set; otherwise the
expiry is remembered (R18). -/
def Part.gateExpires (p : Part) : Part :=
  if p.rsq.state = .warn ∧ p.rsq.gateTimer.isRunning then
    if p.rsq.voiceUnavailable then p.enterProbe else p.mapRsq fun r => { r with gateTimer := .expired }
  else p

/-- The probe window counter reaches its limit first: the car is balanced (R20). -/
def Part.probeWindowEnds (p : Part) : Part :=
  if p.rsq.state = .probe then
    (p.mapRsq fun r => { r with probeWindow := p.settings.probeWindow, probeTick := .stopped }).raceEnds .balanced
  else p

/-- The brake timer expires in CREEP: HALTED with BRAKE unless the mark is set (R25). -/
def Part.brakeExpires (p : Part) : Part :=
  if p.rsq.state = .creep ∧ p.rsq.brakeTimer.isRunning then
    if p.rsq.brakeSeen then p.mapRsq fun r => { r with brakeTimer := .stopped } else p.enterHalted .brake
  else p

/-- A progress window ends: its test, and the next window at zero (R24). -/
def Part.progressWindowEnds (p : Part) : Part :=
  if p.rsq.state = .creep then
    if p.rsq.progressNet < (p.settings.minProgress : Int) then p.enterHalted .progress
    else p.mapRsq fun r => { r with progressTimer := .running Config.progressTime, progressNet := 0 }
  else p

/-- A speed window ends: the next one starts at zero (R24). -/
def Part.speedWindowEnds (p : Part) : Part :=
  if p.rsq.state = .creep then p.mapRsq fun r => { r with speedTimer := .running Config.speedTime, speedCount := 0 }
  else p

/-- The level timer expires first in LEVEL: the brake has not stopped the car (R27). -/
def Part.levelExpires (p : Part) : Part :=
  if p.rsq.state = .level ∧ p.rsq.levelTimer.isRunning then p.enterHalted .brake else p

/-- The standstill timer expires in LEVEL: DOORS (R27). -/
def Part.standstillExpires (p : Part) : Part :=
  if p.rsq.state = .level ∧ p.rsq.standstillTimer.isRunning then p.enterDoors else p

/-- The door timer expires in DOORS: HALTED with DOOR (R28). -/
def Part.doorExpires (p : Part) : Part :=
  if p.rsq.state = .doors ∧ p.rsq.doorTimer.isRunning then p.enterHalted .door else p

/-! ## PCU -/

/-- The 1 s timer of the wait-seconds count expires: the count advances, the timer runs on, and the key is
recomputed when the wait class changes (R33, R45). -/
def Part.waitSecondPasses (p : Part) : Part :=
  if p.pcu.waitTimer.isRunning then
    let before := waitClass p.pcu.waitSeconds
    let p := p.mapPcu fun c =>
      { c with waitSeconds := saturate Config.waitSecondsTop c.waitSeconds, waitTimer := .running Config.secondTime }
    if waitClass p.pcu.waitSeconds = before then p else p.recomputeKey
  else p

/-! ## ADU -/

/-- The retry timer expires: a retry trigger in DEFER, a line test in QUEUED (R55, R57). -/
def Part.retryExpires (p : Part) : Part :=
  if p.adu.retryTimer.isRunning then (p.mapAdu fun a => { a with retryTimer := .stopped }).retryTrigger else p

/-- The deferral limit timer expires in DEFER: the queueing procedure without the deferral question (R54). -/
def Part.deferralExpires (p : Part) : Part :=
  if p.adu.state = .defer ∧ p.adu.deferralTimer.isRunning then
    (p.mapAdu fun a => { a with deferralTimer := .stopped }).queueing false
  else p

/-! ## FRE -/

/-- The Presence timer expires: it runs on, and a Presence is offered except in PARKED (R93). -/
def Part.presenceExpires (p : Part) : Part :=
  if p.fre.presenceTimer.isRunning then
    let p := p.mapFre fun r => { r with presenceTimer := .running Config.presenceTime }
    if p.rsq.state = .parked then p else p.offerPresence
  else p

/-! ## ANU -/

/-- ANU acts with the committed configuration and the rescue state, and RSQ takes the report it makes, if any. -/
def Part.announce (act : Settings → Bool → Anu → Anu × Option MovingReport) (p : Part) : Part :=
  let (anu, report) := act p.settings (p.rsq.state == .wait) p.anu
  ({ p with anu := anu }).takeMoving report

end Sys2Proof.Machine
end

