-- ==== Sys2Proof/Machine/Clock.lean ====
section
/-! DEFINITION. The passing of time: what one sample period of 4 µs does when no command waits (assumption 1: DESIGN CHOICE, unsafe).
Every timer runs one period down, the line is sampled and measured, and the commands that have come due join the
queue. -/

namespace Sys2Proof.Machine

/-! ## Timers -/

/-- The sequencer's timers run down, and the instant in which the debounced mains ended BLOCKED is over. -/
def Rsq.elapse (r : Rsq) : Rsq :=
  { r with
    cancelCame := false
    verifyTimer := r.verifyTimer.elapse, gateTimer := r.gateTimer.elapse, probeTick := r.probeTick.elapse
    progressTimer := r.progressTimer.elapse, speedTimer := r.speedTimer.elapse, brakeTimer := r.brakeTimer.elapse
    levelTimer := r.levelTimer.elapse, standstillTimer := r.standstillTimer.elapse
    doorTimer := r.doorTimer.elapse }

/-- A stability timer runs down. -/
def Debounced.elapse (d : Debounced) : Debounced := { d with timer := d.timer.elapse }

/-- LIU's timers run down. -/
def Liu.elapse (l : Liu) : Liu :=
  { l with
    heartbeatTimer := l.heartbeatTimer.elapse, mains := l.mains.elapse, chain := l.chain.elapse
    doorZone := l.doorZone.elapse, doorsOpen := l.doorsOpen.elapse, brakeFeedback := l.brakeFeedback.elapse }

/-- A peer record grows older: a whole second is counted when its sample periods are complete. The seconds that
make it stale and that remove it are left to their commands (R76). -/
def PeerRecord.elapse (r : PeerRecord) : PeerRecord :=
  if r.ageClock + 1 < Config.secondTime then { r with ageClock := r.ageClock + 1 }
  else if r.age + 1 = Config.staleAge ∨ r.age + 1 = Config.removalAge then { r with ageClock := Config.secondTime }
  else { r with age := r.age + 1, ageClock := 0 }

/-- The record has reached the age at which it becomes stale, or is removed. -/
def PeerRecord.dueCommands (r : PeerRecord) : List (List Instr) :=
  if r.reaches Config.staleAge then [[.recordStale r.node]]
  else if r.reaches Config.removalAge then [[.recordRemoved r.node]]
  else []

/-- Every timer of the part runs one sample period down, the records of peers grow older, and the clock of the
sample instants runs on. -/
def Part.elapse (p : Part) : Part :=
  { p with
    rsq := p.rsq.elapse
    pcu := { p.pcu with waitTimer := p.pcu.waitTimer.elapse }
    adu := { p.adu with
             retryTimer := p.adu.retryTimer.elapse, deferralTimer := p.adu.deferralTimer.elapse
             stuckTimer := p.adu.stuckTimer.elapse }
    pvw := { p.pvw with records := p.pvw.records.map PeerRecord.elapse }
    fre := { p.fre with presenceTimer := p.fre.presenceTimer.elapse }
    lif := { p.lif with lostTimer := p.lif.lostTimer.elapse }
    liu := p.liu.elapse
    anu := { p.anu with
             patience := p.anu.patience.elapse, sampleClock := p.anu.sampleClock + Config.samplePeriodMicros } }

/-- The timers whose expiries are commands of the table, each with its command. -/
def Part.timers (p : Part) : List (Timer × Instr) :=
  [ (p.rsq.verifyTimer, Instr.verifyTimerExpiry), (p.rsq.gateTimer, .gateFallbackExpiry),
    (p.rsq.brakeTimer, .brakeTimerExpiry), (p.rsq.progressTimer, .progressWindowEnd),
    (p.rsq.speedTimer, .speedWindowEnd), (p.rsq.levelTimer, .levelTimerExpiry),
    (p.rsq.standstillTimer, .standstillExpiry), (p.rsq.doorTimer, .doorTimerExpiry),
    (p.pcu.waitTimer, .waitSecondsTimerExpiry), (p.adu.retryTimer, .retryTimerExpiry),
    (p.adu.deferralTimer, .deferralLimitExpiry), (p.adu.stuckTimer, .lineStuckTimerExpiry),
    (p.fre.presenceTimer, .presenceTimerExpiry), (p.lif.lostTimer, .lostRetryTimerExpiry),
    (p.liu.heartbeatTimer, .heartbeatExpiry), (p.liu.mains.timer, .debounceExpiry .mains),
    (p.liu.chain.timer, .debounceExpiry .chain), (p.liu.doorZone.timer, .debounceExpiry .doorZone),
    (p.liu.doorsOpen.timer, .debounceExpiry .doorsOpen),
    (p.liu.brakeFeedback.timer, .debounceExpiry .brakeFeedback),
    (p.anu.patience, .patienceTimerExpiry) ]

/-- The expiries of the timers that have run their length. -/
def Part.expiries (p : Part) : List Instr := p.timers.filterMap fun (t, c) => if t.due then some c else none

/-- The advance of the probe window counter that is due now reaches the limit (R20). -/
def Part.probeWindowReached (p : Part) : Bool :=
  p.rsq.probeTick.due && decide (p.settings.probeWindow ≤ p.rsq.probeWindow + 1)

/-- The probe window counter advances once every 10 ms (R20). The advance that reaches the limit is left to its
command. -/
def Part.advanceProbe (p : Part) : List (List Instr) × Part :=
  if p.probeWindowReached then ([[.probeWindowExpiry]], p)
  else if p.rsq.probeTick.due then
    ([], p.mapRsq fun r => { r with probeWindow := r.probeWindow + 1, probeTick := .running Config.probeTickTime })
  else ([], p)

/-- A sample instant comes every 125 µs (R142). -/
def Part.advanceSamples (p : Part) : List (List Instr) × Part :=
  if Config.sampleInstantMicros ≤ p.anu.sampleClock then
    ([[.sampleInstant]], p.mapAnu fun a => { a with sampleClock := a.sampleClock - Config.sampleInstantMicros })
  else ([], p)

/-! ## The line: one sample (R109 to R114) -/

/-- A due time comes one sample nearer. -/
def nearer (due : Option Nat) : Option Nat := due.map (· - 1)

/-- The node's own symbol is one sample older. -/
def Tx.elapse (t : Tx) : Tx :=
  { t with driveAge := t.driveAge + 1, releaseDue := nearer t.releaseDue, edgeDue := nearer t.edgeDue }

/-- LIF's own next release or edge is due now (R112). -/
def Tx.due (t : Tx) : Bool := t.releaseDue == some 0 || t.edgeDue == some 0

/-- LIF has a release or an edge of its own due now (R112). -/
def Lif.symbolDue (l : Lif) : Bool := (l.tx.map Tx.due).getD false

/-- The integrator after a sample (R109). -/
def integrate (wire : Bool) (n : Nat) : Nat := if wire then min filterDelay (n + 1) else n - 1

/-- A sample is taken: the integrator moves. The length of the phase with this sample is `samples + 1`. -/
def Lif.sampleWire (wire : Bool) (l : Lif) : Lif :=
  { l with integrator := integrate wire l.integrator, tx := l.tx.map Tx.elapse }

/-- The filtered output changes at this sample (R109). -/
def Lif.turns (l : Lif) : Bool := if l.filtered then l.integrator == 0 else l.integrator == filterDelay

/-- An edge is a transmit symbol error of the node's own timing (R113): its next edge is due more than 1 LU from
now, or it has sent its last bit. It is judged where the edge ends a released phase of less than 12 LU. -/
def Tx.earlyEdge (t : Tx) : Bool :=
  match t.source with
  | .mark => false
  | .frame | .retry | .response | .loopback =>
    t.edgeDue.isSome
      || (t.driving && t.driveAge < 2 && 0 < t.begun)
      || (!t.driving && t.begun == t.bits.length && 0 < t.begun)

/-- The own timing has the line released, and it is still driven at this sample of a driven phase (R113). -/
def Tx.overrun (samples : Nat) (t : Tx) : List Instr :=
  match t.source with
  | .mark | .loopback => []
  | .frame | .retry | .response =>
    if t.begun = 0 then (if samples = lu 15 then [.transmitSymbolError] else [])
    else if t.sendsOne then (if samples = lu 3 then [.arbitrationLoss] else [])
    else if samples = lu 6 then [.transmitSymbolError] else []

/-- The echo check while LIF drives and the filtered line is released (R114): the line has not shown the drive within
2 LU, or it has shown it and has fallen since. -/
def Lif.echoFails (l : Lif) : Bool :=
  match l.tx with
  | some t => t.driving && !l.filtered && (t.shown || lu 2 ≤ t.driveAge)
  | none => false

/-- The node's drive is no attempt, but a response or an error mark: the released phase in which its echo check fails is
measured on (R111, R114). -/
def Lif.answers (l : Lif) : Bool := (l.tx.map (!·.source.isAttempt)).getD false

/-- A released phase ends at this sample, after `length` LU (R110, R111, R115): the next bit begins without a
command of its own; every other edge has one. An edge from 12 LU on comes after the data end. Where it comes more than 1 LU
before a responder's first edge is due, R101 has a response's start or a window fault in it and R113 a transmit symbol error,
and either is taken (assumption 33: DESIGN CHOICE, safe). On the very sample of 24 LU the frame end comes first, and the line is driven before FRE can
begin (assumption 41: DESIGN CHOICE, unsafe). -/
def Part.edgeFound (length : Nat) (early : Bool) (p : Part) : List Instr × Part :=
  let stop := if early then [Instr.transmitSymbolError] else []
  if !p.lif.traffic then ([.idleLineDriven], p)
  else if 24 ≤ length then ([.frameEnd, .idleLineDriven], p)
  else if 12 ≤ length then
    if p.firstEdgeDue then
      let (n, p) := p.choose
      ([if n % 2 = 0 then .edgeAfterDataEnd length else .transmitSymbolError], p)
    else ([.edgeAfterDataEnd length], p)
  else if 2 ≤ length ∧ length ≤ 7 then (stop, p.lineTurnsDriven)
  else (stop ++ [.lineSymbolError (.edge length)], p)

/-- A phase goes on: the lengths that are signalled while it runs (R110, R111, R116), and the start of a response
(R102). -/
def Part.phaseGoesOn (p : Part) : List Instr × Part :=
  let samples := p.lif.samples + 1
  let counted := p.mapLif fun l => { l with samples := samples }
  if p.lif.filtered then
    if samples = lu 40 then ([.lineHeld], p)
    else if samples = lu 160 then ([.lineStuck], p)
    else ((p.lif.tx.map (Tx.overrun samples)).getD [], counted)
  else if p.lif.traffic ∧ samples = lu 12 then ([.dataEnd], p)
  else if samples = lu 24 ∧ (p.lif.traffic ∨ p.lif.lineState ≠ .idle) then ([.frameEnd], p)
  else if samples + filterDelay = lu 16 ∧ p.fre.phase = .window ∧ p.fre.role = .responder then
    ([.responseStart], counted)
  else ([], counted)

/-- A length in samples as whole LU. No filtered phase is shorter than 1 LU: the filter takes six samples to turn
(R109).
(Assumption 25: DEDUCED, safe.) -/
def wholeLU (samples : Nat) : Nat := max 1 (samples / Config.samplesPerLU)

/-- A driven phase ends at this sample: the thresholds it reaches with its last sample, then its classification
(R110, R116). -/
def phaseEnds (samples : Nat) : List Instr :=
  (if samples = lu 40 then [Instr.lineHeld] else []) ++ (if samples = lu 160 then [Instr.lineStuck] else [])
    ++ [.classifiedSymbol (wholeLU samples)]

/-- One sample of the wire, outside a loopback test. -/
def Part.sampleLine (p : Part) : List Instr × Part :=
  let p := p.mapLif (Lif.sampleWire (p.lif.drives || p.pins.lineOther))
  let early := (p.lif.tx.map Tx.earlyEdge).getD false
  let length := wholeLU (p.lif.samples + 1)
  let due := if p.lif.symbolDue then [Instr.symbolDueTime] else []
  let (events, p) :=
    if p.lif.turns then
      if !p.lif.filtered then p.edgeFound length early
      else if p.lif.drives then ([.echoFailure], p)
      else (phaseEnds (p.lif.samples + 1), p)
    else if p.lif.echoFails then
      if p.lif.answers then
        let (events, p) := p.phaseGoesOn
        (.echoFailure :: events, p)
      else ([.echoFailure], p)
    else p.phaseGoesOn
  (events ++ due, p)

/-! ## The loopback test (R119, R120) -/

/-- The test receiver takes a bit. -/
def LoopRun.take (b : Bool) (run : LoopRun) : LoopRun := { run with rx := run.rx.take b }

/-- The test's end is due with this ending. -/
def testEnds (e : LoopEnd) : List Instr := [.loopbackTestEnd e]

/-- A driven phase of the internal path ends: its symbol is taken into the test receiver. -/
def Lif.testSymbol (run : LoopRun) (l : Lif) : List Instr × Lif :=
  let turned := l.turnReleased
  match classify l.idleBefore ((l.samples + 1) / Config.samplesPerLU) with
  | some .one => ([], { turned with loopRun := some (run.take true) })
  | some .zero => ([], { turned with loopRun := some (run.take false) })
  | some .opening => ([], { turned with loopRun := some { run with rx := .empty } })
  | some .framingError => (testEnds (.error .framing), turned)
  | some .symbolError | none => (testEnds (.error .symbol), turned)

/-- An edge of the internal path. -/
def Lif.testEdge (early : Bool) (l : Lif) : List Instr × Lif :=
  let length := (l.samples + 1) / Config.samplesPerLU
  if !l.traffic ∨ (2 ≤ length ∧ length ≤ 7 ∧ !early) then ([], l.turnDriven)
  else if 12 ≤ length then (testEnds (.error .framing), l.turnDriven)
  else (testEnds (.error .symbol), l.turnDriven)

/-- A phase of the internal path goes on: the data end, with the byte count, and the end of the test. -/
def Lif.testGoesOn (run : LoopRun) (l : Lif) : List Instr × Lif :=
  let samples := l.samples + 1
  let l := { l with samples := samples }
  if l.filtered ∨ !l.traffic then ([], l)
  else if samples = lu 12 ∧ run.rx.bits ≠ 48 then (testEnds (.error .framing), l)
  else if samples = lu 24 then (testEnds (.received run.rx.bytes), l)
  else ([], l)

/-- One sample of the internal path, on which LIF's own drive is all there is. -/
def Part.sampleTest (run : LoopRun) (p : Part) : List Instr × Part :=
  let l := p.lif.sampleWire p.lif.drives
  let early := (l.tx.map Tx.earlyEdge).getD false
  let due := if l.symbolDue then [Instr.symbolDueTime] else []
  let (events, l) :=
    if l.turns then
      if !l.filtered then l.testEdge early
      else if l.drives then (testEnds (.error .echo), l)
      else l.testSymbol run
    else if l.echoFails then (testEnds (.error .echo), l)
    else l.testGoesOn run
  (events ++ due, { p with lif := l })

/-- One sample of the line, or of the internal path while the loopback test runs. -/
def Part.sample (p : Part) : List Instr × Part :=
  match p.lif.loopRun with
  | some run => p.sampleTest run
  | none => p.sampleLine

/-! ## The idle step -/

/-- The commands that are due at once, without time passing: the start of an attempt at an idle line (R94), the
LOST retry (R118), and a complete response (R101). -/
def Part.dueNow (p : Part) : List Instr :=
  (if p.mayStart then [Instr.attemptStart] else [])
    ++ (if p.mayRetry && p.buildPresence.isSome then [Instr.lostRetryPresence] else [])
    ++ (if p.fre.responseComplete then [Instr.rollCallResponse] else [])

/-- Commands that come due at one sample have no order among themselves (assumption 4: DESIGN CHOICE, safe); those of one group keep
theirs. -/
def Part.inFreeOrder (groups : List (List Instr)) (p : Part) : List Instr × Part :=
  match groups with
  | [] => ([], p)
  | [g] => (g, p)
  | gs =>
    let (n, p) := p.choose
    ((arrange gs.length n gs).flatten, p)

/-- One sample period of 4 µs. -/
def Part.period (p : Part) : List Instr × Part :=
  let p := p.elapse
  let timers := p.expiries.map (fun c => [c]) ++ p.pvw.records.flatMap PeerRecord.dueCommands
  let (probe, p) := p.advanceProbe
  let (samples, p) := p.advanceSamples
  let (line, p) := p.sample
  p.inFreeOrder (timers ++ probe ++ samples ++ (if line.isEmpty then [] else [line]))

/-- A sample period passes in the idle step: the part works, and nothing is due at once. -/
def Part.periodPasses (p : Part) : Bool := !p.pins.resetLow && p.dueNow.isEmpty

/-- The idle step: what is due at once joins the queue; when nothing is, one sample period passes. While RSTN is
low the part stands at its reset values. -/
def Part.idle (p : Part) : List Instr × Part :=
  if p.pins.resetLow then ([], p)
  else if p.dueNow.isEmpty then p.period
  else (p.dueNow, p)

/-- The commands that a sample period queues for what comes due in it, as they stand with the period elapsed: the expiries of the
timers, the end of the probe window, and LIF's own next release or edge, which no level of the wire bears on. -/
def Part.comesDue (p : Part) : List Instr :=
  p.expiries ++ (if p.probeWindowReached then [Instr.probeWindowExpiry] else [])
    ++ (if (p.lif.sampleWire false).symbolDue then [Instr.symbolDueTime] else [])

/-- What the idle step announces: what comes due in the sample period that passes, or what stood. -/
def Part.announces (before : List Instr) (p : Part) : List Instr :=
  if p.periodPasses then p.elapse.comesDue else before

end Sys2Proof.Machine
end

