-- ==== Sys2Proof/Machine/LiftEvents.lean ====
section
/-! DEFINITION. The meanings of the events of the lift side (chapter 7): the heartbeat, the encoder and the discrete
inputs. -/

namespace Sys2Proof.Machine

/-- HEARTBEAT_EXPIRY (R124). -/
def execHeartbeatExpiry (s : State) : Host.Outcome State Fault Refusal :=
  s.runExpiry .heartbeatExpiry (·.liu.heartbeatTimer) Part.heartbeatExpires

/-- DEBOUNCE_EXPIRY (R130, R134). -/
def execDebounceExpiry (i : Input) (s : State) : Host.Outcome State Fault Refusal :=
  s.runExpiry (.debounceExpiry i) (fun p => (p.liu.input i).timer) (Part.debounceExpires i)

/-- ENCODER_STEP (R126): the encoder pins take the next pair of the direction, and LIU samples it. -/
def execEncoderStep (d : Dir) (s : State) : Host.Outcome State Fault Refusal :=
  .next { s with part := (s.part.moveEncoder (pairMoved d)).whenWorking Part.sampleEncoder }

/-- ILLEGAL_TRANSITION (R127): both encoder pins change at once, and LIU samples them. -/
def execIllegalTransition (s : State) : Host.Outcome State Fault Refusal :=
  .next { s with part := (s.part.moveEncoder pairSkipped).whenWorking Part.sampleEncoder }

/-- INPUT_PIN_CHANGE (R130): the pin takes the level, and LIU samples it. -/
def execInputPinChange (i : Input) (level : Bool) (s : State) : Host.Outcome State Fault Refusal :=
  .next { s with part := (s.part.mapPins (Pins.setInput i level)).whenWorking (Part.sampleInput i level) }

end Sys2Proof.Machine
end

