-- ==== Sys2Proof/WellFormed.lean ====
section
/-! DEFINITION. Which commands can occur at all: the checks on operands that do not depend on the state. A
command that fails its check is no event of the part, and exec refuses it by name (assumption 3: DESIGN CHOICE, safe). -/

namespace Sys2Proof

/-- The command codes of R148: LOAD, COMMIT, RESTART, LOOPBACK, TICK_A, TICK_B, RESUME, STATUS and VIEW. -/
def knownCodes : List Byte := [0x0A, 0x0B, 0x0C, 0x0D, 0x31, 0x32, 0x60, 0x50, 0x51]

/-- The lengths at which LIF hands FRE a symbol error: a driven phase of 1..39 LU whose class is an error on
an idle line or on a line in traffic (R110), or an edge after 1 or 8..11 LU of released line (R111). -/
def SymbolFault.wellFormed : SymbolFault → Bool
  | .driven lu => (1 ≤ lu && lu ≤ 9) || (15 ≤ lu && lu ≤ 39)
  | .edge lu => lu == 1 || (8 ≤ lu && lu ≤ 11)

/-- The check on a command's operands. -/
def Instr.wellFormed : Instr → Bool
  | .unknownCommand code _ => !knownCodes.contains code
  | .lineSymbolError e => e.wellFormed
  | .edgeAfterDataEnd lu => 12 ≤ lu && lu ≤ 23
  | .classifiedSymbol lu => 1 ≤ lu
  | .voiceDirectoryReadDone bytes => bytes.length == 6
  | .voiceRefillReadDone bytes => 1 ≤ bytes.length && bytes.length ≤ 8
  | .powerOn _ | .resetInput _ _ | .restart _ | .load _ | .commit _ | .loopback _ | .loopbackTestEnd _
  | .tickA _ | .tickB _ | .resume _ | .status _ | .view _ | .incompleteCommandByte _ | .heartbeatExpiry
  | .debounceExpiry _ | .encoderStep _ | .illegalTransition | .verifyTimerExpiry | .gateFallbackExpiry
  | .probeWindowExpiry | .brakeTimerExpiry | .progressWindowEnd | .speedWindowEnd | .levelTimerExpiry
  | .standstillExpiry | .doorTimerExpiry | .waitSecondsTimerExpiry | .retryTimerExpiry
  | .deferralLimitExpiry | .lineStuckTimerExpiry | .recordStale _ | .recordRemoved _
  | .presenceTimerExpiry | .attemptStart | .arbitrationLoss | .transmitSymbolError | .echoFailure
  | .lineHeld | .lineStuck | .dataEnd | .responseStart | .rollCallResponse | .frameEnd
  | .lostRetryTimerExpiry | .lostRetryPresence | .sampleInstant | .patienceTimerExpiry
  | .idleLineDriven | .symbolDueTime | .inputPinChange _ _ => true

end Sys2Proof
end

