-- ==== Sys2Proof/Machine/LineEvents.lean ====
section
/-! DEFINITION. The meanings of the events of the rescue line (chapters 5 and 6). While the loopback test runs LIF hears
nothing of the wire (R119), so the events that come from the wire have no effect. -/

namespace Sys2Proof.Machine

/-- LOOPBACK_TEST_END (R120). -/
def execLoopbackTestEnd (e : LoopEnd) (s : State) : Host.Outcome State Fault Refusal :=
  s.run (Part.endLoopback e)

/-- ATTEMPT_START (R94). -/
def execAttemptStart (s : State) : Host.Outcome State Fault Refusal :=
  s.run Part.startAttempt

/-- ARBITRATION_LOSS (R95, R102, R105, R113). -/
def execArbitrationLoss (s : State) : Host.Outcome State Fault Refusal :=
  s.run Part.loseArbitration

/-- TRANSMIT_SYMBOL_ERROR (R96, R113). -/
def execTransmitSymbolError (s : State) : Host.Outcome State Fault Refusal :=
  s.run Part.failSymbol

/-- ECHO_FAILURE (R114, R117). -/
def execEchoFailure (s : State) : Host.Outcome State Fault Refusal :=
  s.run Part.failEcho

/-- LINE_SYMBOL_ERROR (R100, R110, R111). -/
def execLineSymbolError (e : SymbolFault) (s : State) : Host.Outcome State Fault Refusal :=
  s.runIf (Instr.lineSymbolError e).wellFormed (Part.whenListening (Part.symbolFault e))

/-- LINE_HELD (R116, R117). -/
def execLineHeld (s : State) : Host.Outcome State Fault Refusal :=
  s.run (Part.whenListening Part.heldReached)

/-- LINE_STUCK (R116, R52). -/
def execLineStuck (s : State) : Host.Outcome State Fault Refusal :=
  s.run (Part.whenListening Part.stuckReached)

/-- DATA_END (R98, R111). -/
def execDataEnd (s : State) : Host.Outcome State Fault Refusal :=
  s.run (Part.whenListening Part.dataEndReached)

/-- RESPONSE_START (R102). -/
def execResponseStart (s : State) : Host.Outcome State Fault Refusal :=
  s.run (Part.whenListening Part.startResponse)

/-- EDGE_AFTER_DATA_END (R99, R101, R111). -/
def execEdgeAfterDataEnd (lu : Nat) (s : State) : Host.Outcome State Fault Refusal :=
  s.runIf (Instr.edgeAfterDataEnd lu).wellFormed (Part.whenListening (Part.edgeAfter lu))

/-- ROLL_CALL_RESPONSE (R101, R103, R105). -/
def execRollCallResponse (s : State) : Host.Outcome State Fault Refusal :=
  s.run fun p => if p.fre.responseComplete then p.takeResponse p.lif.responseSent else p

/-- FRAME_END (R97, R99, R104, R111, R116). -/
def execFrameEnd (s : State) : Host.Outcome State Fault Refusal :=
  s.run (Part.whenListening Part.frameEndReached)

/-- LOST_RETRY_TIMER_EXPIRY (R118). -/
def execLostRetryTimerExpiry (s : State) : Host.Outcome State Fault Refusal :=
  s.runExpiry .lostRetryTimerExpiry (·.lif.lostTimer) Part.retryDue

/-- LOST_RETRY_PRESENCE (R118). -/
def execLostRetryPresence (s : State) : Host.Outcome State Fault Refusal :=
  s.run Part.startRetry

/-- CLASSIFIED_SYMBOL (R98, R110). -/
def execClassifiedSymbol (lu : Nat) (s : State) : Host.Outcome State Fault Refusal :=
  s.runIf (Instr.classifiedSymbol lu).wellFormed (Part.whenListening (Part.drivenPhaseEnds lu))

/-- IDLE_LINE_DRIVEN (R110, R115): an edge on a line that carries no traffic. -/
def execIdleLineDriven (s : State) : Host.Outcome State Fault Refusal :=
  s.run (Part.whenListening fun p => if p.lif.traffic then p else p.lineTurnsDriven)

/-- SYMBOL_DUE_TIME (R112): LIF's own next release or edge, on the pin or on the internal path. What LIF has begun to drive since
has due times of its own. -/
def execSymbolDueTime (s : State) : Host.Outcome State Fault Refusal :=
  s.runDue .symbolDueTime (·.lif.symbolDue) (Part.mapLif Lif.dueTime)

end Sys2Proof.Machine
end

