-- ==== Sys2Proof/Machine/PortCommands.lean ====
section
/-! DEFINITION. The meanings of the resets and of the commands of the lift port (chapter 9). -/

namespace Sys2Proof.Machine

/-- POWER_ON (R153): every block at its reset values, the image buffer cleared, the start cause POWER_ON. It acts
whatever RSTN is. -/
def execPowerOn (selected : Bool) (s : State) : Host.Outcome State Fault Refusal :=
  .next { s with part := s.part.powerUp selected }

/-- RESET_INPUT (R153): RSTN falls, and the part is held at its reset values; or it returns high, and the part begins
work with the levels its pins then have. -/
def execResetInput (low selected : Bool) (s : State) : Host.Outcome State Fault Refusal :=
  .next { s with part := if low then s.part.resetFalls selected else s.part.resetRises selected }

/-- RESTART (R153): correctly framed, every block at its reset values but for the image buffer. -/
def execRestart (t : Tail) (s : State) : Host.Outcome State Fault Refusal :=
  s.run (Part.modify .restart t fun _ p => p.takeRestart)

/-- LOAD (R150). -/
def execLoad (t : Tail) (s : State) : Host.Outcome State Fault Refusal :=
  s.run (Part.modify .load t Part.takeLoad)

/-- COMMIT (R151, R152). -/
def execCommit (t : Tail) (s : State) : Host.Outcome State Fault Refusal :=
  s.run (Part.modify .commit t fun _ p => p.takeCommit)

/-- LOOPBACK (R154, R119). -/
def execLoopback (t : Tail) (s : State) : Host.Outcome State Fault Refusal :=
  s.run (Part.modify .loopback t fun _ p => p.takeLoopback)

/-- TICK_A (R155, R122). -/
def execTickA (t : Tail) (s : State) : Host.Outcome State Fault Refusal :=
  s.run (Part.modify .tickA t (Part.takeTick .a))

/-- TICK_B (R155, R122). -/
def execTickB (t : Tail) (s : State) : Host.Outcome State Fault Refusal :=
  s.run (Part.modify .tickB t (Part.takeTick .b))

/-- RESUME (R31, R155). -/
def execResume (t : Tail) (s : State) : Host.Outcome State Fault Refusal :=
  s.run (Part.modify .resume t fun _ p => p.takeResume)

/-- STATUS (R156): a read that changes no state of the part; what LP_DO carried stands in the port record. -/
def execStatus (t : Tail) (s : State) : Host.Outcome State Fault Refusal :=
  s.run (Part.readOut .status t)

/-- VIEW (R157): a read that changes no state of the part; what LP_DO carried stands in the port record. -/
def execView (t : Tail) (s : State) : Host.Outcome State Fault Refusal :=
  s.run (Part.readOut .view t)

/-- UNKNOWN_COMMAND (R148): the port-error count is raised, the result is UNKNOWN, the rest is ignored. -/
def execUnknownCommand (code : Byte) (t : Tail) (s : State) : Host.Outcome State Fault Refusal :=
  s.runIf (Instr.unknownCommand code t).wellFormed
    (Part.transaction (code :: t.bytes) t.bits.val fun _ p => p.refuseTransaction .unknown)

/-- INCOMPLETE_COMMAND_BYTE (R148): the port-error count is raised and the result is FRAMING. -/
def execIncompleteCommandByte (bits : Fin 8) (s : State) : Host.Outcome State Fault Refusal :=
  s.run (Part.transaction [] bits.val fun _ p => p.refuseTransaction .framing)

end Sys2Proof.Machine
end

