-- ==== Sys2Proof/Machine/RescueEvents.lean ====
section
/-! DEFINITION. The meanings of the timer expiries of RSQ, PCU, ADU, PVW and FRE (chapters 1 to 5). -/

namespace Sys2Proof.Machine

/-- VERIFY_TIMER_EXPIRY (R11). -/
def execVerifyTimerExpiry (s : State) : Host.Outcome State Fault Refusal :=
  s.runExpiry .verifyTimerExpiry (·.rsq.verifyTimer) Part.verifyExpires

/-- GATE_FALLBACK_EXPIRY (R18). -/
def execGateFallbackExpiry (s : State) : Host.Outcome State Fault Refusal :=
  s.runExpiry .gateFallbackExpiry (·.rsq.gateTimer) Part.gateExpires

/-- PROBE_WINDOW_EXPIRY (R20): the window of the race in which it has been reached; a race begun since runs on. -/
def execProbeWindowExpiry (s : State) : Host.Outcome State Fault Refusal :=
  s.runExpiry .probeWindowExpiry (·.rsq.probeTick) Part.probeWindowEnds

/-- BRAKE_TIMER_EXPIRY (R25). -/
def execBrakeTimerExpiry (s : State) : Host.Outcome State Fault Refusal :=
  s.runExpiry .brakeTimerExpiry (·.rsq.brakeTimer) Part.brakeExpires

/-- PROGRESS_WINDOW_END (R24). -/
def execProgressWindowEnd (s : State) : Host.Outcome State Fault Refusal :=
  s.runExpiry .progressWindowEnd (·.rsq.progressTimer) Part.progressWindowEnds

/-- SPEED_WINDOW_END (R24). -/
def execSpeedWindowEnd (s : State) : Host.Outcome State Fault Refusal :=
  s.runExpiry .speedWindowEnd (·.rsq.speedTimer) Part.speedWindowEnds

/-- LEVEL_TIMER_EXPIRY (R27). -/
def execLevelTimerExpiry (s : State) : Host.Outcome State Fault Refusal :=
  s.runExpiry .levelTimerExpiry (·.rsq.levelTimer) Part.levelExpires

/-- STANDSTILL_EXPIRY (R27). -/
def execStandstillExpiry (s : State) : Host.Outcome State Fault Refusal :=
  s.runExpiry .standstillExpiry (·.rsq.standstillTimer) Part.standstillExpires

/-- DOOR_TIMER_EXPIRY (R28). -/
def execDoorTimerExpiry (s : State) : Host.Outcome State Fault Refusal :=
  s.runExpiry .doorTimerExpiry (·.rsq.doorTimer) Part.doorExpires

/-- WAIT_SECONDS_TIMER_EXPIRY (R33). -/
def execWaitSecondsTimerExpiry (s : State) : Host.Outcome State Fault Refusal :=
  s.runExpiry .waitSecondsTimerExpiry (·.pcu.waitTimer) Part.waitSecondPasses

/-- RETRY_TIMER_EXPIRY (R55, R57). -/
def execRetryTimerExpiry (s : State) : Host.Outcome State Fault Refusal :=
  s.runExpiry .retryTimerExpiry (·.adu.retryTimer) Part.retryExpires

/-- DEFERRAL_LIMIT_EXPIRY (R54). -/
def execDeferralLimitExpiry (s : State) : Host.Outcome State Fault Refusal :=
  s.runExpiry .deferralLimitExpiry (·.adu.deferralTimer) Part.deferralExpires

/-- LINE_STUCK_TIMER_EXPIRY (R52). -/
def execLineStuckTimerExpiry (s : State) : Host.Outcome State Fault Refusal :=
  s.runExpiry .lineStuckTimerExpiry (·.adu.stuckTimer) Part.stuckExpires

/-- RECORD_STALE (R76). -/
def execRecordStale (n : Node) (s : State) : Host.Outcome State Fault Refusal :=
  s.run (Part.recordReachesStale n)

/-- RECORD_REMOVED (R76). -/
def execRecordRemoved (n : Node) (s : State) : Host.Outcome State Fault Refusal :=
  s.run (Part.recordReachesRemoval n)

/-- PRESENCE_TIMER_EXPIRY (R93). -/
def execPresenceTimerExpiry (s : State) : Host.Outcome State Fault Refusal :=
  s.runExpiry .presenceTimerExpiry (·.fre.presenceTimer) Part.presenceExpires

end Sys2Proof.Machine
end

