-- ==== Sys2Proof/Machine/VoiceEvents.lean ====
section
/-! DEFINITION. The meanings of the events of the announcement unit (chapter 8). -/

namespace Sys2Proof.Machine

/-- VOICE_DIRECTORY_READ_DONE (R138, R145). -/
def execVoiceDirectoryReadDone (bytes : List Byte) (s : State) : Host.Outcome State Fault Refusal :=
  s.runIf (Instr.voiceDirectoryReadDone bytes).wellFormed
    (Part.announce fun c waiting a => a.directoryDone c waiting (directoryEntry bytes))

/-- VOICE_REFILL_READ_DONE (R141). -/
def execVoiceRefillReadDone (bytes : List Byte) (s : State) : Host.Outcome State Fault Refusal :=
  s.runIf (Instr.voiceRefillReadDone bytes).wellFormed (Part.mapAnu (Anu.refillDone bytes))

/-- SAMPLE_INSTANT (R140, R142, R143, R145). -/
def execSampleInstant (s : State) : Host.Outcome State Fault Refusal :=
  s.run (Part.announce Anu.sample)

/-- PATIENCE_TIMER_EXPIRY (R144). -/
def execPatienceTimerExpiry (s : State) : Host.Outcome State Fault Refusal :=
  s.runExpiry .patienceTimerExpiry (·.anu.patience)
    (Part.announce fun c waiting a => (a.patienceExpiry c waiting, none))

end Sys2Proof.Machine
end

