-- ==== Sys2Proof/Machine/Dispatch.lean ====
section
/-! DEFINITION. One arm per command: the direct call of its meaning. -/

namespace Sys2Proof.Machine

def exec (i : Instr) (s : State) : Host.Outcome State Fault Refusal :=
  match i with
  | .powerOn selected => Sys2Proof.Machine.execPowerOn selected s
  | .resetInput low selected => Sys2Proof.Machine.execResetInput low selected s
  | .restart t => Sys2Proof.Machine.execRestart t s
  | .load t => Sys2Proof.Machine.execLoad t s
  | .commit t => Sys2Proof.Machine.execCommit t s
  | .loopback t => Sys2Proof.Machine.execLoopback t s
  | .loopbackTestEnd e => Sys2Proof.Machine.execLoopbackTestEnd e s
  | .tickA t => Sys2Proof.Machine.execTickA t s
  | .tickB t => Sys2Proof.Machine.execTickB t s
  | .resume t => Sys2Proof.Machine.execResume t s
  | .status t => Sys2Proof.Machine.execStatus t s
  | .view t => Sys2Proof.Machine.execView t s
  | .unknownCommand code t => Sys2Proof.Machine.execUnknownCommand code t s
  | .incompleteCommandByte bits => Sys2Proof.Machine.execIncompleteCommandByte bits s
  | .heartbeatExpiry => Sys2Proof.Machine.execHeartbeatExpiry s
  | .debounceExpiry input => Sys2Proof.Machine.execDebounceExpiry input s
  | .encoderStep d => Sys2Proof.Machine.execEncoderStep d s
  | .illegalTransition => Sys2Proof.Machine.execIllegalTransition s
  | .verifyTimerExpiry => Sys2Proof.Machine.execVerifyTimerExpiry s
  | .gateFallbackExpiry => Sys2Proof.Machine.execGateFallbackExpiry s
  | .probeWindowExpiry => Sys2Proof.Machine.execProbeWindowExpiry s
  | .brakeTimerExpiry => Sys2Proof.Machine.execBrakeTimerExpiry s
  | .progressWindowEnd => Sys2Proof.Machine.execProgressWindowEnd s
  | .speedWindowEnd => Sys2Proof.Machine.execSpeedWindowEnd s
  | .levelTimerExpiry => Sys2Proof.Machine.execLevelTimerExpiry s
  | .standstillExpiry => Sys2Proof.Machine.execStandstillExpiry s
  | .doorTimerExpiry => Sys2Proof.Machine.execDoorTimerExpiry s
  | .waitSecondsTimerExpiry => Sys2Proof.Machine.execWaitSecondsTimerExpiry s
  | .retryTimerExpiry => Sys2Proof.Machine.execRetryTimerExpiry s
  | .deferralLimitExpiry => Sys2Proof.Machine.execDeferralLimitExpiry s
  | .lineStuckTimerExpiry => Sys2Proof.Machine.execLineStuckTimerExpiry s
  | .recordStale n => Sys2Proof.Machine.execRecordStale n s
  | .recordRemoved n => Sys2Proof.Machine.execRecordRemoved n s
  | .presenceTimerExpiry => Sys2Proof.Machine.execPresenceTimerExpiry s
  | .attemptStart => Sys2Proof.Machine.execAttemptStart s
  | .arbitrationLoss => Sys2Proof.Machine.execArbitrationLoss s
  | .transmitSymbolError => Sys2Proof.Machine.execTransmitSymbolError s
  | .echoFailure => Sys2Proof.Machine.execEchoFailure s
  | .lineSymbolError e => Sys2Proof.Machine.execLineSymbolError e s
  | .lineHeld => Sys2Proof.Machine.execLineHeld s
  | .lineStuck => Sys2Proof.Machine.execLineStuck s
  | .dataEnd => Sys2Proof.Machine.execDataEnd s
  | .responseStart => Sys2Proof.Machine.execResponseStart s
  | .edgeAfterDataEnd lu => Sys2Proof.Machine.execEdgeAfterDataEnd lu s
  | .rollCallResponse => Sys2Proof.Machine.execRollCallResponse s
  | .frameEnd => Sys2Proof.Machine.execFrameEnd s
  | .lostRetryTimerExpiry => Sys2Proof.Machine.execLostRetryTimerExpiry s
  | .lostRetryPresence => Sys2Proof.Machine.execLostRetryPresence s
  | .voiceDirectoryReadDone bytes => Sys2Proof.Machine.execVoiceDirectoryReadDone bytes s
  | .voiceRefillReadDone bytes => Sys2Proof.Machine.execVoiceRefillReadDone bytes s
  | .sampleInstant => Sys2Proof.Machine.execSampleInstant s
  | .patienceTimerExpiry => Sys2Proof.Machine.execPatienceTimerExpiry s
  | .classifiedSymbol lu => Sys2Proof.Machine.execClassifiedSymbol lu s
  | .idleLineDriven => Sys2Proof.Machine.execIdleLineDriven s
  | .symbolDueTime => Sys2Proof.Machine.execSymbolDueTime s
  | .inputPinChange input level => Sys2Proof.Machine.execInputPinChange input level s

end Sys2Proof.Machine
end

