-- ==== Sys2Proof/Machine/Step.lean ====
section
/-! DEFINITION. One step of the machine: the command at the front of the queue, or, with no command waiting, one
sample period. -/

namespace Sys2Proof.Machine

/-- With no command waiting, one sample period of 4 µs passes, or what is due at once joins the queue
(assumption 1: DESIGN CHOICE, unsafe). -/
def State.idle (s : State) : State :=
  { part := s.part.idle.2, pending := s.pending ++ s.part.idle.1, announced := s.part.announces s.announced }

/-- One step: take the command at the front of the queue and run it on the state with the queue's rest. -/
def step (s : State) : Host.Outcome State Fault Refusal :=
  match s.pending with
  | c :: rest => exec c { s with pending := rest }
  | [] => .next s.idle

/-- The state with the command that a word spells at the front of its queue. No word spells a command, so the state
is unchanged (assumption 24: DESIGN CHOICE, safe). -/
def State.withFetchWord (s : State) (nbits w : Nat) : State :=
  match decodeTableWord nbits w with
  | some c => { s with pending := c :: s.pending }
  | none => s

end Sys2Proof.Machine
end

