-- ==== Sys2Proof/Safety.lean ====
section
/-! DEFINITION. What counts as a safe state of the part, in the manual's own terms: the output table, the holding,
the transmit queue, the peer view and the ranges of the counters; and the words in which the statements about one
command say what it leaves unchanged. -/

namespace Sys2Proof.Machine

/-! ## Safe states -/

/-- R5: the four outputs that the rescue state fixes. Brake release is asserted in PROBE and CREEP only, drive
enable in CREEP only. -/
def Part.outputsFit (p : Part) : Prop :=
  p.rsq.outputs.brakeRelease = (p.rsq.state == .probe || p.rsq.state == .creep)
    ∧ p.rsq.outputs.driveEnable = (p.rsq.state == .creep)
    ∧ p.rsq.outputs.doorRequest = p.rsq.state.doorRequested
    ∧ p.rsq.outputs.alarm = p.rsq.state.alarmed

/-- R4: the recorded cause stands at a value other than none only in BLOCKED and HALTED. -/
def Part.causeFits (p : Part) : Prop :=
  p.rsq.cause = .none ∨ p.rsq.state = .blocked ∨ p.rsq.state = .halted

/-- R51: the held draw never exceeds the admitted draw, and is 0 whenever the node is no holder. -/
def Part.drawFits (p : Part) : Prop :=
  p.adu.heldDraw ≤ p.adu.admittedDraw ∧ (p.adu.isHolder = false → p.adu.heldDraw = 0 ∧ p.adu.admittedDraw = 0)

/-- R109, R117: the line filter integrator stays within 0..6, the echo run within 0..3. -/
def Part.filterFits (p : Part) : Prop := p.lif.integrator ≤ 6 ∧ p.lif.echoRun ≤ 3

/-- R33, R34, R107, R121, R136, R148: the saturating counts stay in their ranges. -/
def Part.countsFit (p : Part) : Prop :=
  p.pcu.waitSeconds ≤ 65535 ∧ p.pcu.refusals ≤ 15
    ∧ p.fre.counters.symbol ≤ 255 ∧ p.fre.counters.framing ≤ 255 ∧ p.fre.counters.check ≤ 255
    ∧ p.fre.counters.echo ≤ 255 ∧ p.fre.counters.unknownKind ≤ 255 ∧ p.fre.counters.arbitration ≤ 255
    ∧ p.liu.repeats ≤ 255 ∧ p.liu.position ≤ 65535 ∧ p.anu.underruns ≤ 255 ∧ p.lpc.portErrors ≤ 255

/-- R91: the transmit queue holds at most one entry of each kind, in ascending order of kind code. -/
def Part.queueFits (p : Part) : Prop :=
  p.fre.queue.Pairwise fun a b => a.frame.kind.rank < b.frame.kind.rank

/-- R101: the roll-call list is in strictly ascending node order and does not name the claimant. -/
def Part.rollCallFits (p : Part) : Prop :=
  p.fre.list.Pairwise (fun a b => a.1.toNat < b.1.toNat)
    ∧ ∀ c, p.fre.claimant = some c → ∀ e ∈ p.fre.list, e.1 ≠ c.1

/-- R75: one record per node, in ascending node order. -/
def Part.recordsFit (p : Part) : Prop :=
  p.pvw.records.Pairwise fun a b => a.node.toNat < b.node.toNat

/-- R53, R58, R91, R92: no Claim is queued while the node is a holder; one is queued in QUEUED and CLAIMING only, is in
flight in CLAIMING only, and no offer that would replace it is held against it. -/
def Part.claimEntryFits (p : Part) : Prop :=
  (p.adu.isHolder = true → ∀ e ∈ p.fre.queue, e.frame.kind ≠ .claim)
    ∧ (∀ e ∈ p.fre.queue, e.frame.kind = .claim → p.adu.state = .queued ∨ p.adu.state = .claiming)
    ∧ ∀ x, p.fre.inFlight = some x →
        (x.kind = .claim → p.adu.state = .claiming) ∧ ∀ f, x.held = some (.replace f) → f.kind ≠ .claim

/-- R75: the collection is empty before commit, and never holds a record for the node's own number; nor is a CLAIM with that
number kept for the judgement of its window (R79). -/
def Part.peersFit (p : Part) : Prop :=
  (p.lpc.committed = false → p.pvw.records = [] ∧ p.pvw.claim = none)
    ∧ (p.lpc.committed = true →
        (∀ r ∈ p.pvw.records, r.node ≠ p.settings.node)
          ∧ ∀ c, p.pvw.claim = some c → c.1 ≠ p.settings.node)

/-- R132, R133: the stall indication and the cancel condition stand as their terms. -/
def Part.conditionsFit (p : Part) : Prop :=
  (p.liu.stall = true ↔ p.liu.heartbeat ≠ .unsupervised ∧ p.liu.lockout = false
      ∧ (p.liu.heartbeat = .expired ∨ p.liu.mains.level = false ∨ p.liu.controller = some .stalled))
    ∧ (p.liu.cancel = true ↔ p.liu.heartbeat = .healthy ∧ p.liu.mains.level = true
        ∧ p.liu.controller ≠ some .stalled)

/-- R136, R141, R143: the sample FIFO holds at most 16 bytes, those that a refill in progress has still to bring
included; a refill covers at most 8 bytes; the volume is 0..7. -/
def Part.announcementFits (p : Part) : Prop :=
  p.anu.fifo.length ≤ 16 ∧ p.anu.volume ≤ 7
    ∧ ∀ address count received, p.anu.transaction = .refill address count received →
        received < count ∧ count ≤ 8 ∧ p.anu.fifo.length + (count - received) ≤ 16

/-- R150, R3, R8: the image buffer holds 58 bytes, and the part is committed exactly outside START. -/
def Part.commitFits (p : Part) : Prop :=
  p.lpc.image.length = 58 ∧ (p.lpc.committed = true ↔ p.rsq.state ≠ .start)

/-- The invariant of the part. -/
structure Part.Inv (p : Part) : Prop where
  outputs       : p.outputsFit
  cause         : p.causeFits
  draw          : p.drawFits
  filter        : p.filterFits
  counts        : p.countsFit
  queue         : p.queueFits
  rollCall      : p.rollCallFits
  records       : p.recordsFit
  claimEntry    : p.claimEntryFits
  peers         : p.peersFit
  conditions    : p.conditionsFit
  announcement  : p.announcementFits
  commit        : p.commitFits

/-- R50, R62, R64, R68 to R71: the admission state fits the rescue state. A node holds power exactly in the five states of
an admitted rescue; a claim is sought only in WAIT, and a Claim still on the line after WAIT was left carries the
withdrawn mark, with a new seek pending exactly when WAIT has been entered again. -/
def Part.admissionFits (p : Part) : Prop :=
  (p.adu.isHolder = true ↔ p.rsq.state ∈ [RescueState.warn, .probe, .creep, .level, .doors])
    ∧ (p.adu.state = .defer ∨ p.adu.state = .queued → p.rsq.state = .wait)
    ∧ (p.adu.state = .claiming → p.adu.withdrawn = false → p.rsq.state = .wait)
    ∧ (p.adu.state = .claiming → p.adu.withdrawn = true → (p.adu.pendingSeek = true ↔ p.rsq.state = .wait))
    ∧ (p.rsq.state = .wait → p.adu.state ≠ .none)

/-! ## Reset values -/

/-- Every block at the reset values its chapter states (R4, R32, R50, R75, R89, R107, R108, R121, R131, R136, R147,
R149 to R151), but for the image buffer and the start cause, in which the kinds of reset differ. -/
structure Part.atResetValues (p : Part) : Prop where
  rescue       : p.rsq.state = .start ∧ p.rsq.cause = .none
  safeOutputs  : p.rsq.outputs = { brakeRelease := false, driveEnable := false, direction := .down,
                                   doorRequest := false, alarm := false }
  rescueTimers : ∀ t ∈ [p.rsq.verifyTimer, p.rsq.gateTimer, p.rsq.progressTimer, p.rsq.speedTimer, p.rsq.brakeTimer,
                         p.rsq.levelTimer, p.rsq.standstillTimer, p.rsq.doorTimer], t = .stopped
  rescueCounts : p.rsq.probeWindow = 0 ∧ p.rsq.probePulses = 0 ∧ p.rsq.probeNet = 0 ∧ p.rsq.progressNet = 0
                   ∧ p.rsq.speedCount = 0 ∧ p.rsq.netReverse = 0
  rescueMarks  : p.rsq.voiceUnavailable = false ∧ p.rsq.brakeSeen = false ∧ p.rsq.cancelCame = false
  plan         : p.pcu.plan.kind = .none ∧ p.pcu.plan.basis = .none ∧ p.pcu.plan.direction = none
                   ∧ p.pcu.plan.blockCause = .none ∧ p.pcu.plan.target = 0 ∧ p.pcu.plan.motorDraw = 0
                   ∧ p.pcu.plan.totalDraw = some 0 ∧ p.pcu.plan.draw = 0 ∧ p.pcu.plan.levelDraw = 0
                   ∧ p.pcu.plan.timeEstimate = 0 ∧ p.pcu.plan.timeUnits = 0 ∧ p.pcu.plan.key = none
  episode      : p.pcu.waitSeconds = 0 ∧ p.pcu.refusals = 0 ∧ p.pcu.loadOverride = false
  admission    : p.adu.state = .none ∧ p.adu.heldDraw = 0 ∧ p.adu.admittedDraw = 0 ∧ p.adu.retryTimer = .stopped
                   ∧ p.adu.deferralTimer = .stopped ∧ p.adu.stuckTimer = .stopped ∧ p.adu.withdrawn = false
                   ∧ p.adu.pendingSeek = false ∧ p.adu.pendingKey = false ∧ p.adu.lastRelease = none
  view         : p.pvw.records = [] ∧ p.pvw.lastReleased = 15 ∧ p.pvw.sEff = none ∧ p.pvw.mismatch = false
  engine       : p.fre.phase = .idle ∧ p.fre.rx = .empty ∧ p.fre.role = .none ∧ p.fre.response = none
                   ∧ p.fre.listed = false ∧ p.fre.queue = [] ∧ p.fre.inFlight = none ∧ p.fre.list = []
                   ∧ p.fre.duplicate = false ∧ p.fre.presenceTimer = .stopped
  errors       : p.fre.counters.symbol = 0 ∧ p.fre.counters.framing = 0 ∧ p.fre.counters.check = 0
                   ∧ p.fre.counters.echo = 0 ∧ p.fre.counters.unknownKind = 0 ∧ p.fre.counters.arbitration = 0
  line         : p.lif.integrator = 0 ∧ p.lif.filtered = false ∧ p.lif.samples = 96 ∧ p.lif.traffic = false
                   ∧ p.lif.tx = none ∧ p.lif.lineState = .idle ∧ p.lif.echoRun = 0 ∧ p.lif.lostTimer = .stopped
                   ∧ p.lif.loopResult = .none ∧ p.lif.loopRun = none
  supervision  : p.liu.heartbeat = .unsupervised ∧ p.liu.heartbeatTimer = .stopped ∧ p.liu.lastKind = none
                   ∧ p.liu.repeats = 0 ∧ p.liu.position = 0 ∧ p.liu.positionValid = false ∧ p.liu.load = none
                   ∧ p.liu.controller = none ∧ p.liu.lockout = false ∧ p.liu.stall = false ∧ p.liu.cancel = false
                   ∧ p.liu.encoder = p.pins.encoder
  inputs       : p.liu.mains = { level := p.pins.mains, candidate := p.pins.mains, timer := .stopped }
                   ∧ p.liu.chain = { level := p.pins.chain, candidate := p.pins.chain, timer := .stopped }
                   ∧ p.liu.doorZone = { level := p.pins.doorZone, candidate := p.pins.doorZone, timer := .stopped }
                   ∧ p.liu.doorsOpen = { level := p.pins.doorsOpen, candidate := p.pins.doorsOpen, timer := .stopped }
                   ∧ p.liu.brakeFeedback = { level := p.pins.brakeFeedback, candidate := p.pins.brakeFeedback
                                             timer := .stopped }
  voice        : p.anu.current = none ∧ p.anu.next = none ∧ p.anu.cache = none ∧ p.anu.fifo = []
                   ∧ p.anu.lastDuty = 128 ∧ p.anu.volume = 0 ∧ p.anu.movingOwed = false ∧ p.anu.patience = .stopped
                   ∧ p.anu.voiceFault = false ∧ p.anu.underruns = 0 ∧ p.anu.transaction = .none
                   ∧ p.anu.speaker = .low
  port         : p.lpc.phase = .idle ∧ p.lpc.staging = [] ∧ p.lpc.byteCount = 0 ∧ p.lpc.bitCount = 0
                   ∧ p.lpc.committed = false ∧ p.lpc.lastResult = .none ∧ p.lpc.failOffset = none
                   ∧ p.lpc.portErrors = 0

/-! ## The words of the statements -/

/-- The pieces of a part, by block. -/
inductive Block where
  | rsq | pcu | adu | pvw | fre | lif | liu | anu | lpc | pins | choices
  deriving DecidableEq, Repr

/-- The frame of a statement: outside the blocks named, `q` is `p`. -/
def Part.sameOutside (changed : List Block) (q p : Part) : Prop :=
  (Block.rsq ∉ changed → q.rsq = p.rsq) ∧ (Block.pcu ∉ changed → q.pcu = p.pcu)
    ∧ (Block.adu ∉ changed → q.adu = p.adu) ∧ (Block.pvw ∉ changed → q.pvw = p.pvw)
    ∧ (Block.fre ∉ changed → q.fre = p.fre) ∧ (Block.lif ∉ changed → q.lif = p.lif)
    ∧ (Block.liu ∉ changed → q.liu = p.liu) ∧ (Block.anu ∉ changed → q.anu = p.anu)
    ∧ (Block.lpc ∉ changed → q.lpc = p.lpc) ∧ (Block.pins ∉ changed → q.pins = p.pins)
    ∧ (Block.choices ∉ changed → q.choices = p.choices)

/-- The part works: RSTN is high (R153). -/
def State.working (s : State) : Prop := s.part.pins.resetLow = false

/-- The part once a transaction of the lift port has been taken: the model's mark of R31 is clear, and all else stands (assumption
44: DESIGN CHOICE, safe). -/
def Part.settled (p : Part) : Part := { p with rsq := { p.rsq with cancelCame := false } }

/-- The part works, and the lift port takes the next transaction from its beginning (R147). -/
def State.portReady (s : State) : Prop := s.working ∧ s.part.lpc.awaitRelease = false

/-- The part is in service: it works and its configuration is committed (R150). -/
def State.inService (s : State) : Prop := s.working ∧ s.part.lpc.committed = true

/-- The line's events reach FRE and LIF: the part works and no loopback test runs (R119). -/
def State.listening (s : State) : Prop := s.working ∧ s.part.lif.loopRun = none

/-- The timers whose expiries are commands, each with its command. -/
def timersWithExpiries : List ((Part → Timer) × Instr) :=
  [ (fun p => p.rsq.verifyTimer, .verifyTimerExpiry), (fun p => p.rsq.gateTimer, .gateFallbackExpiry),
    (fun p => p.rsq.brakeTimer, .brakeTimerExpiry), (fun p => p.rsq.progressTimer, .progressWindowEnd),
    (fun p => p.rsq.speedTimer, .speedWindowEnd), (fun p => p.rsq.levelTimer, .levelTimerExpiry),
    (fun p => p.rsq.standstillTimer, .standstillExpiry), (fun p => p.rsq.doorTimer, .doorTimerExpiry),
    (fun p => p.pcu.waitTimer, .waitSecondsTimerExpiry), (fun p => p.adu.retryTimer, .retryTimerExpiry),
    (fun p => p.adu.deferralTimer, .deferralLimitExpiry), (fun p => p.adu.stuckTimer, .lineStuckTimerExpiry),
    (fun p => p.fre.presenceTimer, .presenceTimerExpiry), (fun p => p.lif.lostTimer, .lostRetryTimerExpiry),
    (fun p => p.liu.heartbeatTimer, .heartbeatExpiry), (fun p => p.liu.mains.timer, .debounceExpiry .mains),
    (fun p => p.liu.chain.timer, .debounceExpiry .chain), (fun p => p.liu.doorZone.timer, .debounceExpiry .doorZone),
    (fun p => p.liu.doorsOpen.timer, .debounceExpiry .doorsOpen),
    (fun p => p.liu.brakeFeedback.timer, .debounceExpiry .brakeFeedback),
    (fun p => p.anu.patience, .patienceTimerExpiry) ]

/-- The expiry `c` of a running timer falls: the timer is at its end, or the clock has not queued this expiry at the last
sample and the command stands for the timer's own (assumptions 2 and 51: DESIGN CHOICE, safe). -/
def State.expires (c : Instr) (timer : Timer) (s : State) : Prop :=
  timer.isRunning = true ∧ (timer = .running 0 ∨ c ∉ s.announced)

/-- The port after a transaction in which LP_DO carried these bytes and bits: idle, the staging store and the counts
empty (R147). -/
def Lpc.closed (out : List Byte) (bits : List Bool) (l : Lpc) : Lpc :=
  { l with phase := .idle, staging := [], byteCount := 0, bitCount := 0, snapshot := [], dout := out, doutBits := bits }

/-- The five outputs at rest, with the drive direction held (R5). -/
def Outputs.atRest (door alarm : Bool) (o : Outputs) : Outputs :=
  { brakeRelease := false, driveEnable := false, direction := o.direction, doorRequest := door, alarm := alarm }

/-- The sequencer's record after an entry to a state in which the car is not moved: every timer stopped, the
outputs of R5, the cause given, the model's mark of R31 clear (assumption 44: DESIGN CHOICE, safe). -/
def Rsq.rested (state : RescueState) (cause : Cause) (door alarm : Bool) (r : Rsq) : Rsq :=
  { r with
    state := state, cause := cause, cancelCame := false, verifyTimer := .stopped, gateTimer := .stopped, probeTick := .stopped
    progressTimer := .stopped, speedTimer := .stopped, brakeTimer := .stopped, levelTimer := .stopped
    standstillTimer := .stopped, doorTimer := .stopped, outputs := r.outputs.atRest door alarm }

/-- The node's Presence with the parts of R90 given. -/
def Part.presence (code : Nat) (draw : Option Nat) (key : Option Key) (solo : Bool) (p : Part) : Frame :=
  .presence p.settings.node
    { code := code, storeLimit := p.settings.storeLimit, draw := draw, key := key, mismatch := p.pvw.mismatch
      solo := solo }

/-- The admission record after ADU has taken "ended" with an outcome (R66). -/
def Adu.released (outcome : ReleaseOutcome) (a : Adu) : Adu :=
  if a.state = .holder ∨ a.state = .solo then
    { a with state := .none, heldDraw := 0, admittedDraw := 0, retryTimer := .stopped, deferralTimer := .stopped
             lastRelease := some outcome }
  else a

/-- The offers of an ended holding: the RELEASE when the node was a holder and the line is available (R66). -/
def Part.releaseOffered (outcome : ReleaseOutcome) (p : Part) : Fre :=
  if (p.adu.state = .holder ∨ p.adu.state = .solo) ∧ p.lineAvailable then
    p.fre.offer (.release outcome p.settings.node)
  else p.fre

/-- `q` is what `p`, a node in service, becomes at an entry to HALTED with a cause (R30): the outputs, the cause,
Release HALTED, the Presence with code 8, HELP. -/
def Part.haltsAs (cause : Cause) (q p : Part) : Prop :=
  q.rsq = p.rsq.rested .halted cause false true
    ∧ q.adu = p.adu.released .halted
    ∧ q.pcu = { p.pcu with waitTimer := .stopped }
    ∧ q.fre = (p.releaseOffered .halted).offer (p.presence 8 none none false)
    ∧ q.anu = ({ p.anu with patience := .stopped }).request p.settings false .help
    ∧ q.sameOutside [.rsq, .adu, .pcu, .fre, .anu] p

/-- `q` is what `p`, a node in service that holds nothing, becomes at an entry to WATCH from a state other than
WARN (R7): with the stall indication present the sequencer goes on to VERIFY at once and starts the verify timer. -/
def Part.watchesAs (q p : Part) : Prop :=
  q.pcu = { p.pcu with waitTimer := .stopped, waitSeconds := 0, refusals := 0, loadOverride := false }
    ∧ q.anu = { p.anu with patience := .stopped }
    ∧ q.sameOutside [.rsq, .pcu, .fre, .anu] p
    ∧ (p.liu.stall = false →
        q.rsq = p.rsq.rested .watch .none false false
          ∧ q.fre = p.fre.offer (p.presence 1 none none false))
    ∧ (p.liu.stall = true →
        q.rsq = { p.rsq.rested .verify .none false false with
                  verifyTimer := .running (Config.ms (1000 * p.settings.verifyTime)) }
          ∧ q.fre = (p.fre.offer (p.presence 1 none none false)).offer (p.presence 3 none none false))

/-- The draw that the node's Presence carries: its held draw while it is a holder (R90). -/
def Part.presenceDraw (p : Part) : Option Nat :=
  if p.adu.state = .holder ∨ p.adu.state = .solo then some p.adu.heldDraw else none

/-- PCU's 1 s timer at an entry to WAIT or BLOCKED: started, or left running in a move between them (R33). -/
def Part.waitTimerKept (p : Part) : Timer :=
  if p.rsq.state = .wait ∨ p.rsq.state = .blocked then p.pcu.waitTimer else .running 250000

/-- `q` is what `p`, a node in service that holds nothing, becomes at an entry to BLOCKED with a cause from a state
other than WARN (R13): the alarm, the cause, HELP as a cutting request, the Presence with code 4. -/
def Part.blocksAs (cause : Cause) (q p : Part) : Prop :=
  q.rsq = p.rsq.rested .blocked cause false true
    ∧ q.pcu = { p.pcu with waitTimer := p.waitTimerKept }
    ∧ q.fre = p.fre.offer (p.presence 4 none none false)
    ∧ q.anu = ({ p.anu with patience := .stopped }).request p.settings false .help
    ∧ q.sameOutside [.rsq, .pcu, .fre, .anu] p

/-- `q` is what `p`, a node in service in WARN, becomes when the motion gate opens (R18, R20). -/
def Part.probesAs (q p : Part) : Prop :=
  q.rsq = { p.rsq.rested .probe .none false true with
            outputs := { brakeRelease := true, driveEnable := false
                         direction := p.pcu.plan.direction.getD p.rsq.outputs.direction
                         doorRequest := false, alarm := true }
            probeWindow := 0, probePulses := 0, probeNet := 0, probeTick := .running 2500 }
    ∧ q.pcu = { p.pcu with waitTimer := .stopped }
    ∧ q.fre = p.fre.offer (p.presence 6 p.presenceDraw none (p.adu.state == .solo))
    ∧ q.anu = { p.anu with movingOwed := false, patience := .stopped }
    ∧ q.sameOutside [.rsq, .pcu, .fre, .anu] p

/-- The admission record after RSQ has told ADU the draw needed: the held draw falls to it, and never rises (R65). -/
def Adu.lowered (needed : Nat) (a : Adu) : Adu :=
  if (a.state = .holder ∨ a.state = .solo) ∧ needed < a.heldDraw then { a with heldDraw := needed } else a

/-- The offer of a lowered draw: an ADJUST when the line is available (R65). -/
def Part.adjustOffered (needed : Nat) (p : Part) : Fre :=
  if (p.adu.state = .holder ∨ p.adu.state = .solo) ∧ needed < p.adu.heldDraw ∧ p.lineAvailable then
    p.fre.offer (.adjust p.settings.node needed)
  else p.fre

/-- `q` is what `p`, a node in service in PROBE, becomes when PCU answers that the rescue continues with the draw
needed and the plan given (R21, R23, R49). The draw is lowered before the Presence is built (assumption 45: DESIGN CHOICE,
unsafe). -/
def Part.creepsAs (needed : Nat) (plan : Plan) (q p : Part) : Prop :=
  q.rsq = { p.rsq.rested .creep .none false true with
            outputs := { brakeRelease := true, driveEnable := true
                         direction := plan.direction.getD p.rsq.outputs.direction
                         doorRequest := false, alarm := true }
            brakeTimer := .running 125000, brakeSeen := p.liu.brakeFeedback.level
            progressTimer := .running 250000, progressNet := 0, speedTimer := .running 25000, speedCount := 0
            netReverse := 0 }
    ∧ q.pcu = { p.pcu with plan := plan, waitTimer := .stopped }
    ∧ q.adu = p.adu.lowered needed
    ∧ q.fre = (p.adjustOffered needed).offer
        (p.presence 6 { p with adu := p.adu.lowered needed }.presenceDraw none (p.adu.state == .solo))
    ∧ q.anu = { p.anu with patience := .stopped }
    ∧ q.sameOutside [.rsq, .pcu, .adu, .fre, .anu] p

/-- `q` is what `p`, a node in service in CREEP, becomes when it arrives (R27): LEVEL, ARRIVE, its two timers, and the
level draw given to ADU. -/
def Part.levelsAs (q p : Part) : Prop :=
  q.rsq = { p.rsq.rested .level .none false true with
            levelTimer := .running 500000, standstillTimer := .running 125000 }
    ∧ q.pcu = { p.pcu with waitTimer := .stopped }
    ∧ q.adu = p.adu.lowered p.pcu.plan.levelDraw
    ∧ q.fre = ({ p with fre := p.fre.offer (p.presence 6 p.presenceDraw none (p.adu.state == AdmissionState.solo)) } :
        Part).adjustOffered p.pcu.plan.levelDraw
    ∧ q.anu = ({ p.anu with patience := .stopped }).request p.settings false .arrive
    ∧ q.sameOutside [.rsq, .pcu, .adu, .fre, .anu] p

/-- `q` is what `p`, a node in service, becomes at an entry to LANDED from a state other than WARN (R29, R66, R90): the holding ends
with Release LANDED, the alarm is off, and the Presence with code 7 is offered; the cancel condition leads on to WATCH. That the
holding ends before this Presence is built is the model's choice (assumption 36). -/
def Part.landsAs (q p : Part) : Prop :=
  let l : Part := { p with
    adu := p.adu.released .landed, fre := (p.releaseOffered .landed).offer (p.presence 7 none none false) }
  (p.liu.cancel = false →
      q = { l with
        rsq := p.rsq.rested .landed .none true false
        pcu := { p.pcu with waitTimer := .stopped }, anu := { p.anu with patience := .stopped } })
    ∧ (p.liu.cancel = true → q.watchesAs l)

/-- `q` is what `p`, a node in service, becomes at an entry to DOORS from a state other than WARN (R28, R29): the door-open request,
DOORS, the door timer, the Presence with code 6; with the doors already open the sequencer goes on to LANDED. -/
def Part.opensDoorsAs (q p : Part) : Prop :=
  let d : Part := { p with
    pcu := { p.pcu with waitTimer := .stopped }
    fre := p.fre.offer (p.presence 6 p.presenceDraw none (p.adu.state == .solo))
    anu := ({ p.anu with patience := .stopped }).request p.settings false .doors }
  (p.liu.doorsOpen.level = false →
      q = { d with rsq := { p.rsq.rested .doors .none true true with
                            doorTimer := .running (250000 * p.settings.doorTimeout) } })
    ∧ (p.liu.doorsOpen.level = true → q.landsAs d)

/-! ### An admission: WARN, the solo rule, WAIT and its seek -/

/-- `q` is what `p`, a node in service, becomes at an entry to WARN (R18, R139, R145): the outputs, the gate fallback timer at 3 s, the
voice-unavailable mark clear, the Presence with code 6, MOVING as a cutting request. With no MOVING phrase the gate opens at once; with
no voice memory the mark is set; otherwise the report of MOVING is owed. -/
def Part.warnsAs (q p : Part) : Prop :=
  let w : Part := { p with
    rsq := { p.rsq.rested .warn .none false true with gateTimer := .running 750000, voiceUnavailable := false }
    pcu := { p.pcu with waitTimer := .stopped }
    fre := p.fre.offer (p.presence 6 p.presenceDraw none (p.adu.state == .solo))
    anu := ({ p.anu with patience := .stopped }).request p.settings false .moving }
  (p.settings.phrase .moving = 255 → q.probesAs w)
    ∧ (p.settings.phrase .moving ≠ 255 → p.settings.voiceSize = 0 →
        q = { w with rsq := { w.rsq with voiceUnavailable := true } })
    ∧ (p.settings.phrase .moving ≠ 255 → p.settings.voiceSize ≠ 0 → q = { w with anu := { w.anu with movingOwed := true } })

/-- The part as its holding ends in WARN (R19, R66, R145): Release ABANDONED, and a MOVING that is owed no longer. -/
def Part.givenUp (p : Part) : Part :=
  { p with
    adu := p.adu.released .abandoned, fre := p.releaseOffered .abandoned, anu := { p.anu with movingOwed := false } }

/-- `q` is what `p`, a node in service in WAIT whose draw is granted, becomes as RSQ takes "admitted" (R16): a zone plan leads to
DOORS, a motion plan to WARN. -/
def Part.admittedAs (q p : Part) : Prop :=
  (p.pcu.plan.kind = .zone → q.opensDoorsAs p) ∧ (p.pcu.plan.kind ≠ .zone → q.warnsAs p)

/-- `q` is what `p`, a node in service in WAIT without the line, becomes by the solo rule (R53, R57, R71, R15): no Claim stays queued;
a draw beyond the solo allowance leads to BLOCKED with LINE, one within it is granted and admitted. -/
def Part.soloRuledAs (q p : Part) : Prop :=
  let r : Part := { p with
    adu := { p.adu with state := .none, retryTimer := .stopped, deferralTimer := .stopped }, fre := p.fre.removeKind .claim }
  (p.settings.soloAllowance < p.pcu.plan.draw → q.blocksAs .line r)
    ∧ (p.pcu.plan.draw ≤ p.settings.soloAllowance →
        q.admittedAs { r with
          adu := { r.adu with state := .solo, heldDraw := p.pcu.plan.draw, admittedDraw := p.pcu.plan.draw } })

/-- The part with a new plan, and the deferral answer for its key (R36, R87). -/
def Part.planned (plan : Plan) (p : Part) : Part :=
  { p with
    pcu := { p.pcu with plan := plan }, pvw := { p.pvw with deferral := deferralAnswer plan.key p.pvw.records } }

/-- The part, a node in service that holds nothing, as it enters WAIT from a state other than WARN (R15, R5, R33, R90, R144), before it
seeks admission. -/
def Part.waiting (p : Part) : Part :=
  { p with
    rsq := p.rsq.rested .wait .none false true
    pcu := { p.pcu with waitTimer := p.waitTimerKept }
    anu := { p.anu with
             patience := if p.anu.current = none ∧ p.anu.next = none then .running 7500000 else p.anu.patience }
    fre := p.fre.offer (p.presence 5 none p.pcu.plan.key false) }

/-- The queueing procedure's last step (R53): the Claim with the key given is offered, and ADU is QUEUED. -/
def Part.claimQueued (key : Key) (p : Part) : Part :=
  { p with
    adu := { p.adu with state := .queued, deferralTimer := .stopped }
    fre := p.fre.offer (.claim key p.pcu.plan.draw) }

/-- `q` is what `p`, a node in service in WAIT with no claim, whose view holds the deferral answer for its plan, becomes as ADU takes
the seek (R53, R54): without the line the solo rule; a better-placed peer keeps the claim back in DEFER, with the deferral limit at
10 s; otherwise the Claim with the plan's key and U is queued. -/
def Part.seeksAs (q p : Part) : Prop :=
  (p.lineAvailable = false → q.soloRuledAs p)
    ∧ (p.lineAvailable = true → p.pvw.deferral = true →
        q = { p with adu := { p.adu with state := .defer, deferralTimer := .running 2500000 } })
    ∧ (p.lineAvailable = true → p.pvw.deferral = false →
        ∀ key, p.pcu.plan.key = some key → q = p.claimQueued key)

/-- `q` is what `p`, a node in service in PROBE that holds its draw, becomes on a REPLAN (R22, R66): WAIT with Release REPLAN, which is
offered on a line that is available, and the load distrusted; then, unless the cancel condition holds, a new plan in which the load is
unknown, which blocks or is sought. The episode's counts are kept. -/
def Part.replansAs (q p : Part) : Prop :=
  let w : Part := Part.waiting { p with
    adu := p.adu.released .replan, fre := p.releaseOffered .replan, pcu := { p.pcu with loadOverride := true } }
  (p.liu.cancel = true → q.watchesAs w)
    ∧ (p.liu.cancel = false → ∀ plan, plan = p.settings.makePlan { p.planInputs with load := none } →
        (plan.blockCause = .position → q.blocksAs .position (w.planned plan))
          ∧ (plan.blockCause = .infeasible → q.blocksAs .infeasible (w.planned plan))
          ∧ (plan.blockCause = .none → q.seeksAs (w.planned plan)))

/-- `q` is what `p`, a node in service in CREEP, becomes when the target test is made (R26): arrival within Z of the
target in a door zone, overrun beyond it, or nothing. -/
def Part.targetTestedAs (q p : Part) : Prop :=
  let arrived := p.liu.doorZone.level = true ∧ p.liu.position ≤ p.pcu.plan.level + p.settings.halfWidth
    ∧ p.pcu.plan.level ≤ p.liu.position + p.settings.halfWidth
  let overrun := (p.pcu.plan.direction = some .up ∧ p.pcu.plan.level + p.settings.halfWidth < p.liu.position)
    ∨ (p.pcu.plan.direction = some .down ∧ p.liu.position + p.settings.halfWidth < p.pcu.plan.level)
  (arrived → q.levelsAs p) ∧ (¬ arrived → overrun → q.haltsAs .overrun p) ∧ (¬ arrived → ¬ overrun → q = p)

/-! ### A waiting claim: its withdrawal, a new plan, a new limit, a new key -/

/-- The admission record after RSQ has withdrawn a waiting claim (R68, R69). A Claim on the line is marked. -/
def Adu.afterWithdraw (a : Adu) : Adu :=
  match a.state with
  | .defer => { a with state := .none, retryTimer := .stopped, deferralTimer := .stopped }
  | .queued => { a with state := .none, retryTimer := .stopped }
  | .claiming => { a with withdrawn := true, pendingSeek := false }
  | .none | .holder | .solo => a

/-- `q` is what `p`, a node in service in WAIT that holds nothing, becomes when its claim is withdrawn for a cause (R17, R68, R13):
BLOCKED with that cause, the Claim out of the queue, the Presence with code 4, HELP; PCU's 1 s timer runs on (R33). -/
def Part.withdrawsAs (cause : Cause) (q p : Part) : Prop :=
  q.rsq = p.rsq.rested .blocked cause false true
    ∧ q.adu = p.adu.afterWithdraw
    ∧ q.fre = (if p.adu.state = .queued then p.fre.removeKind .claim else p.fre).offer (p.presence 4 none none false)
    ∧ q.anu = ({ p.anu with patience := .stopped }).request p.settings false .help
    ∧ q.sameOutside [.rsq, .adu, .fre, .anu] p

/-- `q` is what `p`, a node in service in BLOCKED, becomes when its recorded cause clears (R14), but for the count of free choices: a
new plan, whose cause replaces the recorded one, or WAIT and a seek (R53), which a Claim still on the line keeps pending (R70). -/
def Part.replansBlockedAs (q p : Part) : Prop :=
  let r : Part := p.planned (p.settings.makePlan p.planInputs)
  let calm : Part := { q with choices := p.choices }
  q.pcu.plan = r.pcu.plan
    ∧ (r.pcu.plan.blockCause = .position → calm = { r with rsq := { p.rsq with cause := .position } })
    ∧ (r.pcu.plan.blockCause = .infeasible → calm = { r with rsq := { p.rsq with cause := .infeasible } })
    ∧ (r.pcu.plan.blockCause = .none → p.adu.state = .none → calm.seeksAs r.waiting)
    ∧ (r.pcu.plan.blockCause = .none → p.adu.state = .claiming → p.adu.withdrawn = true →
        calm = { r.waiting with adu := { p.adu with pendingSeek := true } })

/-- `q` is what `p`, a node in service whose view already holds the new S_eff, becomes when PVW reports it (R42, R86): in WAIT
with U beyond it the plan is infeasible and the claim is withdrawn (R17), after which the same report may find RSQ in
BLOCKED (R14; either order, assumptions 4 and 27); in BLOCKED with INFEASIBLE a new plan; otherwise nothing. -/
def Part.limitTakenAs (q p : Part) : Prop :=
  let beyond := p.rsq.state = .wait ∧ p.pvw.sEff.getD 0 < p.pcu.plan.draw
  let cleared := p.rsq.state = .blocked ∧ p.rsq.cause = .infeasible
  (beyond → ∃ b : Part,
      b.withdrawsAs .infeasible { p with pcu := { p.pcu with plan := { p.pcu.plan with blockCause := .infeasible } } }
        ∧ (q = { b with choices := q.choices } ∨ q.replansBlockedAs b))
    ∧ (cleared → q.replansBlockedAs p)
    ∧ (¬ beyond → ¬ cleared → q = p)

/-- `q` is what `p`, a node in DEFER whose view already holds the deferral answer, becomes when that answer was `was`
before (R87, R55): turned from yes to no it is a retry trigger, and otherwise nothing. -/
def Part.answerTakenAs (was : Bool) (q p : Part) : Prop :=
  (was = false ∨ p.pvw.deferral = true → q = p)
    ∧ (was = true → p.pvw.deferral = false → p.lineAvailable = true →
        ∀ key, p.pcu.plan.key = some key → q = p.claimQueued key)
    ∧ (was = true → p.pvw.deferral = false → p.lineAvailable = false → p.settings.soloAllowance < p.pcu.plan.draw →
        p.rsq.state = .wait → q.rsq = p.rsq.rested .blocked .line false true ∧ q.adu.state = .none)

/-- `q` is what `p`, a node in WAIT and DEFER on a line that is available, whose view and key already are the new ones, becomes
at a peer's RELEASE or ADJUST, where the deferral answer was `was` before (R55): the queueing procedure queues the Claim or
defers, and where the answer was no and now is yes either may be, by the order of the trigger and the view's update (assumption
4). -/
def Part.triggeredAs (was : Bool) (q p : Part) : Prop :=
  ∀ key, p.pcu.plan.key = some key →
    (p.pvw.deferral = false → q = p.claimQueued key)
      ∧ (p.pvw.deferral = true → was = true → q = p)
      ∧ (p.pvw.deferral = true → was = false → q = p ∨ q = p.claimQueued key)

/-- The part with its key composed from the figures as they stand, and the deferral answer for that key (R45, R87). -/
def Part.rekeyed (p : Part) : Part :=
  let key := composeKey p.pcu.plan.occupied p.pcu.waitSeconds p.pcu.plan.timeUnits p.settings.node p.pvw.lastReleased
    p.pcu.refusals
  { p with
    pcu := { p.pcu with plan := { p.pcu.plan with key := some key } }
    pvw := { p.pvw with deferral := deferralAnswer (some key) p.pvw.records } }

/-- `q` is what `p`, a node in WAIT or BLOCKED whose plan has a key, becomes when PCU recomputes the key (R45, R59): a queued
Claim is replaced, a Claim on the line is marked, in DEFER the deferral answer may turn, and otherwise the key alone moves. -/
def Part.rekeysAs (q p : Part) : Prop :=
  ∀ r, r = p.rekeyed → ∀ key, r.pcu.plan.key = some key →
    (p.adu.state = .queued → q = { r with fre := r.fre.offer (.claim key r.pcu.plan.draw) })
      ∧ (p.adu.state = .claiming → q = { r with adu := { r.adu with pendingKey := true } })
      ∧ (p.adu.state = .defer → q.answerTakenAs p.pvw.deferral r)
      ∧ (p.adu.state ∉ [AdmissionState.queued, .claiming, .defer] → q = r)

/-- The frame engine after a frame end at which it was sending and holding nothing: IDLE, no role, nothing in progress; the
queue, the list and the counters stand (R100). -/
def Fre.afterTraffic (r : Fre) : Fre :=
  { r with
    phase := .idle, rx := .empty, role := .none, response := none, listed := false, inFlight := none, lostKind := none
    report := none, valid := none, inResponse := false, windowAbandoned := false }

/-! ### The end of an attempt and of the traffic in progress -/

/-- `q` is what `p`, in which the node sends the frame in progress or claims its window, becomes as its attempt ends with an error (R96,
R92, R104, R118): the attempt count of the entry in flight rises, and at 8 the entry is dropped; then an offer held against it is
applied; for a Claim the report spoiled, or dropped, is owed. The LOST retry, which is no entry, has failed. -/
def Part.attemptFailsAs (q p : Part) : Prop :=
  q.fre.inFlight = none
    ∧ q.lif.retry = (if p.lif.retry = .sending then .failed else p.lif.retry)
    ∧ (p.fre.inFlight = none → q.fre.queue = p.fre.queue ∧ q.fre.report = p.fre.report)
    ∧ (p.queueFits → ∀ x e, p.fre.inFlight = some x → e ∈ p.fre.queue → e.frame.kind = x.kind →
        (e.attempts + 1 < 8 → q.fre.queue = applyHeld x.kind x.held (p.fre.queue.map fun y =>
            if y.frame.kind = x.kind then { y with attempts := y.attempts + 1 } else y))
        ∧ (8 ≤ e.attempts + 1 → q.fre.queue =
            applyHeld x.kind x.held (p.fre.queue.filter fun y => y.frame.kind != x.kind))
        ∧ q.fre.report = (if x.kind = .claim then some (if 8 ≤ e.attempts + 1 then .dropped else .spoiled)
            else p.fre.report))

/-- The error mark of 16 LU, as it begins on a line whose filtered level is `shown` (R100, R114). -/
def errorMark (shown : Bool) : Tx :=
  { source := .mark, bits := [], begun := 0, driving := true, driveAge := 0, shown := shown
    releaseDue := some 64, edgeDue := none }

/-- `q` is what `p`, on a line that is neither HELD nor STUCK, becomes in FRE and LIF as the traffic in progress is given up (R100,
R103): FRE discards until the frame end, and a window given up is remembered; the node's own attempt ends with an error, or else nothing
of the queue moves; and where `marks` says that the failure is answered, a holder that is not the sender, has recorded no DUPLICATE and
does not find the line LOST drives the error mark, and no other node drives. The error counters are stated beside this. -/
def Part.givesUpAs (marks : Bool) (q p : Part) : Prop :=
  q.fre = { p.fre with
      phase := .discard, rx := .empty, valid := none, inResponse := false, role := .receiver
      windowAbandoned := p.fre.windowAbandoned || p.fre.phase == .window
      queue := q.fre.queue, inFlight := q.fre.inFlight, report := q.fre.report, counters := q.fre.counters }
    ∧ (p.fre.role = .sender ∨ p.fre.role = .claimant → q.attemptFailsAs p ∧ q.lif.tx = none)
    ∧ (p.fre.role ≠ .sender → p.fre.role ≠ .claimant →
        q.fre.queue = p.fre.queue ∧ q.fre.inFlight = p.fre.inFlight ∧ q.fre.report = p.fre.report
          ∧ q.lif.retry = p.lif.retry
          ∧ q.lif.tx = (if marks = true ∧ p.adu.isHolder = true ∧ p.fre.duplicate = false ∧ p.lif.lineState ≠ .lost
              then some (errorMark q.lif.filtered) else none))

/-- An eligible landing of the configuration with its index, counted from 1, and its level (R37). -/
def Settings.hasLanding (c : Settings) (t : Target) : Prop :=
  ∃ i l, c.landings[i]? = some l ∧ l.eligible = true ∧ t = { index := i + 1, level := l.level }

/-- A landing lies beyond Z of a position in a direction (R38). -/
def Target.beyond (z position : Nat) (d : Dir) (t : Target) : Prop :=
  (d = .up ∧ position + z < t.level) ∨ (d = .down ∧ t.level + z < position)

/-- The distance between a landing and a position in millimetres (R38, R43). -/
def Target.away (position : Nat) (t : Target) : Nat := max position t.level - min position t.level

/-- `q` is what `p`, a node in service, becomes when its line recovers (R52, R14): blocked with LINE it makes a new plan,
and waits with its claim, or takes the cause that the plan carries; in every other state nothing of the rescue moves. -/
def Part.recoversAs (q p : Part) : Prop :=
  (p.rsq.state = .blocked → p.rsq.cause = .line → p.adu.state = .none →
      q.pcu.plan = p.settings.makePlan p.planInputs
        ∧ (q.pcu.plan.blockCause = .position → q.rsq = { p.rsq with cause := .position })
        ∧ (q.pcu.plan.blockCause = .infeasible → q.rsq = { p.rsq with cause := .infeasible })
        ∧ (q.pcu.plan.blockCause = .none →
            q.rsq = p.rsq.rested .wait .none false true
              ∧ (q.adu.state = .queued ∨ q.adu.state = .defer)))
    ∧ (p.rsq.state ≠ .blocked ∨ p.rsq.cause ≠ .line → q.sameOutside [.fre, .lif, .adu] p)

/-- The ways a step ends CREEP (R24, R25, R26), on the counts and the position that stand after it. -/
def Part.creepFailures (p : Part) : List CreepEnd :=
  (if p.settings.overspeed < 10 * p.rsq.speedCount then [CreepEnd.failure .overspeed] else [])
    ++ (if 20 < p.rsq.netReverse then [CreepEnd.failure .reverse] else [])
    ++ (if p.liu.doorZone.level = true ∧ p.liu.position ≤ p.pcu.plan.level + p.settings.halfWidth
          ∧ p.pcu.plan.level ≤ p.liu.position + p.settings.halfWidth then [CreepEnd.arrival] else [])
    ++ (if (p.pcu.plan.direction = some .up ∧ p.pcu.plan.level + p.settings.halfWidth < p.liu.position)
          ∨ (p.pcu.plan.direction = some .down ∧ p.liu.position + p.settings.halfWidth < p.pcu.plan.level)
        then [CreepEnd.failure .overrun] else [])

end Sys2Proof.Machine
end

