-- ==== Sys2Proof/Certificates/Slice0/Obligations.lean ====
section
/-! DEFINITION. The statements for the provers. Each says of a command, in the state and with the operands its
hypotheses name, which state it answers; or of every command and state, what no step breaks. A command of the lift port is
stated with its whole transaction. Frames: outside the blocks named in sameOutside, and outside the fields
a record update names, nothing changes. -/

open Sys2Proof Sys2Proof.Machine

/-! ## The queue, the idle step, RSTN -/

/-- One step takes the command at the front of the queue and runs it on the state with the queue's rest (the
model's own queue, assumption 24). -/
def Obligations.StepTakesFrontCommand : Prop :=
  ∀ (c : Instr) (s : State), step { s with pending := c :: s.pending } = exec c s

/-- With no command waiting, a step takes no decision of its own. What is due at once joins the queue; else one sample period
passes: every running timer loses one period, and one that comes due queues its command and is announced; the filter's integrator
takes one sample of the wire (R109), and the model's mark of R31 is cleared (assumption 44). The rescue state and its outputs, the
plan, the draws, the image and the records' nodes stand; while RSTN is low nothing moves at all (assumption 1, the model's choice).
An announced expiry whose timer a command has started again before it is taken does not occur (assumption 51, the model's form). -/
def Obligations.IdleStepTakesNoDecision : Prop :=
  (∀ (s : State) (timer : Part → Timer) (expiry : Instr) (n : Nat), (timer, expiry) ∈ timersWithExpiries →
    expiry ∈ s.announced → timer s.part = .running (n + 1) → exec expiry s = .next s)
  ∧ ∀ s : State, s.pending = [] →
    ∃ t, step s = .next t
      ∧ t.part.rsq.state = s.part.rsq.state ∧ t.part.rsq.cause = s.part.rsq.cause
      ∧ t.part.rsq.outputs = s.part.rsq.outputs ∧ t.part.pcu.plan = s.part.pcu.plan
      ∧ t.part.pcu.waitSeconds = s.part.pcu.waitSeconds ∧ t.part.pcu.refusals = s.part.pcu.refusals
      ∧ t.part.adu.state = s.part.adu.state ∧ t.part.adu.heldDraw = s.part.adu.heldDraw
      ∧ t.part.adu.admittedDraw = s.part.adu.admittedDraw ∧ t.part.lpc = s.part.lpc
      ∧ t.part.pvw.sEff = s.part.pvw.sEff ∧ t.part.pvw.lastReleased = s.part.pvw.lastReleased
      ∧ t.part.pvw.records.map (·.node) = s.part.pvw.records.map (·.node)
      ∧ t.part.fre.queue = s.part.fre.queue ∧ t.part.fre.list = s.part.fre.list
      ∧ t.part.fre.counters = s.part.fre.counters ∧ t.part.liu.position = s.part.liu.position
      ∧ t.part.anu.fifo = s.part.anu.fifo
      ∧ (∀ c ∈ t.pending, c.wellFormed = true)
      ∧ (s.part.pins.resetLow = true → t = s)
      ∧ (s.part.pins.resetLow = false → s.part.dueNow ≠ [] → t = { s with pending := s.part.dueNow })
      ∧ (s.part.pins.resetLow = false → s.part.dueNow = [] →
          (∀ timer expiry, (timer, expiry) ∈ timersWithExpiries →
            (timer s.part = .stopped → timer t.part = .stopped ∧ expiry ∉ t.announced)
              ∧ ∀ n, timer s.part = .running (n + 1) →
                  timer t.part = .running n ∧ (expiry ∈ t.announced ↔ n = 0) ∧ (n = 0 → expiry ∈ t.pending))
          ∧ t.part.rsq.cancelCame = false
          ∧ (s.part.lif.loopRun = none →
              t.part.lif.integrator = if s.part.lif.drives = true ∨ s.part.pins.lineOther = true
                then min 6 (s.part.lif.integrator + 1) else s.part.lif.integrator - 1))

/-- Every command that is an event of the part has a next state and leaves the queue as it stands; the others are refused by
name (assumption 3, the model's choice). -/
def Obligations.EveryEventCompletes : Prop :=
  ∀ (c : Instr) (s : State),
    (c.wellFormed = true → ∃ q, exec c s = .next { s with part := q })
      ∧ (c.wellFormed = false → exec c s = .refused .notAnEvent)

/-- R153: the part stays at its reset values for as long as RSTN is low. Every command but power-on and the reset
input itself then leaves every block as it was; a change of an input pin moves the pin alone (that such a command is taken as a step
without effect is the model's choice, assumption 8). -/
def Obligations.LowResetHoldsEveryBlock : Prop :=
  ∀ (c : Instr) (s : State), s.part.pins.resetLow = true → c.wellFormed = true →
    (∀ selected, c ≠ .powerOn selected) → (∀ low selected, c ≠ .resetInput low selected) →
    ∃ q, exec c s = .next { s with part := q } ∧ q.sameOutside [.pins] s.part ∧ q.pins.resetLow = true

/-! ## The resets -/

/-- R153 with the reset values of each block's chapter (R4, R32, R50, R75, R89, R108, R121, R131, R136, R147): power-on and RSTN going
low in every state, RSTN returning high, and RESTART with its forms that are refused for their framing (R148), missed because select
was asserted as a reset ended (R147), or given while RSTN is low; and the state right after power-on, whose pins' levels are the model's
choice (assumption 5). That the part then waits for select exactly where the reset's operand says so is the model's form (assumption 7);
what LP_DO carries in a refused transaction is its record (assumptions 29, 32). Every transaction clears the model's mark of R31 (assumption
44), here and in each statement about the lift port. -/
def Obligations.ResetsRestoreEveryBlock : Prop :=
  (∀ s : State,
    (∀ selected, ∃ q, exec (.powerOn selected) s = .next { s with part := q } ∧ q.atResetValues
      ∧ q.lpc.image = List.replicate 58 0 ∧ q.lpc.startCause = .powerOn
      ∧ q.lpc.awaitRelease = selected ∧ q.pins = { s.part.pins with selected := selected })
    ∧ (∀ selected, ∃ q, exec (.resetInput true selected) s = .next { s with part := q } ∧ q.atResetValues
      ∧ q.lpc.image = List.replicate 58 0 ∧ q.lpc.startCause = .resetInput
      ∧ q.lpc.awaitRelease = selected
      ∧ q.pins = { s.part.pins with selected := selected, resetLow := true })
    ∧ (s.part.pins.resetLow = true → ∀ selected,
      ∃ q, exec (.resetInput false selected) s = .next { s with part := q } ∧ q.atResetValues
        ∧ q.lpc.image = List.replicate 58 0 ∧ q.lpc.startCause = .resetInput
        ∧ q.lpc.awaitRelease = selected
        ∧ q.pins = { s.part.pins with selected := selected, resetLow := false })
    ∧ (s.part.pins.resetLow = false → ∀ selected, exec (.resetInput false selected) s = .next s)
    ∧ (s.portReady → ∃ q, exec (.restart ⟨[], 0⟩) s = .next { s with part := q } ∧ q.atResetValues
      ∧ q.lpc.image = s.part.lpc.image ∧ q.lpc.startCause = .restart
      ∧ q.lpc.awaitRelease = false ∧ q.pins = { s.part.pins with selected := false })
    ∧ ∀ t : Tail,
        (s.portReady → t ≠ ⟨[], 0⟩ →
          exec (.restart t) s = .next { s with part := { s.part.settled with
            lpc := { s.part.lpc.closed (List.replicate (t.bytes.length + 1) 0) (List.replicate t.bits.val false) with
                     portErrors := min 255 (s.part.lpc.portErrors + 1), lastResult := .framing } } })
        ∧ (s.working → s.part.lpc.awaitRelease = true →
          exec (.restart t) s = .next { s with part := { s.part.settled with
            lpc := { s.part.lpc with awaitRelease := false }, pins := { s.part.pins with selected := false } } })
        ∧ (s.part.pins.resetLow = true → exec (.restart t) s = .next s))
  ∧ State.reset.part.atResetValues ∧ State.reset.part.lpc.image = List.replicate 58 0
  ∧ State.reset.part.lpc.startCause = .powerOn ∧ State.reset.pending = [] ∧ State.reset.announced = []

/-! ## The lift port (chapter 9) -/

/-- R148: a modifying command with another byte count than it requires, or released inside a byte, is refused for its
framing and reaches no other block; so is a transaction released before its command byte is complete, and an unknown command
code for its code. What LP_DO carried is the model's own record (assumptions 29 and 32). -/
def Obligations.ErrorsOfTheBusFormCounted : Prop :=
  (∀ (s : State) (t : Tail), s.portReady → ∀ c : Instr,
      (c ∈ [Instr.commit t, .restart t, .loopback t, .resume t] ∧ (t.bytes ≠ [] ∨ t.bits ≠ 0)
        ∨ c ∈ [Instr.tickA t, .tickB t] ∧ (t.bytes.length ≠ 4 ∨ t.bits ≠ 0)
        ∨ c = .load t ∧ (t.bytes.length < 2 ∨ 33 < t.bytes.length ∨ t.bits ≠ 0)) →
      exec c s = .next { s with part := { s.part.settled with
        lpc := { s.part.lpc.closed (List.replicate (t.bytes.length + 1) 0) (List.replicate t.bits.val false) with
                 portErrors := min 255 (s.part.lpc.portErrors + 1), lastResult := .framing } } })
  ∧ (∀ s : State, s.portReady →
      (∀ (code : Byte) (t : Tail), code ∉ [0x0A, 0x0B, 0x0C, 0x0D, 0x31, 0x32, 0x60, 0x50, 0x51] →
        exec (.unknownCommand code t) s = .next { s with part := { s.part.settled with
          lpc := { s.part.lpc.closed (List.replicate (t.bytes.length + 1) 0) (List.replicate t.bits.val false) with
                   portErrors := min 255 (s.part.lpc.portErrors + 1), lastResult := .unknown } } })
      ∧ (∀ bits : Fin 8,
        exec (.incompleteCommandByte bits) s = .next { s with part := { s.part.settled with
          lpc := { s.part.lpc.closed [] (List.replicate bits.val false) with
                   portErrors := min 255 (s.part.lpc.portErrors + 1), lastResult := .framing } } }))

/-- R150: a correctly framed LOAD is refused after commit, refused beyond the end of the buffer, or written whole. -/
def Obligations.LoadWritesWholeOrNotAtAll : Prop :=
  ∀ (s : State) (offset : Byte) (data : List Byte), s.portReady → s.part.lpc.image.length = 58 →
    1 ≤ data.length → data.length ≤ 32 →
    ∃ image result,
      exec (.load ⟨offset :: data, 0⟩) s = .next { s with part := { s.part.settled with
        lpc := { s.part.lpc.closed (List.replicate (data.length + 2) 0) [] with image := image, lastResult := result } } }
      ∧ (s.part.lpc.committed = true → result = .wrongState ∧ image = s.part.lpc.image)
      ∧ (s.part.lpc.committed = false → 58 < offset.toNat + data.length →
          result = .range ∧ image = s.part.lpc.image)
      ∧ (s.part.lpc.committed = false → offset.toNat + data.length ≤ 58 →
          result = .done ∧ image.length = 58
            ∧ ∀ i < 58, byteAt image i =
                if offset.toNat ≤ i ∧ i < offset.toNat + data.length then byteAt data (i - offset.toNat)
                else byteAt s.part.lpc.image i)

/-- R151: the validation accepts exactly the images whose fields lie in the ranges of the table, whose first K
landings rise by at least 1000 mm with one of them eligible, and whose check byte is right. -/
def Obligations.ValidationAcceptsExactlyTheRanges : Prop :=
  ∀ image : List Byte,
    validateImage image = none ↔
      (byteAt image 0).toNat ≤ 15
      ∧ (1 ≤ fieldAt2 image 1 ∧ fieldAt2 image 1 ≤ 2000) ∧ fieldAt2 image 3 ≤ fieldAt2 image 1
      ∧ 1 ≤ (byteAt image 5).toNat ∧ fieldAt2 image 6 ≤ 2000 ∧ fieldAt2 image 8 ≤ 3000
      ∧ (200 ≤ fieldAt2 image 10 ∧ fieldAt2 image 10 ≤ 6000)
      ∧ (200 ≤ fieldAt2 image 12 ∧ fieldAt2 image 12 ≤ 8000)
      ∧ (40 ≤ (byteAt image 14).toNat ∧ (byteAt image 14).toNat ≤ 95)
      ∧ (50 ≤ fieldAt2 image 15 ∧ fieldAt2 image 15 ≤ 300)
      ∧ (20 ≤ (byteAt image 17).toNat ∧ (byteAt image 17).toNat ≤ 200)
      ∧ (5 ≤ (byteAt image 18).toNat ∧ (byteAt image 18).toNat ≤ 60)
      ∧ (byteAt image 19).toNat ≤ 200 ∧ fieldAt2 image 20 ≤ 500
      ∧ (1 ≤ (byteAt image 22).toNat ∧ (byteAt image 22).toNat ≤ 30)
      ∧ (10 ≤ (byteAt image 23).toNat ∧ (byteAt image 23).toNat ≤ 200)
      ∧ (20 ≤ (byteAt image 24).toNat ∧ (byteAt image 24).toNat ≤ 200)
      ∧ (5 ≤ (byteAt image 25).toNat ∧ (byteAt image 25).toNat ≤ 50)
      ∧ (20 ≤ (byteAt image 26).toNat ∧ (byteAt image 26).toNat ≤ 200)
      ∧ (60 ≤ fieldAt2 image 27 ∧ fieldAt2 image 27 ≤ 600 ∧ fieldAt2 image 15 < fieldAt2 image 27)
      ∧ (5 ≤ (byteAt image 29).toNat ∧ (byteAt image 29).toNat ≤ 30)
      ∧ (2 ≤ (byteAt image 30).toNat ∧ (byteAt image 30).toNat ≤ 6)
      ∧ (∀ i < (byteAt image 30).toNat, fieldAt2 image (31 + 3 * i) ≤ 60000)
      ∧ (∀ i, i + 1 < (byteAt image 30).toNat →
          fieldAt2 image (31 + 3 * i) + 1000 ≤ fieldAt2 image (31 + 3 * (i + 1)))
      ∧ (∃ i < (byteAt image 30).toNat, (byteAt image (33 + 3 * i)).getLsbD 0 = true)
      ∧ (∀ i < 6, (byteAt image (51 + i)).toNat ≤ 63 ∨ (byteAt image (51 + i)).toNat = 255)
      ∧ byteAt image 57 = crc (image.take 57)

/-- R151: a COMMIT taken after commit is refused with WRONG_STATE; one of an image that fails a test is refused with
INVALID, and the commit failure offset names the first test that fails, in ascending order of offset. Nothing else changes. -/
def Obligations.CommitRefusalNamesFirstFailure : Prop :=
  ∀ s : State, s.portReady →
    (s.part.lpc.committed = true →
      exec (.commit ⟨[], 0⟩) s = .next { s with part := { s.part.settled with
        lpc := { s.part.lpc.closed [0] [] with lastResult := .wrongState } } })
    ∧ (s.part.lpc.committed = false → validateImage s.part.lpc.image ≠ none →
      ∃ test ∈ fieldTests s.part.lpc.image, test.passes = false
        ∧ (∀ other ∈ fieldTests s.part.lpc.image, other.offset < test.offset → other.passes = true)
        ∧ exec (.commit ⟨[], 0⟩) s = .next { s with part := { s.part.settled with
            lpc := { s.part.lpc.closed [0] [] with failOffset := some test.offset, lastResult := .invalid } } })

/-- R152, R8, R124, R135: a COMMIT of a valid image in START. A lift stalled at commit, its mains absent, goes on to
VERIFY. -/
def Obligations.CommitBringsIntoService : Prop :=
  ∀ s : State, s.portReady → s.part.lpc.committed = false → validateImage s.part.lpc.image = none →
    s.part.rsq.state = .start → s.part.liu.lockout = false → s.part.liu.controller = none →
    ∃ q, exec (.commit ⟨[], 0⟩) s = .next { s with part := q }
      ∧ q.lpc = { s.part.lpc.closed [0] [] with committed := true, failOffset := none, lastResult := .done }
      ∧ q.liu = { s.part.liu with
          heartbeat := .healthy, heartbeatTimer := .running (2500 * q.settings.heartbeatTime)
          stall := !s.part.liu.mains.level, cancel := s.part.liu.mains.level }
      ∧ q.pvw = { s.part.pvw with sEff := some q.settings.storeLimit, mismatch := false }
      ∧ q.fre.presenceTimer = .running 250000
      ∧ q.anu.volume = min 7 (byteAt s.part.lpc.image 50).toNat
      ∧ q.rsq.outputs = s.part.rsq.outputs.atRest false false ∧ q.rsq.cause = .none
      ∧ (s.part.liu.mains.level = true → q.rsq.state = .watch)
      ∧ (s.part.liu.mains.level = false →
          q.rsq.state = .verify ∧ q.rsq.verifyTimer = .running (250000 * q.settings.verifyTime))
      ∧ q.sameOutside [.rsq, .pcu, .pvw, .fre, .liu, .anu, .lpc] s.part

/-- R155, R122: a correctly framed tick is refused before commit, answered RANGE for a controller state above 3, and taken as a
repeat when it is of the last accepted kind: then only the repeat count moves. -/
def Obligations.TickNotAccepted : Prop :=
  ∀ (s : State) (bytes : List Byte), s.portReady → bytes.length = 4 →
    ∀ c kind, (c = Instr.tickA ⟨bytes, 0⟩ ∧ kind = TickKind.a ∨ c = Instr.tickB ⟨bytes, 0⟩ ∧ kind = TickKind.b) →
    (s.part.lpc.committed = false →
      exec c s = .next { s with part := { s.part.settled with
        lpc := { s.part.lpc.closed (List.replicate 5 0) [] with lastResult := .wrongState } } })
    ∧ (s.part.lpc.committed = true → 3 < (byteAt bytes 3).toNat →
      exec c s = .next { s with part := { s.part.settled with
        lpc := { s.part.lpc.closed (List.replicate 5 0) [] with lastResult := .range } } })
    ∧ (s.part.lpc.committed = true → (byteAt bytes 3).toNat ≤ 3 → s.part.liu.lastKind = some kind →
      exec c s = .next { s with part := { s.part.settled with
        liu := { s.part.liu with repeats := min 255 (s.part.liu.repeats + 1) }
        lpc := { s.part.lpc.closed (List.replicate 5 0) [] with lastResult := .done } } })

/-- R123, R124, R125, R132, R133: an accepted tick of either kind latches its figures, reloads the heartbeat and evaluates both
conditions once on the complete figures. Where the sequencer acts on none of it nothing else changes, in WATCH and
VERIFY too, where the stall indication stands; in WATCH one newly present leads to VERIFY, and in VERIFY one that is withdrawn leads
to WATCH; the cancel condition newly holding ends
PARKED, VERIFY, BLOCKED, WAIT, WARN and LANDED in WATCH (R12, R10, R14, R17, R19, R29), from WARN with Release ABANDONED offered on an
available line (R66); a position newly invalid withdraws WAIT to BLOCKED, one newly
valid clears a block with POSITION, and one with INFEASIBLE is cleared by a change of the flag or of the latched load (R14); in CREEP a
latched position is tested against the target (R26). The orders among the reports of one tick in WAIT
and BLOCKED are free (assumption 4); a tick leaves no mark for a RESUME after it (assumption 44). The end of a holding without the line, and the LEVEL entry, follow assumptions 12, 31 and 36. -/
def Obligations.AcceptedTickLatched : Prop :=
  ∀ (s : State) (bytes : List Byte), s.portReady → s.part.lpc.committed = true → bytes.length = 4 →
    ∀ c kind, (c = Instr.tickA ⟨bytes, 0⟩ ∧ kind = TickKind.a ∨ c = Instr.tickB ⟨bytes, 0⟩ ∧ kind = TickKind.b) →
    ∀ controller, ControllerState.ofCode (byteAt bytes 3).toNat = some controller →
    s.part.liu.lastKind ≠ some kind →
    ∃ q, exec c s = .next { s with part := q }
      ∧ q.liu = { s.part.liu with
          lastKind := some kind
          position := if fieldAt2 bytes 0 ≤ 60000 then fieldAt2 bytes 0 else s.part.liu.position
          positionValid := decide (fieldAt2 bytes 0 ≤ 60000)
          load := if (byteAt bytes 2).toNat = 255 then none else some (10 * min 250 (byteAt bytes 2).toNat)
          controller := some controller
          lockout := controller == .service
          heartbeat := .healthy
          heartbeatTimer := .running (2500 * s.part.settings.heartbeatTime)
          stall := controller != .service && (!s.part.liu.mains.level || controller == .stalled)
          cancel := s.part.liu.mains.level && controller != .stalled }
      ∧ q.lpc = { s.part.lpc.closed (List.replicate 5 0) [] with lastResult := .done }
      ∧ q.lif = s.part.lif ∧ q.pvw.records = s.part.pvw.records ∧ q.pins = s.part.pins
      ∧ (s.part.rsq.state ∈ [RescueState.start, .probe, .level, .doors, .halted] →
          q.sameOutside [.liu, .lpc] s.part.settled)
      ∧ (s.part.rsq.state = .watch → s.part.liu.stall = true ∨ q.liu.stall = false →
          q.sameOutside [.liu, .lpc] s.part.settled)
      ∧ (s.part.rsq.state = .watch → s.part.liu.stall = false → q.liu.stall = true →
          q.rsq = { s.part.rsq.rested .verify .none false false with
                    verifyTimer := .running (250000 * s.part.settings.verifyTime) })
      ∧ (s.part.rsq.state = .verify → s.part.liu.stall = true → q.liu.stall = false →
          q.rsq.state = .watch ∧ q.pcu.waitSeconds = 0 ∧ q.pcu.refusals = 0 ∧ q.pcu.loadOverride = false)
      ∧ ∀ p : Part, p = { s.part.settled with liu := q.liu, lpc := q.lpc } →
        ∀ cancels : Bool, cancels = (!s.part.liu.cancel && q.liu.cancel) →
        (cancels = true → s.part.lineAvailable = true →
            s.part.rsq.state ∈ [RescueState.parked, .blocked, .wait, .warn, .landed] →
          q.rsq.state = .watch ∧ q.rsq.outputs = s.part.rsq.outputs.atRest false false ∧ q.rsq.cause = .none
            ∧ q.pcu.waitSeconds = 0 ∧ q.pcu.refusals = 0 ∧ q.pcu.loadOverride = false)
        ∧ (cancels = true → s.part.rsq.state = .parked ∨ s.part.rsq.state = .landed → s.part.adu.isHolder = false →
            q.watchesAs p)
        ∧ (s.part.rsq.state = .verify → cancels = true ∨ s.part.liu.stall = true ∧ q.liu.stall = false →
            s.part.adu.isHolder = false → q.watchesAs p)
        ∧ (s.part.rsq.state = .verify → cancels = false → s.part.liu.stall = false ∨ q.liu.stall = true →
            q.sameOutside [.liu, .lpc] s.part.settled)
        ∧ (cancels = true → s.part.rsq.state = .blocked → q.rsq.cancelCame = false)
        ∧ (cancels = true → s.part.rsq.state = .wait → s.part.adu.state ∈ [AdmissionState.defer, .queued] →
            q.adu.state = .none)
        ∧ (cancels = true → s.part.rsq.state = .wait → s.part.adu.state = .claiming →
            q.adu.state = .claiming ∧ q.adu.withdrawn = true)
        ∧ (cancels = true → s.part.rsq.state = .warn → q.watchesAs p.givenUp)
        ∧ (cancels = false → s.part.rsq.state ∈ [RescueState.parked, .warn, .landed] → q.sameOutside [.liu, .lpc] s.part.settled)
        ∧ (cancels = false → s.part.rsq.state = .blocked → s.part.rsq.cause ∉ [Cause.position, .infeasible] →
            q.sameOutside [.liu, .lpc, .choices] s.part.settled)
        ∧ (cancels = false → s.part.rsq.state = .blocked → s.part.rsq.cause = .position →
            s.part.liu.positionValid = true ∨ q.liu.positionValid = false →
            q.sameOutside [.liu, .lpc, .choices] s.part.settled)
        ∧ (cancels = false → s.part.rsq.state = .blocked → s.part.rsq.cause = .infeasible →
            q.liu.positionValid = s.part.liu.positionValid → q.liu.load = s.part.liu.load →
            q.sameOutside [.liu, .lpc, .choices] s.part.settled)
        ∧ (cancels = false → s.part.rsq.state = .wait →
            s.part.liu.positionValid = false ∨ q.liu.positionValid = true →
            q.sameOutside [.liu, .lpc, .choices] s.part.settled)
        ∧ (cancels = false → s.part.rsq.state = .wait → s.part.adu.isHolder = false → s.part.liu.positionValid = true →
            q.liu.positionValid = false → ({ q with choices := s.part.choices } : Part).withdrawsAs .position p)
        ∧ (cancels = false → s.part.rsq.state = .blocked → s.part.rsq.cause = .position → s.part.adu.state ≠ .defer →
            s.part.liu.positionValid = false → q.liu.positionValid = true → q.replansBlockedAs p)
        ∧ (cancels = false → s.part.rsq.state = .blocked → s.part.rsq.cause = .infeasible → s.part.adu.state ≠ .defer →
            q.liu.positionValid ≠ s.part.liu.positionValid ∨ q.liu.load ≠ s.part.liu.load → q.replansBlockedAs p)
        ∧ (s.part.rsq.state = .creep → 60000 < fieldAt2 bytes 0 → q.sameOutside [.liu, .lpc] s.part.settled)
        ∧ (s.part.rsq.state = .creep → fieldAt2 bytes 0 ≤ 60000 → q.targetTestedAs p)

/-- R31: RESUME is accepted in BLOCKED when the cancel condition holds, in LANDED always, in HALTED when the cancel condition
holds and the chain is closed, and in no other state. Acceptance enters WATCH, with the actions of R7; a refusal changes
nothing but the last-command result. A RESUME in the instant in which the cancel condition has ended BLOCKED in WATCH may be taken in
either order with it: the sequencer stands in WATCH, and only the result differs (that instant is the model's own mark, assumption
44). One after another transaction of the port, which is later (R147, R148), finds WATCH and is refused. The part is in service, and the node holds nothing in these states, by the invariant of the admission state. -/
def Obligations.ResumeFollowsItsTable : Prop :=
  ∀ s : State, s.portReady →
    let p : Part := { s.part.settled with lpc := s.part.lpc.closed [0] [] }
    let accepted :=
      (s.part.rsq.state = .blocked ∧ s.part.liu.cancel = true) ∨ s.part.rsq.state = .landed
        ∨ (s.part.rsq.state = .halted ∧ s.part.liu.cancel = true ∧ s.part.liu.chain.level = true)
    let together := s.part.rsq.state = .watch ∧ s.part.rsq.cancelCame = true
    (accepted → s.part.lpc.committed = true → s.part.admissionFits →
      ∃ q : Part,
        exec (.resume ⟨[], 0⟩) s = .next { s with part := { q with lpc := { q.lpc with lastResult := .done } } }
          ∧ q.watchesAs p)
    ∧ (together → ∃ result choices, (result = .done ∨ result = .resumeRefused)
      ∧ exec (.resume ⟨[], 0⟩) s = .next { s with part := { p with
          lpc := { p.lpc with lastResult := result }, choices := choices } })
    ∧ (¬ accepted → ¬ together →
      exec (.resume ⟨[], 0⟩) s = .next { s with part := { p with lpc := { p.lpc with lastResult := .resumeRefused } } })
    ∧ ∀ (c : Instr) (code : Byte) (tail : Tail) (bits : Fin 8) (t : State),
        c ∈ [Instr.load tail, .commit tail, .restart tail, .loopback tail, .tickA tail, .tickB tail, .resume tail, .status tail,
          .view tail, .unknownCommand code tail, .incompleteCommandByte bits] →
        exec c s = .next t → t.part.rsq.state = .watch →
        exec (.resume ⟨[], 0⟩) t = .next { t with part := { t.part with
          lpc := { t.part.lpc.closed [0] [] with lastResult := .resumeRefused } } }

/-- R156: a STATUS read returns the record as it stands at the end of the command byte, 0x00 before it and beyond its end, may
end at any bit, and changes no state of the part: what LP_DO carried is the model's own record of its pin (assumption 29). -/
def Obligations.StatusReadsSnapshot : Prop :=
  ∀ (s : State) (t : Tail), s.portReady →
    exec (.status t) s = .next { s with part := { s.part.settled with
      lpc := s.part.lpc.closed
        (0 :: (s.part.statusRecord ++ List.replicate t.bytes.length 0).take t.bytes.length)
        ((bitsOfByte (byteAt s.part.statusRecord t.bytes.length)).take t.bits.val) } }

/-- R162, R163: the bytes of the STATUS record, and those of a VIEW record, in which an absent optional field reads as zero
with its flag clear; and the codes in them. -/
def Obligations.PortRecordsLayout : Prop :=
  ([RescueState.start, .watch, .parked, .verify, .blocked, .wait, .warn, .probe, .creep, .level, .doors, .landed,
      .halted].map (·.code) = List.range 13
    ∧ [Cause.none, .chain, .position, .infeasible, .line, .progress, .overspeed, .reverse, .brake, .overrun,
      .door].map (·.code) = List.range 11
    ∧ [AdmissionState.none, .defer, .queued, .claiming, .holder, .solo].map (·.code) = List.range 6
    ∧ [LineState.idle, .busy, .sending, .held, .stuck, .lost].map (·.code) = List.range 6
    ∧ [LoopResult.none, .pass, .failEcho, .failSymbol, .failFraming, .failCheck, .failMismatch].map (·.code)
      = List.range 7
    ∧ [Heartbeat.unsupervised, .healthy, .expired].map (·.code) = List.range 3
    ∧ [StartCause.powerOn, .resetInput, .restart].map (·.code) = [1, 2, 3]
    ∧ [CommandResult.none, .done, .framing, .unknown, .wrongState, .range, .invalid, .busy, .resumeRefused].map
      (·.code) = List.range 9
    ∧ [ReleaseOutcome.landed, .abandoned, .halted, .replan].map (·.code) = List.range 4)
  ∧ (∀ p : Part, ∀ r, r = p.statusRecord →
      r.length = 31
        ∧ byteAt r 0 = byte p.rsq.state.code ∧ byteAt r 1 = byte p.rsq.cause.code ∧ byteAt r 2 = byte p.adu.state.code
        ∧ byteAt r 3 = byte p.adu.heldDraw ∧ byteAt r 4 = byte p.pcu.refusals
        ∧ (p.pcu.plan.draw < 65536 → fieldAt2 r 5 = p.pcu.plan.draw)
        ∧ keyOfBytes (byteAt r 7) (byteAt r 8) (byteAt r 9) = p.pcu.plan.key.getD 0
        ∧ byteAt r 10 = byte p.lif.lineState.code ∧ byteAt r 11 = byte p.lif.loopResult.code
        ∧ byteAt r 12 = byte p.fre.counters.symbol ∧ byteAt r 13 = byte p.fre.counters.framing
        ∧ byteAt r 14 = byte p.fre.counters.check ∧ byteAt r 15 = byte p.fre.counters.echo
        ∧ byteAt r 16 = byte p.fre.counters.unknownKind ∧ byteAt r 17 = byte p.fre.counters.arbitration
        ∧ (p.pvw.sEff.getD 0 < 65536 → fieldAt2 r 18 = p.pvw.sEff.getD 0)
        ∧ byteAt r 20 = (match p.adu.lastRelease with | some o => byte o.code | none => 0xFF)
        ∧ byteAt r 21 = byte p.anu.underruns ∧ byteAt r 22 = byte p.liu.heartbeat.code
        ∧ (p.liu.position < 65536 → fieldAt2 r 23 = p.liu.position) ∧ byteAt r 25 = byte p.liu.repeats
        ∧ byteAt r 26 = byte p.lpc.startCause.code ∧ byteAt r 27 = byte p.lpc.lastResult.code
        ∧ byteAt r 28 = (match p.lpc.failOffset with | some o => byte o | none => 0xFF)
        ∧ byteAt r 29 = byte p.lpc.portErrors
        ∧ (byteAt r 30).getLsbD 0 = p.lpc.committed ∧ (byteAt r 30).getLsbD 1 = p.liu.positionValid
        ∧ (byteAt r 30).getLsbD 2 = p.liu.lockout ∧ (byteAt r 30).getLsbD 3 = p.pvw.mismatch
        ∧ (byteAt r 30).getLsbD 4 = p.fre.duplicate ∧ (byteAt r 30).getLsbD 5 = p.anu.voiceFault
        ∧ (byteAt r 30).getLsbD 6 = false ∧ (byteAt r 30).getLsbD 7 = false)
  ∧ (∀ r : PeerRecord, r.bytes.length = 11
      ∧ (byteAt r.bytes 0).toNat = r.node.toNat ∧ byteAt r.bytes 1 = byte r.stateCode ∧ byteAt r.bytes 2 = byte r.age
      ∧ (byteAt r.bytes 3).getLsbD 0 = r.inferred ∧ (byteAt r.bytes 3).getLsbD 1 = r.sEcho.isSome
      ∧ (byteAt r.bytes 3).getLsbD 2 = r.draw.isSome ∧ (byteAt r.bytes 3).getLsbD 3 = r.key.isSome
      ∧ (byteAt r.bytes 3).getLsbD 4 = r.lastOutcome.isSome ∧ (byteAt r.bytes 3).toNat < 32
      ∧ (r.sEcho.getD 0 < 65536 → fieldAt2 r.bytes 4 = r.sEcho.getD 0) ∧ byteAt r.bytes 6 = byte (r.draw.getD 0)
      ∧ keyOfBytes (byteAt r.bytes 7) (byteAt r.bytes 8) (byteAt r.bytes 9) = r.key.getD 0
      ∧ byteAt r.bytes 10 = (match r.lastOutcome with | some o => byte o.code | none => 0))

/-- R157: a VIEW returns the record at its index, the absent record at or beyond the number of records or above 14, 0x00 beyond the
record's 11 bytes; released before its index byte is complete it returns nothing and is no error. It changes no state of the
part: what LP_DO carried is the model's own record of its pin (assumption 29). -/
def Obligations.ViewReadsPeerRecord : Prop :=
  ∀ (s : State) (bits : Fin 8), s.portReady →
    (exec (.view ⟨[], bits⟩) s = .next { s with part := { s.part.settled with
      lpc := s.part.lpc.closed [0] (List.replicate bits.val false) } })
    ∧ ∀ (index : Byte) (rest : List Byte),
      ∃ record : List Byte,
        exec (.view ⟨index :: rest, bits⟩) s = .next { s with part := { s.part.settled with
          lpc := s.part.lpc.closed (0 :: 0 :: (record ++ List.replicate rest.length 0).take rest.length)
            ((bitsOfByte (byteAt record rest.length)).take bits.val) } }
        ∧ record.length = 11
        ∧ (s.part.pvw.records.length ≤ index.toNat ∨ 14 < index.toNat →
            record = [0xFF, 0, 0, 0, 0, 0, 0, 0, 0, 0, 0])
        ∧ (∀ r, index.toNat ≤ 14 → s.part.pvw.records[index.toNat]? = some r → record = r.bytes)

/-- R154, R119, R120: LOOPBACK is refused after commit and while a test runs; otherwise it starts the test with the six-byte
frame built from the image, on the internal path: the pin is released, the filter at rest, the Opening driven at once; what
becomes of a reception in progress is the model's choice (assumption 21) and is not stated, and so is what LP_DO carried (its
record, assumption 29). The phase measure and the traffic mark at the start are the model's own values too. The end of the test sets the result by the first error, or by
what was received, and reconnects the filter with a released phase of 0 LU; the line state and the echo run stand. -/
def Obligations.LoopbackTestStartsAndEnds : Prop :=
  (∀ s : State, s.portReady →
      (s.part.lpc.committed = true →
        exec (.loopback ⟨[], 0⟩) s = .next { s with part := { s.part.settled with
          lpc := { s.part.lpc.closed [0] [] with lastResult := .wrongState } } })
      ∧ (s.part.lpc.committed = false → s.part.lif.loopRun ≠ none →
        exec (.loopback ⟨[], 0⟩) s = .next { s with part := { s.part.settled with
          lpc := { s.part.lpc.closed [0] [] with lastResult := .busy } } })
      ∧ (s.part.lpc.committed = false → s.part.lif.loopRun = none →
        ∃ q sent, exec (.loopback ⟨[], 0⟩) s = .next { s with part := q }
          ∧ sent = [0x71, byteAt s.part.lpc.image 0 &&& 0x0F, 0x01, byteAt s.part.lpc.image 1,
              byteAt s.part.lpc.image 2,
              crc [0x71, byteAt s.part.lpc.image 0 &&& 0x0F, 0x01, byteAt s.part.lpc.image 1, byteAt s.part.lpc.image 2]]
          ∧ q.lif = { s.part.lif with
              integrator := 0, filtered := false, samples := 96, traffic := false
              loopRun := some { sent := sent, rx := .empty }
              tx := some { source := .loopback, bits := bitsOfBytes sent, begun := 0, driving := true, driveAge := 0
                           shown := false, releaseDue := some 48, edgeDue := none } }
          ∧ q.lpc = { s.part.lpc.closed [0] [] with lastResult := .done }
          ∧ q.fre.queue = s.part.fre.queue ∧ q.fre.counters = s.part.fre.counters
          ∧ q.sameOutside [.fre, .lif, .lpc] s.part.settled))
  ∧ (∀ (s : State) (run : LoopRun) (e : LoopEnd), s.working → s.part.lif.loopRun = some run → run.sent.length = 6 →
      ∃ result,
        exec (.loopbackTestEnd e) s = .next { s with part := { s.part with
          lif := { s.part.lif with
            loopResult := result, loopRun := none, tx := none, integrator := 0, filtered := false, samples := 0
            traffic := false } } }
        ∧ (e = .error .echo → result = .failEcho) ∧ (e = .error .symbol → result = .failSymbol)
        ∧ (e = .error .framing → result = .failFraming)
        ∧ (∀ bytes, e = .received bytes →
            (bytes.length ≠ 6 → result = .failFraming)
            ∧ (bytes.length = 6 → byteAt bytes 5 ≠ crc (bytes.take 5) → result = .failCheck)
            ∧ (bytes.length = 6 → byteAt bytes 5 = crc (bytes.take 5) → bytes ≠ run.sent → result = .failMismatch)
            ∧ (bytes = run.sent → byteAt bytes 5 = crc (bytes.take 5) → result = .pass)))

/-! ## The lift input unit (chapter 7) -/

/-- R124, R132, R133: the heartbeat timer expires. The stall indication is then present unless the lockout is set, and the cancel
condition does not hold; a stall indication newly raised sends WATCH to VERIFY, and outside WATCH and VERIFY nothing else moves. A
tick of either kind that is accepted, in every rescue state, makes the heartbeat HEALTHY and reloads its timer; an expiry that the
same sample has queued (assumption 51, the model's form) then does not occur. -/
def Obligations.HeartbeatExpires : Prop :=
  (∀ s : State, s.inService → s.expires .heartbeatExpiry s.part.liu.heartbeatTimer →
    ∃ q, exec .heartbeatExpiry s = .next { s with part := q }
      ∧ q.liu = { s.part.liu with
          heartbeat := .expired, heartbeatTimer := .stopped, stall := !s.part.liu.lockout, cancel := false }
      ∧ (s.part.rsq.state = .watch → s.part.liu.stall = false → s.part.liu.lockout = false →
          q.rsq = { s.part.rsq.rested .verify .none false false with
                    verifyTimer := .running (250000 * s.part.settings.verifyTime) })
      ∧ (s.part.rsq.state ≠ .watch → s.part.rsq.state ≠ .verify → q.sameOutside [.liu] s.part))
  ∧ ∀ (s : State) (bytes : List Byte), s.portReady → s.part.lpc.committed = true → bytes.length = 4 →
    (byteAt bytes 3).toNat ≤ 3 →
    ∀ c kind, (c = Instr.tickA ⟨bytes, 0⟩ ∧ kind = TickKind.a ∨ c = Instr.tickB ⟨bytes, 0⟩ ∧ kind = TickKind.b) →
    s.part.liu.lastKind ≠ some kind →
    ∃ q, exec c s = .next { s with part := q }
      ∧ q.liu.heartbeat = .healthy ∧ q.liu.heartbeatTimer = .running (2500 * s.part.settings.heartbeatTime)
      ∧ q.liu.lastKind = some kind ∧ q.lpc.lastResult = .done
      ∧ (0 < s.part.settings.heartbeatTime → .heartbeatExpiry ∈ s.announced →
          exec .heartbeatExpiry { s with part := q } = .next { s with part := q })

/-- R126: a step moves the position counter by one millimetre, saturating at 0 and 65535, and the held pair along the cycle
LL, HL, HH, LH upward and the reverse downward. In LEVEL it restarts the standstill timer; in the states that take no step event
nothing else changes. -/
def Obligations.EncoderStepCounts : Prop :=
  ∀ (s : State) (d : Dir) (pair : Bool × Bool), s.working →
    s.part.rsq.state ≠ .probe → s.part.rsq.state ≠ .creep →
    (d = .up ∧ (s.part.liu.encoder, pair) ∈
        [((false, false), (true, false)), ((true, false), (true, true)), ((true, true), (false, true)),
         ((false, true), (false, false))]
      ∨ d = .down ∧ (pair, s.part.liu.encoder) ∈
        [((false, false), (true, false)), ((true, false), (true, true)), ((true, true), (false, true)),
         ((false, true), (false, false))]) →
    exec (.encoderStep d) s = .next { s with part := { s.part with
      pins := { s.part.pins with encoder := pair }
      rsq := if s.part.rsq.state = .level then { s.part.rsq with standstillTimer := .running 125000 } else s.part.rsq
      liu := { s.part.liu with
        encoder := pair
        position := if d = .up then min 65535 (s.part.liu.position + 1) else s.part.liu.position - 1 } } }

/-- R127, R17, R14: both channels change at once. The position-valid flag is cleared, the counter stands, no step is handed on; in
WAIT a flag that was set withdraws the claim to BLOCKED with POSITION; blocked with INFEASIBLE a new plan is made, which carries
POSITION; in every other state, and where the flag was clear, the sequencer goes on. -/
def Obligations.IllegalTransitionInvalidates : Prop :=
  ∀ s : State, s.inService →
    ∃ q, exec .illegalTransition s = .next { s with part := q }
      ∧ q.liu = { s.part.liu with
          positionValid := false, encoder := (!s.part.liu.encoder.1, !s.part.liu.encoder.2) }
      ∧ q.pins = { s.part.pins with encoder := (!s.part.liu.encoder.1, !s.part.liu.encoder.2) }
      ∧ (s.part.rsq.state = .wait → s.part.liu.positionValid = true →
          q.rsq = s.part.rsq.rested .blocked .position false true
            ∧ (s.part.adu.isHolder = false → q.withdrawsAs .position { s.part with liu := q.liu, pins := q.pins }))
      ∧ (s.part.rsq.state = .blocked → s.part.rsq.cause = .infeasible → s.part.liu.positionValid = true →
          s.part.adu.state ≠ .defer →
          q.pcu.plan.blockCause = .position ∧ q.pcu.plan.key = none
            ∧ q.replansBlockedAs { s.part with liu := q.liu, pins := q.pins }
            ∧ q.sameOutside [.rsq, .pcu, .pvw, .liu, .pins] s.part)
      ∧ (s.part.liu.positionValid = false
            ∨ s.part.rsq.state ≠ .wait ∧ (s.part.rsq.state ≠ .blocked ∨ s.part.rsq.cause ≠ .infeasible) →
          q.sameOutside [.liu, .pins] s.part)

/-- R130: a sample that differs from the candidate becomes the candidate and restarts the stability timer at 20 ms; one that
equals it changes nothing but the pin. No debounced level moves, and no other input. An expiry of that timer which the same sample
has queued (assumption 51, the model's form) then does not occur: the candidate has not been stable for 20 ms. -/
def Obligations.PinSampleMovesCandidate : Prop :=
  ∀ (s : State) (i : Input) (level : Bool), s.working →
    ∃ q, exec (.inputPinChange i level) s = .next { s with part := q }
      ∧ q.liu.input i = (if level = (s.part.liu.input i).candidate then s.part.liu.input i
          else { s.part.liu.input i with candidate := level, timer := .running 5000 })
      ∧ (∀ j, j ≠ i → q.liu.input j = s.part.liu.input j)
      ∧ q.liu = { s.part.liu with
          mains := q.liu.mains, chain := q.liu.chain, doorZone := q.liu.doorZone, doorsOpen := q.liu.doorsOpen
          brakeFeedback := q.liu.brakeFeedback }
      ∧ q.sameOutside [.liu, .pins] s.part
      ∧ (level ≠ (s.part.liu.input i).candidate → .debounceExpiry i ∈ s.announced →
          exec (.debounceExpiry i) { s with part := q } = .next { s with part := q })

/-- R130, R134: the stability timer of an input expires, and the debounced level becomes the candidate; one equal to the level
changes nothing more. MAINS re-evaluates stall and cancel (R132, R133): a stall newly present leads WATCH to VERIFY, one
withdrawn VERIFY to WATCH, the cancel condition newly holding PARKED, BLOCKED, LANDED, WAIT and WARN to WATCH. The chain opening halts
PROBE, CREEP and LEVEL with CHAIN, blocks WAIT and WARN with it and replaces the cause in BLOCKED (what leaves WARN offers Release
ABANDONED on an available line, R19, R66); closing, it clears a block
with cause CHAIN (R13, R14). In CREEP the brake feedback sets its mark or, lost, halts with BRAKE, and the door zone is tested
(R25, R26). Doors found open end DOORS: Release LANDED, then the Presence with
code 7 (R28, R66, R90). The mark that the cancel condition sets in BLOCKED is the model's own
(assumption 44). That a holding's end sets the last outcome without the line too, and the orders at the
LEVEL and HALTED entries, are the model's choices (assumptions 12, 31, 36). -/
def Obligations.DebouncedLevelChanges : Prop :=
  ∀ (s : State) (i : Input), s.inService → s.expires (.debounceExpiry i) (s.part.liu.input i).timer →
    ∃ q, exec (.debounceExpiry i) s = .next { s with part := q }
      ∧ q.liu.input i = { s.part.liu.input i with level := (s.part.liu.input i).candidate, timer := .stopped }
      ∧ (∀ j, j ≠ i → q.liu.input j = s.part.liu.input j)
      ∧ ((s.part.liu.input i).candidate = (s.part.liu.input i).level → q.sameOutside [.liu] s.part)
      ∧ ∀ p, p = { s.part with liu := q.liu } →
        ((s.part.liu.input i).level = true → (s.part.liu.input i).candidate = false →
          (i = .chain → s.part.rsq.state ∈ [RescueState.probe, .creep, .level] → q.haltsAs .chain p)
          ∧ (i = .chain → s.part.rsq.state = .blocked → q = { p with rsq := { p.rsq with cause := .chain } })
          ∧ (i = .brakeFeedback → s.part.rsq.state = .creep → s.part.rsq.brakeSeen = true → q.haltsAs .brake p)
          ∧ (i ∈ [Input.doorZone, .doorsOpen] → s.part.rsq.state = .parked →
              q.rsq = { p.rsq.rested .verify .none false false with
                        verifyTimer := .running (250000 * p.settings.verifyTime) })
          ∧ (s.part.rsq.state ∈ [RescueState.doors, .landed, .halted] → i ≠ .mains → q = p)
          ∧ (i = .chain → s.part.rsq.state = .wait →
              q.rsq = p.rsq.rested .blocked .chain false true ∧ (p.adu.isHolder = false → q.withdrawsAs .chain p))
          ∧ (i = .chain → s.part.rsq.state = .warn →
              q.blocksAs .chain p.givenUp)
          ∧ (i = .mains → s.part.rsq.state = .watch → s.part.liu.stall = false → q.liu.stall = true →
              q.rsq = { p.rsq.rested .verify .none false false with
                        verifyTimer := .running (250000 * p.settings.verifyTime) }))
        ∧ ((s.part.liu.input i).level = false → (s.part.liu.input i).candidate = true →
          (i = .brakeFeedback → s.part.rsq.state = .creep → q = { p with rsq := { p.rsq with brakeSeen := true } })
          ∧ (i = .doorsOpen → s.part.rsq.state = .doors → q.landsAs p)
          ∧ (i = .chain → s.part.rsq.state = .blocked → s.part.rsq.cause = .chain → p.adu.state ≠ .defer →
              q.replansBlockedAs p)
          ∧ (i = .mains → s.part.rsq.state = .verify → s.part.liu.stall = true → q.liu.stall = false →
              q.rsq = p.rsq.rested .watch .none false false)
          ∧ (i = .mains → s.part.liu.cancel = false → q.liu.cancel = true →
              (s.part.rsq.state ∈ [RescueState.parked, .landed] →
                q.rsq = p.rsq.rested .watch .none false false ∧ q.adu = p.adu
                  ∧ (p.adu.isHolder = false → q.watchesAs p))
              ∧ (s.part.rsq.state = .blocked →
                q.rsq = { p.rsq.rested .watch .none false false with cancelCame := true } ∧ q.adu = p.adu)
              ∧ (s.part.rsq.state = .wait → q.rsq = p.rsq.rested .watch .none false false
                  ∧ (p.adu.isHolder = false → q.adu = p.adu.afterWithdraw))
              ∧ (s.part.rsq.state = .warn → q.watchesAs p.givenUp)))
        ∧ ((s.part.liu.input i).candidate ≠ (s.part.liu.input i).level →
          (i ≠ .mains → q.liu.stall = s.part.liu.stall ∧ q.liu.cancel = s.part.liu.cancel)
          ∧ (i = .mains → s.part.liu.heartbeat ≠ .unsupervised →
              q.liu.stall = (!s.part.liu.lockout && (s.part.liu.heartbeat == .expired || !s.part.liu.mains.candidate
                  || s.part.liu.controller == some .stalled))
                ∧ q.liu.cancel = (s.part.liu.heartbeat == .healthy && s.part.liu.mains.candidate
                  && s.part.liu.controller != some .stalled))
          ∧ (i = .mains → s.part.rsq.state ∈ [RescueState.probe, .creep, .level, .doors, .halted] → q = p)
          ∧ (i = .doorZone → s.part.rsq.state = .creep → q.targetTestedAs p))

/-! ## The rescue sequence (chapter 1) -/

/-- R11: the case decision at the verify timer's expiry, in its order: parked, chain open, the plan's block cause, WAIT. The
node is in service, holds nothing and has no claim. With the line available WAIT defers to a better-placed peer or offers the Claim;
without it a draw beyond the solo allowance blocks with LINE, and one within it is admitted solo: to WARN on a motion plan (R16, R18), to
DOORS on a zone plan (R28). That CONFIRM is requested before the seek is the model's choice
(assumption 49); with the line available the two bear on different blocks. -/
def Obligations.VerifyDecidesTheCase : Prop :=
  ∀ s : State, s.inService → s.part.rsq.state = .verify → s.expires .verifyTimerExpiry s.part.rsq.verifyTimer →
    s.part.adu.state = .none →
    ∃ q, exec .verifyTimerExpiry s = .next { s with part := q }
      ∧ ∀ p, p = { s.part with pcu := { s.part.pcu with waitSeconds := 0 } } →
        (s.part.liu.doorZone.level = true ∧ s.part.liu.doorsOpen.level = true →
          q.rsq = s.part.rsq.rested .parked .none false false
            ∧ q.pcu = { s.part.pcu with waitTimer := .stopped }
            ∧ q.fre = s.part.fre.offer (s.part.presence 2 none none false)
            ∧ q.sameOutside [.rsq, .pcu, .fre, .anu] s.part)
        ∧ (¬ (s.part.liu.doorZone.level = true ∧ s.part.liu.doorsOpen.level = true) →
          (s.part.liu.chain.level = false → q.blocksAs .chain p)
          ∧ (s.part.liu.chain.level = true → ∀ plan, plan = p.settings.makePlan p.planInputs →
            q.pcu.plan = plan ∧ q.pcu.waitSeconds = 0
              ∧ (plan.blockCause = .position → q.blocksAs .position (p.planned plan))
              ∧ (plan.blockCause = .infeasible → q.blocksAs .infeasible (p.planned plan))
              ∧ (plan.blockCause = .none → ∀ w : Part, w = (p.planned plan).waiting →
                  q.seeksAs { w with anu := w.anu.request p.settings true .confirm })))

/-- R20, R21, R22: the probe race. A step counts; the step that reaches the probe travel, and the window that reaches its limit,
end the race with their outcome, and PCU's answer on the claimed draw and the position decides. A window's end that the clock has queued
belongs to the race in which it was reached: a race begun again since, whose counter has not come there, runs on (assumption 51, the
model's form). A REPLAN offers Release REPLAN on a line that is available, and a new plan blocks, or is sought (R66, R53). The node holds its draw, by the
invariant of the admission state. The model's choices: a REPLAN sets the last release outcome without the line too (assumption 12),
and the held draw is lowered, its ADJUST offered, before the Presence of CREEP entry is built (assumption 45). -/
def Obligations.ProbeRaceEnds : Prop :=
  ∀ s : State, s.inService → s.part.rsq.state = .probe → s.part.admissionFits →
    (s.part.rsq.probeTick = .running 0 ∨ .probeWindowExpiry ∉ s.announced →
      ∃ q, exec .probeWindowExpiry s = .next { s with part := q }
      ∧ match s.part.settings.probeReplan s.part.pcu.plan s.part.adu.admittedDraw s.part.liu.position .balanced with
        | .proceed needed retarget =>
            q.creepsAs needed (s.part.pcu.plan.retargeted retarget)
              { s.part with rsq := { s.part.rsq with probeWindow := s.part.settings.probeWindow } }
        | .replan => q.replansAs { s.part with rsq := { s.part.rsq with probeWindow := s.part.settings.probeWindow } })
    ∧ (∀ n, s.part.rsq.probeTick = .running (n + 1) → .probeWindowExpiry ∈ s.announced → exec .probeWindowExpiry s = .next s)
    ∧ ∀ d, ∃ q p, exec (.encoderStep d) s = .next { s with part := q }
      ∧ p = { s.part with
          pins := q.pins, liu := q.liu
          rsq := { s.part.rsq with
            probePulses := s.part.rsq.probePulses + 1
            probeNet := s.part.rsq.probeNet + (if d = .up then 1 else -1) } }
      ∧ q.liu.position = (if d = .up then min 65535 (s.part.liu.position + 1) else s.part.liu.position - 1)
      ∧ (p.rsq.probePulses < s.part.settings.probeTravel → q = p)
      ∧ (s.part.settings.probeTravel ≤ p.rsq.probePulses →
        ∀ outcome, outcome = (if 0 < p.rsq.probeNet then ProbeOutcome.observed .up
            else if p.rsq.probeNet < 0 then .observed .down else .balanced) →
        match p.settings.probeReplan p.pcu.plan p.adu.admittedDraw p.liu.position outcome with
        | .proceed needed retarget => q.creepsAs needed (p.pcu.plan.retargeted retarget) p
        | .replan => q.replansAs p)

/-- R46, R47, R48: PCU's answer to the probe outcome. That a FAVOURED plan ends in REPLAN also where motor(Dmin) is 0, by its row of
the table and not by the test on the figures, is the model's choice (assumption 50). -/
def Obligations.ProbeReplanTable : Prop :=
  ∀ (c : Settings) (plan : Plan) (claimed position : Nat) (d : Dir),
    let coast := max 1 ((c.baseDraw + c.frictionDraw + 49) / 50)
    let balanced := max 1 ((c.baseDraw + c.frictionDraw + c.motor c.balanceBand + 49) / 50)
    (plan.direction = some d → c.probeReplan plan claimed position (.observed d) = .proceed coast none)
    ∧ (plan.direction ≠ some d → ∀ t, c.candidate position d = some t →
        c.probeReplan plan claimed position (.observed d) = .proceed coast (some (d, t)))
    ∧ (plan.direction ≠ some d → c.candidate position d = none →
        ((plan.basis = .unknown
            ∨ ((plan.basis = .balanced ∨ plan.basis = .against) ∧ c.motor c.balanceBand ≤ plan.motorDraw)) →
          c.probeReplan plan claimed position (.observed d) = .proceed claimed none)
        ∧ ((plan.basis = .favoured
            ∨ ((plan.basis = .balanced ∨ plan.basis = .against) ∧ plan.motorDraw < c.motor c.balanceBand)) →
          c.probeReplan plan claimed position (.observed d) = .replan))
    ∧ (balanced ≤ claimed →
        c.probeReplan plan claimed position .balanced = .proceed balanced (c.eitherCandidate position))
    ∧ (claimed < balanced → c.probeReplan plan claimed position .balanced = .replan)

/-- R24, R25, R26, R23: a step in CREEP moves the three measurements; with no failure nothing else moves; the failure or arrival
taken first ends CREEP. Where several fall on one step any may be first (the free order, assumption 4). The model's choices in what
follows: the last release outcome without the line (assumption 12), the Presence of LEVEL built before the held draw is lowered
(assumption 31), the holding ended before the Presence of HALTED (assumption 36). -/
def Obligations.CreepStepSupervised : Prop :=
  ∀ (s : State) (d : Dir), s.inService → s.part.rsq.state = .creep →
    ∃ q p, exec (.encoderStep d) s = .next { s with part := q }
      ∧ p = { s.part with
          pins := q.pins, liu := q.liu
          rsq := { s.part.rsq with
            speedCount := s.part.rsq.speedCount + 1
            progressNet := s.part.rsq.progressNet + (if s.part.pcu.plan.direction = some d then 1 else -1)
            netReverse := if s.part.pcu.plan.direction = some d then s.part.rsq.netReverse - 1
              else s.part.rsq.netReverse + 1 } }
      ∧ q.liu.position = (if d = .up then min 65535 (s.part.liu.position + 1) else s.part.liu.position - 1)
      ∧ (p.creepFailures = [] → q = p)
      ∧ (p.creepFailures ≠ [] → ∃ e ∈ p.creepFailures, ∃ choices, ∀ p', p' = { p with choices := choices } →
          (e = .arrival → q.levelsAs p') ∧ (∀ cause, e = .failure cause → q.haltsAs cause p'))

/-- R18, R24, R25, R27, R28: the sequencer's timers. In WARN the gate fallback opens the gate when the voice is unavailable,
and is else remembered; in CREEP the brake timer, the progress window and the speed window; in LEVEL the level timer halts with BRAKE
and the standstill timer leads to DOORS, whose door timer halts with DOOR; with the doors already open DOORS ends at once in LANDED,
with Release LANDED and then the Presence with code 7 offered (R66, R90). The last release outcome without the line, and the
holding ended before the Presence of HALTED and LANDED, are the model's choices (assumptions 12, 36). -/
def Obligations.CreepWindowsAndStateTimersExpire : Prop :=
  (∀ s : State, s.inService → s.part.rsq.state = .warn → s.expires .gateFallbackExpiry s.part.rsq.gateTimer →
      ∃ q, exec .gateFallbackExpiry s = .next { s with part := q }
        ∧ (s.part.rsq.voiceUnavailable = true → q.probesAs s.part)
        ∧ (s.part.rsq.voiceUnavailable = false →
            q = { s.part with rsq := { s.part.rsq with gateTimer := .expired } }))
  ∧ (∀ s : State, s.inService → s.part.rsq.state = .creep →
      (s.expires .brakeTimerExpiry s.part.rsq.brakeTimer → ∃ q, exec .brakeTimerExpiry s = .next { s with part := q }
        ∧ (s.part.rsq.brakeSeen = false → q.haltsAs .brake s.part)
        ∧ (s.part.rsq.brakeSeen = true → q = { s.part with rsq := { s.part.rsq with brakeTimer := .stopped } }))
      ∧ (s.expires .progressWindowEnd s.part.rsq.progressTimer → ∃ q, exec .progressWindowEnd s = .next { s with part := q }
        ∧ (s.part.rsq.progressNet < s.part.settings.minProgress → q.haltsAs .progress s.part)
        ∧ ((s.part.settings.minProgress : Int) ≤ s.part.rsq.progressNet →
            q = { s.part with rsq := { s.part.rsq with progressTimer := .running 250000, progressNet := 0 } }))
      ∧ (s.expires .speedWindowEnd s.part.rsq.speedTimer → exec .speedWindowEnd s = .next { s with part := { s.part with
          rsq := { s.part.rsq with speedTimer := .running 25000, speedCount := 0 } } }))
  ∧ (∀ s : State, s.inService →
      (s.part.rsq.state = .level → s.expires .levelTimerExpiry s.part.rsq.levelTimer →
        ∃ q, exec .levelTimerExpiry s = .next { s with part := q } ∧ q.haltsAs .brake s.part)
      ∧ (s.part.rsq.state = .level → s.expires .standstillExpiry s.part.rsq.standstillTimer →
        ∃ q, exec .standstillExpiry s = .next { s with part := q } ∧ q.opensDoorsAs s.part)
      ∧ (s.part.rsq.state = .doors → s.expires .doorTimerExpiry s.part.rsq.doorTimer →
        ∃ q, exec .doorTimerExpiry s = .next { s with part := q } ∧ q.haltsAs .door s.part))

/-! ## The plan (chapter 2) -/

/-- R44: the fields of the key of every plan, and of every key recomputed in place, each in its range: the time field of a
recomputed key is the plan's time units, which for every plan made lie in 3..255; a plan has no key exactly when the position is
not valid. -/
def Obligations.PlanKeyFields : Prop :=
  (∀ (c : Settings) (i : PlanInputs),
    ((c.makePlan i).key = none ↔ i.valid = false)
    ∧ ∀ key, (c.makePlan i).key = some key →
      key.toNat / 2 ^ 23 = (if (c.makePlan i).occupied then 0 else 1)
        ∧ key.toNat / 2 ^ 20 % 8 = 7 - min 7 (i.waitSeconds / 60)
        ∧ key.toNat / 2 ^ 12 % 256 = min 255 (((c.makePlan i).timeEstimate + 1) / 2)
        ∧ key.toNat / 2 ^ 8 % 16 = (c.node.toNat + 15 - i.lastReleased.toNat) % 16
        ∧ key.toNat / 2 ^ 4 % 16 = 15 - min 15 i.refusals
        ∧ key.toNat % 16 = c.node.toNat
        ∧ ((c.makePlan i).occupied = true ↔ i.load = none ∨ ∃ l, i.load = some l ∧ c.occupancy ≤ l)
        ∧ (5 ≤ c.fixedTime →
            3 ≤ key.toNat / 2 ^ 12 % 256 ∧ 3 ≤ (c.makePlan i).timeUnits ∧ (c.makePlan i).timeUnits ≤ 255))
  ∧ ∀ p : Part, (p.pcu.loadOverride = true → p.planInputs.load = none)
    ∧ ∀ key, p.rekeyedPlan.key = some key →
      key.toNat / 2 ^ 23 = (if p.pcu.plan.occupied then 0 else 1)
        ∧ key.toNat / 2 ^ 20 % 8 = 7 - min 7 (p.pcu.waitSeconds / 60)
        ∧ (3 ≤ p.pcu.plan.timeUnits → p.pcu.plan.timeUnits ≤ 255 →
            key.toNat / 2 ^ 12 % 256 = p.pcu.plan.timeUnits
              ∧ 3 ≤ key.toNat / 2 ^ 12 % 256 ∧ key.toNat / 2 ^ 12 % 256 ≤ 255)
        ∧ key.toNat / 2 ^ 8 % 16 = (p.settings.node.toNat + 15 - p.pvw.lastReleased.toNat) % 16
        ∧ key.toNat / 2 ^ 4 % 16 = 15 - min 15 p.pcu.refusals
        ∧ key.toNat % 16 = p.settings.node.toNat

/-- R36 to R43: the steps of a plan in their order, with the draw, the target and the time that each gives; and the landings that
they look for: an eligible one within Z of the position (R37), the nearest eligible one beyond Z in a direction, and the nearer of the
two directions, down on equal distance (R38). -/
def Obligations.PlanFollowsItsSteps : Prop :=
  (∀ (c : Settings) (position : Nat),
    (∀ t, c.zoneLanding position = some t → c.hasLanding t ∧ t.away position ≤ c.halfWidth)
    ∧ (c.zoneLanding position = none ↔ ∀ t, c.hasLanding t → c.halfWidth < t.away position)
    ∧ (∀ d t, c.candidate position d = some t →
        c.hasLanding t ∧ t.beyond c.halfWidth position d
          ∧ ∀ u, c.hasLanding u → u.beyond c.halfWidth position d → t.away position ≤ u.away position)
    ∧ (∀ d, c.candidate position d = none ↔ ∀ t, c.hasLanding t → ¬ t.beyond c.halfWidth position d)
    ∧ (∀ t u, c.candidate position .down = some t → c.candidate position .up = some u →
        c.eitherCandidate position = if t.away position ≤ u.away position then some (.down, t) else some (.up, u))
    ∧ (∀ t, c.candidate position .down = some t → c.candidate position .up = none →
        c.eitherCandidate position = some (.down, t))
    ∧ (∀ u, c.candidate position .down = none → c.candidate position .up = some u →
        c.eitherCandidate position = some (.up, u))
    ∧ (c.candidate position .down = none → c.candidate position .up = none → c.eitherCandidate position = none))
  ∧ ∀ (c : Settings) (i : PlanInputs), ∀ plan, plan = c.makePlan i →
    let units (w : Nat) := max 1 ((w + 49) / 50)
    (i.valid = false → plan.kind = .motion ∧ plan.basis = .none ∧ plan.blockCause = .position ∧ plan.draw = 0)
    ∧ (i.valid = true → plan.levelDraw = units c.baseDraw
        ∧ (plan.draw ≤ c.drawCeiling ∧ plan.draw ≤ i.sEff → plan.blockCause = .none)
        ∧ (c.drawCeiling < plan.draw ∨ i.sEff < plan.draw → plan.blockCause = .infeasible))
    ∧ (∀ t, i.valid = true → c.zoneLanding i.position = some t →
        plan.kind = .zone ∧ plan.basis = .none ∧ plan.direction = none ∧ plan.target = t.index ∧ plan.level = t.level
          ∧ plan.motorDraw = 0 ∧ plan.totalDraw = some c.baseDraw ∧ plan.draw = units c.baseDraw
          ∧ plan.timeEstimate = c.fixedTime)
    ∧ (i.valid = true → c.zoneLanding i.position = none →
        plan.kind = .motion
          ∧ (i.load = none → plan.basis = .unknown ∧ plan.draw = c.drawCeiling ∧ plan.totalDraw = none
              ∧ plan.motorDraw = 0
              ∧ ∀ d t, c.eitherCandidate i.position = some (d, t) →
                  plan.direction = some d ∧ plan.target = t.index ∧ plan.level = t.level)
          ∧ (∀ l, i.load = some l → ∀ d, d = (c.carMass : Int) + l - c.counterMass →
              plan.totalDraw = some (c.baseDraw + c.frictionDraw + plan.motorDraw)
                ∧ plan.draw = units (c.baseDraw + c.frictionDraw + plan.motorDraw)
                ∧ (d = 0 ∨ d.natAbs < c.balanceBand → plan.basis = .balanced ∧ plan.motorDraw = c.motor c.balanceBand
                    ∧ ∀ d t, c.eitherCandidate i.position = some (d, t) →
                        plan.direction = some d ∧ plan.target = t.index ∧ plan.level = t.level)
                ∧ (d ≠ 0 → c.balanceBand ≤ d.natAbs →
                    ∀ dir, dir = (if 0 < d then Dir.down else .up) →
                      (∀ t, c.candidate i.position dir = some t →
                        plan.basis = .favoured ∧ plan.motorDraw = 0 ∧ plan.direction = some dir
                          ∧ plan.target = t.index ∧ plan.level = t.level)
                      ∧ (c.candidate i.position dir = none →
                        plan.basis = .against ∧ plan.motorDraw = c.motor d.natAbs
                          ∧ ∀ other, other = (if 0 < d then Dir.up else .down) →
                            ∀ t, c.candidate i.position other = some t →
                              plan.direction = some other ∧ plan.target = t.index ∧ plan.level = t.level)))
          ∧ plan.timeEstimate =
              (((plan.level - i.position) + (i.position - plan.level)) + c.creepSpeed - 1) / c.creepSpeed + c.fixedTime)
    ∧ ∀ m, c.motor m =
        (((m * c.creepSpeed * 981 + 99999) / 100000) * 100 + c.efficiency - 1) / c.efficiency

/-- R33, R45, R59, R87: a second of waiting counts, saturating at 65535, and restarts the timer. Where the wait class changes in
WAIT or BLOCKED the key is recomputed in place: a queued Claim is replaced, a Claim on the line is marked, and in DEFER a deferral
answer that turns from yes to no queues the Claim. -/
def Obligations.WaitSecondCounts : Prop :=
  ∀ s : State, s.working → s.expires .waitSecondsTimerExpiry s.part.pcu.waitTimer →
    ∃ q, exec .waitSecondsTimerExpiry s = .next { s with part := q }
      ∧ ∀ waited, waited = min 65535 (s.part.pcu.waitSeconds + 1) →
        (min 7 (waited / 60) = min 7 (s.part.pcu.waitSeconds / 60)
            ∨ s.part.rsq.state ≠ .wait ∧ s.part.rsq.state ≠ .blocked ∨ s.part.pcu.plan.key = none →
          q = { s.part with pcu := { s.part.pcu with waitSeconds := waited, waitTimer := .running 250000 } })
        ∧ (min 7 (waited / 60) ≠ min 7 (s.part.pcu.waitSeconds / 60) →
            s.part.rsq.state = .wait ∨ s.part.rsq.state = .blocked → s.part.pcu.plan.key ≠ none →
          q.rekeysAs { s.part with
            pcu := { s.part.pcu with waitSeconds := waited, waitTimer := .running 250000 } })

/-! ## Admission (chapter 3) -/

/-- R52, R54, R55, R56, R57: the retry timer and the deferral limit timer expire. In DEFER the queueing procedure runs: with the line
available a better-placed peer keeps the claim back, but not at the deferral limit; otherwise the Claim is offered. In QUEUED the
line is tested. Without the line a draw beyond the solo allowance blocks with LINE, and one within it is admitted solo: to WARN on a
motion plan, with MOVING and the gate fallback timer at 3 s (R18), to DOORS on a zone plan (R28). The line-stuck timer's expiry makes a line that LIF still reports STUCK unavailable; a queued
claim then starts the retry timer at 5 s, running or not (assumption 23, the model's choice). -/
def Obligations.AdmissionAndLineTimersExpire : Prop :=
  (∀ s : State, s.inService → s.part.rsq.state = .wait →
      ∀ key, s.part.pcu.plan.key = some key →
      (s.expires .retryTimerExpiry s.part.adu.retryTimer →
        ∃ q, exec .retryTimerExpiry s = .next { s with part := q }
          ∧ ∀ p, p = { s.part with adu := { s.part.adu with retryTimer := .stopped } } →
            (p.adu.state ∉ [AdmissionState.defer, .queued] → q = p)
            ∧ (p.adu.state = .queued → p.lineAvailable = true → q = p)
            ∧ (p.adu.state = .defer → p.lineAvailable = true → deferralAnswer (some key) p.pvw.records = true → q = p)
            ∧ (p.adu.state = .defer → p.lineAvailable = true → deferralAnswer (some key) p.pvw.records = false →
                q = { p with
                  adu := { p.adu with state := .queued, deferralTimer := .stopped }
                  fre := p.fre.offer (.claim key p.pcu.plan.draw) })
            ∧ (p.adu.state = .defer ∨ p.adu.state = .queued → p.lineAvailable = false → q.soloRuledAs p))
      ∧ (s.expires .deferralLimitExpiry s.part.adu.deferralTimer → s.part.adu.state = .defer →
        ∃ q, exec .deferralLimitExpiry s = .next { s with part := q }
          ∧ (s.part.lineAvailable = true →
              q = { s.part with
                adu := { s.part.adu with state := .queued, deferralTimer := .stopped }
                fre := s.part.fre.offer (.claim key s.part.pcu.plan.draw) })
          ∧ (s.part.lineAvailable = false → q.soloRuledAs s.part)))
  ∧ (∀ s : State, s.working → s.expires .lineStuckTimerExpiry s.part.adu.stuckTimer →
      ∃ q, exec .lineStuckTimerExpiry s = .next { s with part := q }
        ∧ q.adu = { s.part.adu with
            stuckTimer := .expired
            retryTimer := if s.part.lif.lineState = .stuck ∧ s.part.fre.duplicate = false ∧ s.part.adu.state = .queued
              then .running 1250000 else s.part.adu.retryTimer }
        ∧ (s.part.lif.lineState = .stuck → q.lineAvailable = false)
        ∧ q.sameOutside [.adu] s.part)

/-- R62, R71: no step of the machine, whatever the command, makes a node a holder over the line unless its draw and the draws of the
roll-call list together are within S_eff, and none makes it solo unless its draw is within the solo allowance and the line is
unavailable. -/
def Obligations.AdmissionWithinLimit : Prop :=
  ∀ s t : State, step s = .next t → s.part.adu.isHolder = false →
    (t.part.adu.state = .holder →
      t.part.adu.heldDraw = t.part.adu.admittedDraw
        ∧ t.part.adu.admittedDraw + (t.part.fre.list.map (·.2)).sum ≤ t.part.pvw.sEff.getD 0)
    ∧ (t.part.adu.state = .solo →
      t.part.adu.heldDraw = t.part.adu.admittedDraw ∧ t.part.adu.admittedDraw ≤ t.part.settings.soloAllowance
        ∧ t.part.lineAvailable = false)

/-! ## The peer view (chapter 4) -/

/-- R76, R85, R87: the last second before a record's age reaches 4 s is complete, and it is stale: S_eff becomes the smallest of the node's own S and the S echoes
of the records still fresh, and the mismatch flag follows them. A new S_eff is taken by the rescue (R42, R86, R17, R14): a waiting claim
beyond it is withdrawn to BLOCKED with INFEASIBLE, and a block with INFEASIBLE makes a new plan. A record that reaches 30 s is removed, and
S_eff stands. The deferral answer follows the records, and in DEFER its turn from yes to no queues the Claim; with both a new S_eff and a
turn the first is acted on first (assumption 46, the model's choice). A record that has been refreshed before its expiry is taken has not
reached the age, and stands. The deferral answer itself is yes exactly while a fresh record with code 5 has a lower key. -/
def Obligations.RecordsAge : Prop :=
  (∀ (own : Option Key) (records : List PeerRecord), deferralAnswer own records = true ↔
    ∃ k, own = some k ∧ ∃ r ∈ records, r.age < 4 ∧ r.stateCode = 5 ∧ ∃ peer, r.key = some peer ∧ peer.toNat < k.toNat)
  ∧ ∀ (s : State) (node : Node) (r : PeerRecord), s.working → s.part.recordsFit →
    recordOf node s.part.pvw.records = some r →
    (r.age = 3 → 250000 ≤ r.ageClock → ∃ q, exec (.recordStale node) s = .next { s with part := q }
      ∧ recordOf node q.pvw.records = some { r with age := 4, ageClock := 0 }
      ∧ (∀ m, m ≠ node → recordOf m q.pvw.records = recordOf m s.part.pvw.records)
      ∧ q.recordsFit
      ∧ (∃ limit, q.pvw.sEff = some limit ∧ limit ≤ s.part.settings.storeLimit
          ∧ (∀ p ∈ q.pvw.records, p.age < 4 → ∀ e, p.sEcho = some e → limit ≤ e)
          ∧ (limit = s.part.settings.storeLimit ∨ ∃ p ∈ q.pvw.records, p.age < 4 ∧ p.sEcho = some limit))
      ∧ (q.pvw.mismatch = true ↔
          ∃ p ∈ q.pvw.records, p.age < 4 ∧ ∃ e, p.sEcho = some e ∧ e ≠ s.part.settings.storeLimit)
      ∧ (s.part.lpc.committed = true → ∀ p, p = { s.part with pvw := q.pvw } →
          q.pvw.deferral = deferralAnswer q.pcu.plan.key q.pvw.records
          ∧ (q.pvw.sEff = s.part.pvw.sEff → s.part.adu.state ≠ .defer → q = p)
          ∧ (q.pvw.sEff ≠ s.part.pvw.sEff →
              (s.part.adu.state = .defer → s.part.rsq.state = .wait ∧ q.pvw.sEff.getD 0 < s.part.pcu.plan.draw) →
              s.part.adu.isHolder = false ∨ s.part.rsq.state ≠ .wait → q.limitTakenAs p)
          ∧ (s.part.adu.state = .defer → s.part.rsq.state = .wait → s.part.pcu.plan.draw ≤ q.pvw.sEff.getD 0 →
              q.answerTakenAs s.part.pvw.deferral p)))
    ∧ (r.age = 29 → 250000 ≤ r.ageClock → ∃ q, exec (.recordRemoved node) s = .next { s with part := q }
      ∧ recordOf node q.pvw.records = none
      ∧ (∀ m, m ≠ node → recordOf m q.pvw.records = recordOf m s.part.pvw.records)
      ∧ q.pvw.sEff = s.part.pvw.sEff ∧ q.pvw.mismatch = s.part.pvw.mismatch
      ∧ ∀ p, p = { s.part with pvw := q.pvw } →
          (s.part.adu.state ≠ .defer → q = p)
          ∧ (s.part.lpc.committed = true → s.part.adu.state = .defer → s.part.rsq.state = .wait →
              q.answerTakenAs s.part.pvw.deferral p))
    ∧ (r.age ≠ 3 ∨ r.ageClock < 250000 → exec (.recordStale node) s = .next s)
    ∧ (r.age ≠ 29 ∨ r.ageClock < 250000 → exec (.recordRemoved node) s = .next s)

/-- R78, R82, R83, R84: at its frame end a peer's frame is taken over its record; the rest of the record stands. R80, R81: at the frame
end of a clean window each entry of another node shows its node as a holder of its draw, and then the claimant is an inferred holder
exactly when its U and the sum of the list lie within the node's own S_eff as it then stands; a spoiled window leaves every record as it
was (R103); there the node is in no waiting state. With a claim waiting, a PRESENCE that brings a new S_eff is taken as by
R42 and R86, a RELEASE that moves the last-released node recomputes the key (R45, R84, R59), and a RELEASE or ADJUST is a retry trigger in
DEFER and a line test in QUEUED (R55, R57). The trigger and the view's own events are taken in either order (R55, assumption 4); a new
S_eff is acted on before a turn of the deferral answer (assumption 46, the model's choice). -/
def Obligations.PeerFrameUpdatesRecord : Prop :=
  (∀ (s : State) (f : Frame), s.listening → s.part.lpc.committed = true → s.part.recordsFit → s.part.fre.inFlight = none →
    s.part.lif.traffic = true → s.part.lif.filtered = false → 48 ≤ s.part.lif.samples → s.part.lif.lineState = .busy →
    s.part.fre.phase = .frame → s.part.fre.role = .receiver → s.part.fre.valid = some f →
    s.part.fre.report = none → s.part.lif.retry = .none → f.kind ≠ .claim →
    f.node ≠ s.part.settings.node →
    ∃ q, exec .frameEnd s = .next { s with part := q }
      ∧ (∀ m, m ≠ f.node → recordOf m q.pvw.records = recordOf m s.part.pvw.records)
      ∧ (∃ r, recordOf f.node q.pvw.records = some r ∧ r.age = 0
          ∧ ∀ old, old = (recordOf f.node s.part.pvw.records).getD (.blank f.node) →
            (∀ n body, f = .presence n body →
              r = { old with
                stateCode := body.code, sEcho := some body.storeLimit, draw := body.draw, key := body.key
                inferred := false, age := 0, ageClock := 0 })
            ∧ (∀ n d, f = .adjust n d →
              r.stateCode = 6 ∧ r.draw = some d ∧ r.key = none ∧ r.sEcho = old.sEcho
                ∧ r.lastOutcome = old.lastOutcome
                ∧ (old.stateCode = 6 → r.inferred = old.inferred) ∧ (old.stateCode ≠ 6 → r.inferred = true))
            ∧ (∀ o n, f = .release o n →
              r.draw = none ∧ r.key = none ∧ r.inferred = false ∧ r.lastOutcome = some o ∧ r.sEcho = old.sEcho
                ∧ r.stateCode = (match o with | .landed => 7 | .halted => 8 | .replan => 5 | .abandoned => 1)))
      ∧ q.pvw.lastReleased = (match f with | .release _ n => n | _ => s.part.pvw.lastReleased)
      ∧ (∀ n body, f = .presence n body →
          q.pvw.sEff = some (effectiveLimit s.part.settings.storeLimit q.pvw.records))
      ∧ q.lif = { s.part.lif with
          samples := 96, traffic := false, tx := none, lineState := .idle }
      ∧ q.pvw.deferral = deferralAnswer q.pcu.plan.key q.pvw.records
      ∧ q.fre.phase = .idle ∧ q.fre.role = .none ∧ q.fre.counters = s.part.fre.counters
      ∧ ∀ p, p = { s.part with pvw := q.pvw, lif := q.lif, fre := s.part.fre.afterTraffic } →
        ∀ calm : Part, calm = { q with choices := s.part.choices } →
        (s.part.rsq.state ≠ .wait → s.part.rsq.state ≠ .blocked → s.part.adu.state = .none → q = p)
        ∧ (f.kind = .presence →
          (q.pvw.sEff = s.part.pvw.sEff → s.part.adu.state ≠ .defer → q = p)
          ∧ (q.pvw.sEff ≠ s.part.pvw.sEff →
              (s.part.adu.state = .defer → s.part.rsq.state = .wait ∧ q.pvw.sEff.getD 0 < s.part.pcu.plan.draw) →
              s.part.adu.isHolder = false ∨ s.part.rsq.state ≠ .wait → q.limitTakenAs p)
          ∧ (s.part.adu.state = .defer → s.part.rsq.state = .wait → s.part.pcu.plan.draw ≤ q.pvw.sEff.getD 0 →
              q.answerTakenAs s.part.pvw.deferral p))
        ∧ (f.kind = .release ∨ f.kind = .adjust → isStale f.node s.part.pvw.records = false →
          let moves := f.kind = .release ∧ f.node ≠ s.part.pvw.lastReleased
            ∧ (s.part.rsq.state = .wait ∨ s.part.rsq.state = .blocked) ∧ s.part.pcu.plan.key ≠ none
          (s.part.adu.state ∉ [AdmissionState.defer, .queued] ∨ s.part.adu.state = .queued ∧ p.lineAvailable = true →
              (¬ moves → calm = p)
                ∧ (moves → calm.rekeysAs { p with pvw := { q.pvw with deferral := s.part.pvw.deferral } }))
          ∧ (s.part.adu.state = .defer → s.part.rsq.state = .wait → p.lineAvailable = true →
              s.part.pvw.deferral = deferralAnswer s.part.pcu.plan.key s.part.pvw.records →
              (¬ moves → calm.triggeredAs s.part.pvw.deferral p) ∧ (moves → calm.triggeredAs s.part.pvw.deferral p.rekeyed))
          ∧ (s.part.adu.state ∈ [AdmissionState.defer, .queued] → s.part.rsq.state = .wait → p.lineAvailable = false →
              p.settings.soloAllowance < p.pcu.plan.draw →
              q.rsq = p.rsq.rested .blocked .line false true ∧ q.adu.state = .none)))
  ∧ ∀ (s : State) (node : Node) (draw : Nat), s.listening → s.part.lpc.committed = true → s.part.recordsFit →
    s.part.rollCallFits → s.part.rsq.state ≠ .wait → s.part.rsq.state ≠ .blocked → s.part.adu.state = .none →
    s.part.lif.traffic = true → s.part.lif.filtered = false → 48 ≤ s.part.lif.samples → s.part.lif.lineState = .busy →
    s.part.fre.report = none → s.part.lif.retry = .none → node ≠ s.part.settings.node →
    s.part.fre.role = .listener ∨ s.part.fre.role = .responder ∨ s.part.fre.role = .receiver →
    s.part.fre.claimant = some (node, draw) → s.part.pvw.claim = some (node, draw) → s.part.fre.inResponse = false →
    s.part.fre.phase = .window ∨ s.part.fre.phase = .discard ∧ s.part.fre.windowAbandoned = true →
    ∃ q, exec .frameEnd s = .next { s with part := q }
      ∧ q.pvw.claim = none ∧ q.fre.phase = .idle ∧ q.fre.role = .none ∧ q.fre.queue = s.part.fre.queue
      ∧ q.sameOutside [.pvw, .fre, .lif] s.part
      ∧ (s.part.fre.phase = .discard →
          q.pvw = { s.part.pvw with claim := none })
      ∧ (s.part.fre.phase = .window →
          (∀ e ∈ s.part.fre.list, e.1 ≠ s.part.settings.node →
            ∀ old, old = (recordOf e.1 s.part.pvw.records).getD (.blank e.1) →
              recordOf e.1 q.pvw.records = some { old with
                draw := some e.2, key := none, age := 0, ageClock := 0, stateCode := 6
                inferred := if old.stateCode = 6 then old.inferred else true })
          ∧ (draw + (s.part.fre.list.map (·.2)).sum ≤ q.pvw.sEff.getD 0 →
              ∀ old, old = (recordOf node s.part.pvw.records).getD (.blank node) →
                recordOf node q.pvw.records =
                  some { old with stateCode := 6, draw := some draw, inferred := true, key := none })
          ∧ (q.pvw.sEff.getD 0 < draw + (s.part.fre.list.map (·.2)).sum →
              recordOf node q.pvw.records = recordOf node s.part.pvw.records)
          ∧ (∀ m, m ≠ node → m = s.part.settings.node ∨ (∀ e ∈ s.part.fre.list, e.1 ≠ m) →
              recordOf m q.pvw.records = recordOf m s.part.pvw.records)
          ∧ q.pvw.sEff =
              (if ∃ e ∈ s.part.fre.list, e.1 ≠ s.part.settings.node ∧ isStale e.1 s.part.pvw.records = true then
                some (effectiveLimit s.part.settings.storeLimit q.pvw.records)
              else s.part.pvw.sEff))

/-! ## The frame engine (chapter 5) -/

/-- R91, R92: what an offer does to a queue in order. The queue stays in order. With nothing of its kind in flight it holds the offered
frame with attempt count 0 as its one entry of the kind, whatever else is in flight; a RELEASE also removes a queued Claim and a queued
Adjust. An offer of the kind in flight is held against it, and a RELEASE holds the removal of a Claim or an Adjust in flight: that entry
stays as it is until its attempt ends; of two held, the later decides. At the end of the attempt a held replacement takes the entry's
place with attempt count 0, and a held removal removes it. Nothing else of the frame engine moves. -/
def Obligations.OfferKeepsOneEntryPerKind : Prop :=
  (∀ (r : Fre) (f : Frame), r.queue.Pairwise (fun a b => a.frame.kind.rank < b.frame.kind.rank) →
      ∀ flies : FrameKind → Prop, (∀ k, flies k ↔ ∃ x, r.inFlight = some x ∧ x.kind = k) →
      r.offer f = { r with queue := (r.offer f).queue, inFlight := (r.offer f).inFlight }
        ∧ (r.offer f).queue.Pairwise (fun a b => a.frame.kind.rank < b.frame.kind.rank)
        ∧ (∀ e, e ∈ (r.offer f).queue ↔
            (e = { frame := f, attempts := 0 } ∧ ¬ flies f.kind)
              ∨ (e ∈ r.queue ∧ (e.frame.kind = f.kind → flies f.kind)
                  ∧ (f.kind = .release → e.frame.kind = .claim ∨ e.frame.kind = .adjust → flies e.frame.kind)))
        ∧ (r.inFlight = none → (r.offer f).inFlight = none)
        ∧ ∀ x, r.inFlight = some x → (r.offer f).inFlight = some { x with
            held := if x.kind = f.kind then some (.replace f)
              else if f.kind = .release ∧ (x.kind = .claim ∨ x.kind = .adjust) then some .remove else x.held })
  ∧ ∀ (queue : List Entry) (f : Frame), queue.Pairwise (fun a b => a.frame.kind.rank < b.frame.kind.rank) →
      applyHeld f.kind none queue = queue
        ∧ (applyHeld f.kind (some (.replace f)) queue).Pairwise (fun a b => a.frame.kind.rank < b.frame.kind.rank)
        ∧ ∀ e, (e ∈ applyHeld f.kind (some (.replace f)) queue ↔
              e = { frame := f, attempts := 0 } ∨ (e ∈ queue ∧ e.frame.kind ≠ f.kind))
            ∧ (e ∈ applyHeld f.kind (some .remove) queue ↔ e ∈ queue ∧ e.frame.kind ≠ f.kind)

/-- R159, R98, R1: the receive tests take every frame that can be sent for itself, with every field of it. -/
def Obligations.SentFramePassesItsTests : Prop :=
  ∀ f : Frame, f.inRange = true → testFrame f.encode = .valid f

/-- R1: the check byte is the remainder of the bytes, taken as a polynomial over the integers modulo 2 and multiplied by x^8, by
x^8 + x^2 + x + 1; over "123456789" it is 0xF4; every frame ends with the check byte over the bytes before it, and an image passes
validation only with the check byte over its bytes 0 to 56 in byte 57. -/
def Obligations.CheckByteIsPolynomialRemainder : Prop :=
  (∀ bytes : List Byte,
    let poly (bits : List Bool) : Polynomial (ZMod 2) :=
      bits.foldl (fun p b => p * Polynomial.X + Polynomial.C (if b then 1 else 0)) 0
    (poly (bitsOfBytes bytes) * Polynomial.X ^ 8)
        %ₘ (Polynomial.X ^ 8 + Polynomial.X ^ 2 + Polynomial.X + 1)
      = poly (bitsOfByte (crc bytes)))
    ∧ crc [0x31, 0x32, 0x33, 0x34, 0x35, 0x36, 0x37, 0x38, 0x39] = 0xF4
    ∧ (∀ f : Frame, ∃ body, f.encode = body ++ [crc body])
    ∧ (∀ image : List Byte, validateImage image = none → byteAt image 57 = crc (image.take 57))

/-- R93, R90: the Presence timer runs on at 1 s, and except in PARKED a Presence built for the state as it stands is offered. -/
def Obligations.PresenceTimerOffers : Prop :=
  ∀ (s : State) (code : Nat), s.inService → s.expires .presenceTimerExpiry s.part.fre.presenceTimer →
    s.part.rsq.state.presenceCode = some code →
    exec .presenceTimerExpiry s = .next { s with part := { s.part with
      fre := if s.part.rsq.state = .parked then { s.part.fre with presenceTimer := .running 250000 }
        else ({ s.part.fre with presenceTimer := .running 250000 }).offer
          (s.part.presence code s.part.presenceDraw
            (if s.part.rsq.state = RescueState.wait then s.part.pcu.plan.key else none)
            (s.part.adu.state == AdmissionState.solo)) } }

/-- R94, R58: on an idle line, not LOST, with no DUPLICATE, an attempt starts with the first entry in queue order: it is in flight, the
node is its sender, the Opening of 12 LU is driven; the start of a Claim moves ADU from QUEUED to CLAIMING and stops its retry timer.
While any of the conditions fails, or an attempt is under way, nothing happens. -/
def Obligations.AttemptStartsOnIdleLine : Prop :=
  ∀ s : State, s.working →
    (∀ e rest, s.part.fre.queue = e :: rest → s.part.fre.duplicate = false → s.part.fre.inFlight = none →
      s.part.fre.phase = .idle → s.part.lif.lineState = .idle → s.part.lif.filtered = false →
      s.part.lif.traffic = false → 96 ≤ s.part.lif.samples → s.part.lif.loopRun = none →
      exec .attemptStart s = .next { s with part := { s.part with
        fre := { s.part.fre with inFlight := some { kind := e.frame.kind, held := none }, role := .sender }
        lif := { s.part.lif with
          lineState := .sending
          tx := some { source := .frame, bits := bitsOfBytes e.frame.encode, begun := 0, driving := true, driveAge := 0
                       shown := false, releaseDue := some 48, edgeDue := none } }
        adu := if e.frame.kind = .claim ∧ s.part.adu.state = .queued then
            { s.part.adu with state := .claiming, retryTimer := .stopped }
          else s.part.adu } })
    ∧ (s.part.fre.queue = [] ∨ s.part.fre.duplicate = true ∨ s.part.lif.lineState ≠ .idle ∨ s.part.lif.traffic = true
        ∨ s.part.lif.filtered = true ∨ s.part.fre.inFlight ≠ none ∨ s.part.lif.samples < 96 →
      exec .attemptStart s = .next s)

/-- R95, R102, R105, R113: arbitration is lost at a bit one of the node's own that finds the line driven. A frame's attempt ends lost, its
count unchanged, and the node goes on as a receiver; a response lost in its node byte is silent until the next slot; one lost in its
draw byte is a duplicate, and the node's last transmission is the error mark. -/
def Obligations.ArbitrationIsLost : Prop :=
  ∀ (s : State) (tx : Tx), s.working → s.part.lif.tx = some tx → 0 < tx.begun →
    tx.bits.getD (tx.begun - 1) false = true → s.part.lif.lineState = .sending ∨ s.part.lif.lineState = .busy →
    ∃ q, exec .arbitrationLoss s = .next { s with part := q }
      ∧ (∀ x, tx.source = .frame → s.part.fre.inFlight = some x →
          q.lif.tx = none ∧ q.lif.lineState = .busy ∧ q.lif.filtered = true ∧ q.lif.traffic = true
            ∧ q.fre = { s.part.fre with
                queue := applyHeld x.kind x.held s.part.fre.queue, inFlight := none, lostKind := some x.kind
                role := .receiver
                report := if x.kind = .claim then some .lost else s.part.fre.report
                counters := { s.part.fre.counters with
                  arbitration := min 255 (s.part.fre.counters.arbitration + 1) } }
            ∧ q.sameOutside [.fre, .lif, .pins] s.part)
      ∧ (tx.source = .response → tx.begun ≤ 8 →
          q.lif.tx = none ∧ q.fre = s.part.fre ∧ q.sameOutside [.lif, .pins] s.part)
      ∧ (tx.source = .response → 8 < tx.begun →
          q.fre.duplicate = true ∧ q.fre.phase = .discard ∧ q.lineAvailable = false
            ∧ q.lif.tx = some { source := .mark, bits := [], begun := 0, driving := true, driveAge := 0
                                shown := true, releaseDue := some 64, edgeDue := none }
            ∧ q.adu.heldDraw = s.part.adu.heldDraw ∧ q.sameOutside [.fre, .lif, .pins, .adu] s.part)

/-- R96, R113, R114, R117: a transmit symbol error and an echo failure in a frame of the queue. The node stops driving and discards; the
error's counter rises; the attempt count rises, and at 8 the entry is dropped; then an offer held against it is applied (R92); a Claim is
owed the report spoiled or dropped. A third echo failure in a row makes the line LOST and starts the retry timer at 10 s. An echo
check cannot fail while another node holds the line down: then nothing changes. In an error mark only the counts rise and the drive
ends; in a response the window is spoiled, and a holder marks it (assumption 17); in both the released phase is measured on (R111). That the traffic mark stands after a drive that never showed is the model's
choice (assumption 19). -/
def Obligations.FailedAttemptCounted : Prop :=
  (∀ (s : State) (tx : Tx) (x : InFlight) (e : Entry), s.working → s.part.queueFits →
    s.part.lif.tx = some tx → tx.source = .frame → s.part.fre.role = .sender → s.part.fre.inFlight = some x →
    e ∈ s.part.fre.queue → e.frame.kind = x.kind → s.part.lif.lineState = .sending → s.part.lif.echoRun ≤ 2 →
    ∀ c, (c = .transmitSymbolError ∨ c = .echoFailure ∧ tx.driving = true ∧ s.part.pins.lineOther = false) →
    ∃ q, exec c s = .next { s with part := q }
      ∧ q.lif.tx = none ∧ q.lif.traffic = true ∧ q.fre.phase = .discard ∧ q.fre.inFlight = none
      ∧ (e.attempts + 1 < 8 → q.fre.queue = applyHeld x.kind x.held (s.part.fre.queue.map fun y =>
          if y.frame.kind = x.kind then { y with attempts := y.attempts + 1 } else y))
      ∧ (8 ≤ e.attempts + 1 → q.fre.queue =
          applyHeld x.kind x.held (s.part.fre.queue.filter fun y => y.frame.kind != x.kind))
      ∧ q.fre.report = (if x.kind = .claim then some (if 8 ≤ e.attempts + 1 then .dropped else .spoiled)
          else s.part.fre.report)
      ∧ (c = .transmitSymbolError →
          q.fre.counters = { s.part.fre.counters with symbol := min 255 (s.part.fre.counters.symbol + 1) }
            ∧ q.lif.echoRun = s.part.lif.echoRun ∧ q.lif.lineState = .busy ∧ q.lif.filtered = true
            ∧ q.sameOutside [.fre, .lif, .pins] s.part)
      ∧ (c = .echoFailure →
          q.fre.counters = { s.part.fre.counters with echo := min 255 (s.part.fre.counters.echo + 1) }
            ∧ q.lif.echoRun = s.part.lif.echoRun + 1 ∧ q.lif.filtered = false ∧ q.lif.samples = 0
            ∧ (s.part.lif.echoRun < 2 → q.lif.lineState = .busy)
            ∧ (s.part.lif.echoRun = 2 →
                q.lif.lineState = .lost ∧ q.lif.lostTimer = .running 2500000 ∧ q.lineAvailable = false)
            ∧ q.sameOutside [.fre, .lif, .adu] s.part))
  ∧ (∀ s : State, s.part.pins.lineOther = true → exec .echoFailure s = .next s)
  ∧ (∀ (s : State) (tx : Tx), s.working → s.part.lif.tx = some tx → tx.source = .mark → tx.driving = true →
    s.part.pins.lineOther = false → s.part.lif.filtered = false → s.part.lif.echoRun < 2 →
    exec .echoFailure s = .next { s with part := { s.part with
      lif := { s.part.lif with tx := none, echoRun := s.part.lif.echoRun + 1 }
      fre := { s.part.fre with
        counters := { s.part.fre.counters with echo := min 255 (s.part.fre.counters.echo + 1) } } } })
  ∧ ∀ (s : State) (tx : Tx), s.working → s.part.lif.tx = some tx → tx.source = .response → tx.driving = true →
    s.part.pins.lineOther = false → s.part.lif.echoRun < 2 → s.part.fre.phase = .window → s.part.fre.role = .responder →
    s.part.lif.lineState = .busy →
    ∃ q, exec .echoFailure s = .next { s with part := q }
      ∧ q.fre.phase = .discard ∧ q.fre.windowAbandoned = true ∧ q.fre.queue = s.part.fre.queue
      ∧ q.fre.counters = { s.part.fre.counters with echo := min 255 (s.part.fre.counters.echo + 1) }
      ∧ (s.part.lif.filtered = false →
          q.lif = { s.part.lif with tx := q.lif.tx, echoRun := s.part.lif.echoRun + 1 })
      ∧ (s.part.lif.filtered = true → q.lif.filtered = false ∧ q.lif.samples = 0)
      ∧ q.lif.tx = (if s.part.adu.isHolder = true ∧ s.part.fre.duplicate = false then
          some { source := .mark, bits := [], begun := 0, driving := true, driveAge := 0, shown := false
                 releaseDue := some 64, edgeDue := none } else none)
      ∧ q.sameOutside [.fre, .lif] s.part

/-- R100, R110, R111, R103, R96, R104: a symbol error in a frame or a window in progress, whatever the node's role in it. The symbol
counter rises, FRE discards until the frame end. In its own frame, and in the window of its own Claim, the node's attempt ends with an
error: its count rises, at 8 the entry is dropped, and for a Claim the report spoiled, or dropped, is owed; the sender drives no mark. In
every other a holder that may send answers with the error mark of 16 LU, and the queue stands. -/
def Obligations.SymbolErrorDiscards : Prop :=
  ∀ (s : State) (e : SymbolFault), s.listening → e.wellFormed = true → s.part.lif.traffic = true →
    s.part.lif.lineState ≠ .held → s.part.lif.lineState ≠ .stuck →
    s.part.fre.phase = .frame ∨ s.part.fre.phase = .window →
    (∀ lu, e = .driven lu → s.part.lif.filtered = true ∧ s.part.lif.idleBefore = false ∧ 7 ≤ lu) →
    (∀ lu, e = .edge lu → s.part.lif.filtered = false) →
    ∃ q, exec (.lineSymbolError e) s = .next { s with part := q }
      ∧ q.givesUpAs true s.part
      ∧ q.fre.counters = { s.part.fre.counters with symbol := min 255 (s.part.fre.counters.symbol + 1) }
      ∧ (∀ lu, e = .driven lu → q.lif.filtered = false) ∧ (∀ lu, e = .edge lu → q.lif.filtered = true)
      ∧ q.sameOutside [.fre, .lif, .pins] s.part

/-- R98, R99, R101, R105, R97: the data end of a frame, released for 12 LU, of a node that receives it or has sent it. A failing test
counts its error and discards (R100): the node's own attempt ends with an error (R96, R104), and a holder that receives answers with the
error mark, except an unknown kind (assumption 15). A received frame with the node's own number is a duplicate; its own frame heard back
is not. A valid CLAIM opens its window with an empty list: a peer's with the peer as claimant, its record taking code 5 and the key (R79),
and the node as listener, or as responder with its held draw while it holds power and may drive (R102); the node's own with itself as
claimant and its U, the peer view untouched. Any other valid frame waits for its frame end. -/
def Obligations.DataEndTestsFrame : Prop :=
  ∀ s : State, s.listening → s.part.lpc.committed = true → s.part.lif.traffic = true → s.part.lif.filtered = false →
    s.part.lif.samples < 48 → s.part.lif.lineState ≠ .held → s.part.lif.lineState ≠ .stuck →
    s.part.fre.phase = .frame → s.part.fre.valid = none → s.part.fre.role = .receiver ∨ s.part.fre.role = .sender →
    ∃ q, exec .dataEnd s = .next { s with part := q }
      ∧ q.lif = { s.part.lif with samples := 48, tx := q.lif.tx, retry := q.lif.retry }
      ∧ (testBuffer s.part.fre.rx = .framing → q.givesUpAs true s.part ∧ q.sameOutside [.fre, .lif] s.part
          ∧ q.fre.counters = { s.part.fre.counters with framing := min 255 (s.part.fre.counters.framing + 1) })
      ∧ (testBuffer s.part.fre.rx = .check → q.givesUpAs true s.part ∧ q.sameOutside [.fre, .lif] s.part
          ∧ q.fre.counters = { s.part.fre.counters with check := min 255 (s.part.fre.counters.check + 1) })
      ∧ (testBuffer s.part.fre.rx = .unknownKind → q.givesUpAs false s.part ∧ q.sameOutside [.fre, .lif] s.part
          ∧ q.fre.counters = { s.part.fre.counters with unknownKind := min 255 (s.part.fre.counters.unknownKind + 1) })
      ∧ ∀ f, testBuffer s.part.fre.rx = .valid f →
        ∀ p, p = { s.part with lif := { s.part.lif with samples := 48, tx := none } } →
        (s.part.fre.role = .receiver → f.node = s.part.settings.node →
          q.fre.duplicate = true ∧ q.fre.phase = .discard ∧ q.fre.counters = s.part.fre.counters
            ∧ q.lineAvailable = false ∧ q.lif.tx = none)
        ∧ (s.part.fre.role = .sender ∨ f.node ≠ s.part.settings.node → f.kind ≠ .claim →
          q = { p with fre := { s.part.fre with valid := some f } })
        ∧ (∀ key draw, f = .claim key draw → s.part.fre.role = .sender →
          q = { p with fre := { s.part.fre with
            phase := .window, rx := .empty, inResponse := false, listed := false, list := []
            claimant := some (f.node, draw), role := .claimant, response := none } })
        ∧ (∀ key draw, f = .claim key draw → s.part.fre.role = .receiver → f.node ≠ s.part.settings.node →
          ∀ responds : Prop, (responds ↔ s.part.adu.isHolder = true ∧ s.part.lif.lineState ≠ .lost
              ∧ s.part.fre.duplicate = false) →
          (responds → q.fre.role = .responder ∧ q.fre.response = some (s.part.settings.node, s.part.adu.heldDraw))
            ∧ (¬ responds → q.fre.role = .listener ∧ q.fre.response = none)
            ∧ q.fre.phase = .window ∧ q.fre.list = [] ∧ q.fre.listed = false
            ∧ q.fre.claimant = some (f.node, draw) ∧ q.pvw.claim = some (f.node, draw)
            ∧ q.lif.tx = none ∧ q.lif.retry = s.part.lif.retry
            ∧ (s.part.recordsFit →
                (∀ old, old = (recordOf f.node s.part.pvw.records).getD (.blank f.node) →
                  recordOf f.node q.pvw.records = some { old with
                    stateCode := 5, key := some key, draw := none, inferred := false, age := 0, ageClock := 0 })
                ∧ ∀ m, m ≠ f.node → recordOf m q.pvw.records = recordOf m s.part.pvw.records))

/-- R101, R102: a holder hears a peer's CLAIM to its data end: it is a responder, its response the node's number and the held draw;
16 LU after the last driven phase it begins its node byte, for as long as it is not listed. An edge from 12 to 14 LU, taken as a
transmit symbol error of R113, spoils the window, and the holder marks it; that such an edge may also be taken by R101 is the free order of
assumption 33. -/
def Obligations.HolderAnswersRollCall : Prop :=
  ∀ s : State, s.listening → s.part.lpc.committed = true → s.part.lif.filtered = false → s.part.lif.lineState = .busy →
    s.part.fre.duplicate = false → s.part.adu.isHolder = true →
    (∀ key draw, s.part.lif.traffic = true → s.part.lif.samples < 48 →
      s.part.fre.phase = .frame → s.part.fre.valid = none → s.part.fre.role = .receiver →
      testBuffer s.part.fre.rx = .valid (.claim key draw) → (Frame.claim key draw).node ≠ s.part.settings.node →
      ∃ q, exec .dataEnd s = .next { s with part := q } ∧ q.fre.phase = .window ∧ q.fre.role = .responder
        ∧ q.fre.response = some (s.part.settings.node, s.part.adu.heldDraw) ∧ q.fre.listed = false
        ∧ q.fre.list = [])
    ∧ (∀ node draw, s.part.fre.phase = .window → s.part.fre.role = .responder → s.part.fre.inResponse = false →
      s.part.fre.response = some (node, draw) → s.part.lif.tx = none → 48 ≤ s.part.lif.samples →
      exec .responseStart s = .next { s with part :=
        if s.part.fre.listed then s.part
        else { s.part with lif := { s.part.lif with
          tx := some { source := .response, bits := bitsOfBytes [byte node.toNat, byte draw], begun := 1, driving := true
                       driveAge := 0, shown := false, releaseDue := none, edgeDue := none } } } })
    ∧ (s.part.lif.traffic = true → s.part.fre.phase = .window → s.part.fre.role = .responder → s.part.fre.listed = false →
      s.part.fre.inResponse = false → s.part.lif.tx = none → 48 ≤ s.part.lif.samples → s.part.lif.samples < 59 →
      ∃ q, exec .transmitSymbolError s = .next { s with part := q }
        ∧ q.fre.phase = .discard ∧ q.fre.windowAbandoned = true ∧ q.lif.filtered = true
        ∧ q.fre.counters = { s.part.fre.counters with symbol := min 255 (s.part.fre.counters.symbol + 1) }
        ∧ q.lif.tx = some { source := .mark, bits := [], begun := 0, driving := true, driveAge := 0, shown := true
                            releaseDue := some 64, edgeDue := none }
        ∧ q.sameOutside [.fre, .lif, .pins] s.part)

/-- R101, R103, R99, R97, R104: an edge after the data end, whatever the node's role. In a window, a peer's or the node's own, an edge from
14 to 18 LU starts a response while fewer than fifteen are listed; every other edge there, and every one after the data end of another
frame, is a framing error: FRE discards, the attempt of a sender or a claimant ends with an error, which for a Claim owes the report
spoiled or dropped, and a holder that receives answers with the error mark. The edge of the node's own response sets the due times of its
first bit (R112). -/
def Obligations.EdgeAfterDataEndJudged : Prop :=
  ∀ (s : State) (lu : Nat), s.listening → 12 ≤ lu → lu ≤ 23 → s.part.lif.traffic = true → s.part.lif.filtered = false →
    48 ≤ s.part.lif.samples → s.part.lif.lineState ∈ [LineState.busy, .sending, .lost] →
    ∃ q, exec (.edgeAfterDataEnd lu) s = .next { s with part := q }
      ∧ q.lif = { s.part.lif with
          integrator := 6, filtered := true, samples := 0, idleBefore := false, tx := q.lif.tx, retry := q.lif.retry }
      ∧ q.sameOutside [.fre, .lif, .pins] s.part
      ∧ (s.part.fre.phase = .window → 14 ≤ lu → lu ≤ 18 → s.part.fre.list.length < 15 →
          q.fre = { s.part.fre with inResponse := true, rx := .empty } ∧ q.lif.retry = s.part.lif.retry
            ∧ (s.part.lif.tx = none → q.lif.tx = none)
            ∧ (∀ t first rest, s.part.lif.tx = some t → t.source = .response → t.driving = true → t.begun = 1 →
                t.bits = first :: rest → rest ≠ [] →
                q.lif.tx = some { t with
                  shown := true, releaseDue := some (if first then 2 else 14), edgeDue := some 26 }))
      ∧ ((s.part.fre.phase = .window ∧ (lu < 14 ∨ 18 < lu ∨ 15 ≤ s.part.fre.list.length)) ∨ s.part.fre.phase = .frame →
          q.givesUpAs true s.part
            ∧ q.fre.counters = { s.part.fre.counters with framing := min 255 (s.part.fre.counters.framing + 1) })

/-- R101, R102, R103, R104, R105, R114, R62: a complete response of 16 bits in the window of a listener, a responder, or the claimant
itself. One that passes is appended to the list, which stays ascending and without the claimant, and which for the node's own Claim is the
list that is summed; the node's own response, sent whole, also sets its listed mark and clears the echo run. One that fails spoils the
window with a framing error: a claimant's attempt ends with an error and owes its report, and a holder answers with the error mark. One
with the node's own number that it has not sent is a duplicate, whatever its draw byte; it spoils the window and raises no counter
(assumption 16, the model's choice), and no mark answers it. -/
def Obligations.ResponseTakenIntoList : Prop :=
  ∀ (s : State) (nodeByte drawByte : Byte), s.working → s.part.lpc.committed = true → s.part.rollCallFits →
    s.part.lif.lineState ≠ .held → s.part.lif.lineState ≠ .stuck →
    s.part.fre.phase = .window → s.part.fre.inResponse = true →
    s.part.fre.rx = { bytes := [nodeByte, drawByte], current := 0, count := 0 } →
    ∀ sent : Bool, (sent = true ↔ ∃ t, s.part.lif.tx = some t ∧ t.source = .response ∧ t.begun = t.bits.length
      ∧ t.driving = false) →
    ∃ q, exec .rollCallResponse s = .next { s with part := q }
      ∧ (sent = false → nodeByte.toNat = s.part.settings.node.toNat →
          q.fre.duplicate = true ∧ q.fre.phase = .discard ∧ q.fre.windowAbandoned = true
            ∧ q.fre.counters = s.part.fre.counters ∧ q.fre.list = s.part.fre.list ∧ q.lif.tx = none
            ∧ q.lineAvailable = false
            ∧ (s.part.fre.role = .claimant → s.part.fre.lostKind = none → q.attemptFailsAs s.part))
      ∧ (sent = true ∨ nodeByte.toNat ≠ s.part.settings.node.toNat →
          ∀ p, p = { s.part with
            fre := { s.part.fre with listed := s.part.fre.listed || sent }
            lif := { s.part.lif with echoRun := if sent then 0 else s.part.lif.echoRun } } →
          (nodeByte.toNat ≤ 15 ∧ 1 ≤ drawByte.toNat ∧ (∀ e ∈ s.part.fre.list, e.1.toNat < nodeByte.toNat)
              ∧ (∀ c, s.part.fre.claimant = some c → c.1.toNat ≠ nodeByte.toNat) →
            q = { p with fre := { p.fre with
              list := s.part.fre.list ++ [(BitVec.ofNat 4 nodeByte.toNat, drawByte.toNat)], rx := .empty
              inResponse := false } }
              ∧ q.rollCallFits)
          ∧ (15 < nodeByte.toNat ∨ drawByte.toNat = 0 ∨ (∃ e ∈ s.part.fre.list, nodeByte.toNat ≤ e.1.toNat)
              ∨ (∃ c, s.part.fre.claimant = some c ∧ c.1.toNat = nodeByte.toNat) →
            q.givesUpAs true p ∧ q.sameOutside [.fre, .lif] s.part
              ∧ q.lif = { p.lif with tx := q.lif.tx, retry := q.lif.retry }
              ∧ q.fre.counters = { s.part.fre.counters with framing := min 255 (s.part.fre.counters.framing + 1) }))

/-- R62, R63, R104, R97: the node's own Claim has been heard back and its window ends without fault. The entry leaves the queue, the echo
run is cleared, and ADU sums: within S_eff the node is a holder of U and the rescue goes on from WAIT, on a motion plan to WARN with MOVING and the gate fallback timer
at 3 s, on a zone plan to DOORS (R16, R18, R28); beyond it the claim is refused, the
refusal counts, PCU recomputes the key with it (R34, R45), and ADU defers with both timers started. The records of the responders are known and fresh, so S_eff stands. A claim
withdrawn meanwhile is answered with Release ABANDONED within S_eff, and with NONE beyond it, in every state RSQ may have gone to (R69);
with a seek pending the node then claims again (R70). The U summed is that of the CLAIM
(assumption 26), and nothing of the key recomputed at the refusal is queued in the same step (assumption 22): the model's choices. -/
def Obligations.OwnClaimDecidedBySum : Prop :=
  (∀ (s : State) (node : Node) (draw : Nat), s.listening → s.part.lpc.committed = true →
    s.part.lif.traffic = true → s.part.lif.filtered = false → 48 ≤ s.part.lif.samples →
    s.part.lif.lineState = .busy ∨ s.part.lif.lineState = .sending → s.part.lif.retry = .none →
    s.part.fre.phase = .window → s.part.fre.role = .claimant → s.part.fre.inResponse = false →
    s.part.fre.inFlight = some { kind := .claim, held := none } → s.part.fre.report = none →
    s.part.fre.claimant = some (node, draw) → s.part.pvw.claim = none → s.part.adu.state = .claiming →
    s.part.adu.withdrawn = false → s.part.rsq.state = .wait →
    (∀ e ∈ s.part.fre.list, isStale e.1 s.part.pvw.records = false) →
    ∃ q, exec .frameEnd s = .next { s with part := q }
      ∧ q.fre.inFlight = none ∧ q.fre.phase = .idle ∧ q.fre.role = .none ∧ q.lif.echoRun = 0 ∧ q.lif.lineState = .idle
      ∧ (∀ e ∈ q.fre.queue, e.frame.kind ≠ .claim)
      ∧ (draw + (s.part.fre.list.map (·.2)).sum ≤ s.part.pvw.sEff.getD 0 →
          ∃ b : Part, q = { b with fre := b.fre.afterTraffic }
            ∧ b.admittedAs { s.part with
                adu := { s.part.adu with
                  state := .holder, heldDraw := draw, admittedDraw := draw, retryTimer := .stopped
                  deferralTimer := .stopped, pendingKey := false }
                pvw := q.pvw, lif := q.lif
                fre := { s.part.fre with
                  queue := s.part.fre.queue.filter fun e => e.frame.kind != .claim, inFlight := none } })
      ∧ (s.part.pvw.sEff.getD 0 < draw + (s.part.fre.list.map (·.2)).sum →
          q.adu.state = .defer ∧ q.adu.heldDraw = s.part.adu.heldDraw ∧ q.adu.retryTimer = .running 1250000
            ∧ q.adu.deferralTimer = .running 2500000
            ∧ q.pcu.refusals = min 15 (s.part.pcu.refusals + 1) ∧ q.rsq = s.part.rsq ∧ q.adu.pendingKey = false
            ∧ (∀ old, s.part.pcu.plan.key = some old →
                q.pcu = { s.part.pcu with
                  refusals := min 15 (s.part.pcu.refusals + 1)
                  plan := { s.part.pcu.plan with
                    key := some (composeKey s.part.pcu.plan.occupied s.part.pcu.waitSeconds s.part.pcu.plan.timeUnits
                      s.part.settings.node s.part.pvw.lastReleased (min 15 (s.part.pcu.refusals + 1))) } })
            ∧ (s.part.pcu.plan.key = none → q.pcu.plan = s.part.pcu.plan)))
  ∧ ∀ (s : State) (node : Node) (draw : Nat), s.listening → s.part.lpc.committed = true →
    s.part.lif.traffic = true → s.part.lif.filtered = false → 48 ≤ s.part.lif.samples →
    s.part.lif.lineState = .busy ∨ s.part.lif.lineState = .sending → s.part.lif.retry = .none →
    s.part.fre.duplicate = false → s.part.fre.phase = .window → s.part.fre.role = .claimant →
    s.part.fre.inResponse = false → s.part.fre.inFlight = some { kind := .claim, held := none } →
    s.part.fre.report = none → s.part.fre.claimant = some (node, draw) → s.part.pvw.claim = none →
    s.part.adu.state = .claiming → s.part.adu.withdrawn = true →
    (∀ e ∈ s.part.fre.list, isStale e.1 s.part.pvw.records = false) →
    ∃ q, exec .frameEnd s = .next { s with part := q }
      ∧ q.adu.withdrawn = false ∧ q.adu.pendingKey = false ∧ q.adu.pendingSeek = false ∧ q.lif.echoRun = 0
      ∧ (draw + (s.part.fre.list.map (·.2)).sum ≤ s.part.pvw.sEff.getD 0 →
          q.adu.heldDraw = 0 ∧ q.adu.admittedDraw = 0 ∧ q.adu.lastRelease = some .abandoned
            ∧ { frame := .release .abandoned s.part.settings.node, attempts := 0 } ∈ q.fre.queue)
      ∧ (s.part.pvw.sEff.getD 0 < draw + (s.part.fre.list.map (·.2)).sum →
          q.adu.heldDraw = s.part.adu.heldDraw ∧ q.adu.lastRelease = s.part.adu.lastRelease)
      ∧ (s.part.adu.pendingSeek = false →
          q.adu.state = .none ∧ ∀ e ∈ q.fre.queue, e.frame.kind ≠ .claim)
      ∧ (∀ key, s.part.adu.pendingSeek = true → s.part.pcu.plan.key = some key →
          (deferralAnswer (some key) q.pvw.records = true →
              q.adu.state = .defer ∧ q.adu.deferralTimer = .running 2500000)
          ∧ (deferralAnswer (some key) q.pvw.records = false →
              q.adu.state = .queued ∧ { frame := .claim key s.part.pcu.plan.draw, attempts := 0 } ∈ q.fre.queue))
      ∧ q.sameOutside [.adu, .pvw, .fre, .lif] s.part

/-- R97, R84, R114: the node's own RELEASE, ADJUST or PRESENCE has been heard back valid, and its frame end comes with no edge: the entry
leaves the queue, a held offer joins it, the echo run is cleared, and the node's own RELEASE moves the last-released node; in WAIT or
BLOCKED that change recomputes the key, and a queued Claim is replaced by one with it (R45, R59). R58, R60,
R61, R104: the report owed for a Claim that was lost, spoiled or dropped is given at the frame end: QUEUED again, with a pending key
offered and the retry timer started where the line is then unavailable, or DEFER with both timers. R69, R70: with the withdrawn mark set
the claim ends in NONE, and a pending seek claims again. Where the traffic was discarded nothing is handed on beside the report. At the
clean frame end of a peer's frame that won the line the frame is handed on, and the report lost is given after it (assumption 40, the
model's choice): a key that the frame's RELEASE recomputes is then the key of the Claim that is queued again. -/
def Obligations.OwnFrameAndReportsAtFrameEnd : Prop :=
  (∀ (s : State) (f : Frame) (x : InFlight), s.listening → s.part.lpc.committed = true → s.part.lif.traffic = true →
    s.part.lif.filtered = false → 48 ≤ s.part.lif.samples → s.part.lif.lineState = .sending → s.part.lif.retry = .none →
    s.part.fre.phase = .frame → s.part.fre.role = .sender → s.part.fre.valid = some f → s.part.fre.report = none →
    f.kind ≠ .claim → s.part.fre.inFlight = some x → x.kind = f.kind →
    ∃ q, exec .frameEnd s = .next { s with part := q }
      ∧ q.lif = { s.part.lif with samples := 96, traffic := false, tx := none, lineState := .idle, echoRun := 0 }
      ∧ q.pvw.records = s.part.pvw.records
      ∧ q.pvw.lastReleased = (if f.kind = .release then s.part.settings.node else s.part.pvw.lastReleased)
      ∧ ∀ p, p = { s.part with
            lif := q.lif
            pvw := { s.part.pvw with lastReleased := q.pvw.lastReleased }
            fre := { s.part.fre.afterTraffic with
              queue := applyHeld x.kind x.held (s.part.fre.queue.filter fun e => e.frame.kind != f.kind) } } →
          (f.kind ≠ .release ∨ s.part.pvw.lastReleased = s.part.settings.node
              ∨ s.part.rsq.state ≠ .wait ∧ s.part.rsq.state ≠ .blocked ∨ s.part.pcu.plan.key = none → q = p)
          ∧ (f.kind = .release → s.part.pvw.lastReleased ≠ s.part.settings.node →
              s.part.rsq.state = .wait ∨ s.part.rsq.state = .blocked → s.part.pcu.plan.key ≠ none → q.rekeysAs p))
  ∧ (∀ (s : State) (report : PendingReport), s.listening → s.part.lpc.committed = true → s.part.lif.traffic = true →
    s.part.lif.filtered = false → 48 ≤ s.part.lif.samples →
    s.part.lif.lineState ∈ [LineState.busy, .sending, .held, .lost] → s.part.lif.retry = .none →
    s.part.fre.phase = .discard → s.part.fre.report = some report → s.part.adu.state = .claiming →
    ∃ q, exec .frameEnd s = .next { s with part := q }
      ∧ q.fre.phase = .idle ∧ q.fre.report = none ∧ q.fre.inFlight = none
      ∧ ∀ available : Bool, available = (s.part.lif.lineState != .lost && !s.part.fre.duplicate) →
        (s.part.adu.withdrawn = false → report = .lost ∨ report = .spoiled →
          q.adu = { s.part.adu with
            state := .queued, pendingKey := false
            retryTimer := if available then s.part.adu.retryTimer else .running 1250000 }
          ∧ (s.part.adu.pendingKey = false → q.fre.queue = s.part.fre.queue)
          ∧ (∀ key, s.part.adu.pendingKey = true → s.part.pcu.plan.key = some key →
              { frame := .claim key s.part.pcu.plan.draw, attempts := 0 } ∈ q.fre.queue)
          ∧ q.sameOutside [.adu, .pvw, .fre, .lif] s.part)
        ∧ (s.part.adu.withdrawn = false → report = .dropped →
          q.adu = { s.part.adu with
            state := .defer, pendingKey := false, deferralTimer := .running 2500000, retryTimer := .running 1250000 }
          ∧ (∀ e ∈ q.fre.queue, e.frame.kind ≠ .claim) ∧ q.sameOutside [.adu, .pvw, .fre, .lif] s.part)
        ∧ (s.part.adu.withdrawn = true → s.part.adu.pendingSeek = false →
          q.adu = { s.part.adu with state := .none, withdrawn := false, pendingKey := false, retryTimer := .stopped }
          ∧ q.fre.queue = (s.part.fre.queue.filter fun e => e.frame.kind != .claim)
          ∧ q.sameOutside [.adu, .pvw, .fre, .lif] s.part)
        ∧ (∀ key, s.part.adu.withdrawn = true → s.part.adu.pendingSeek = true → available = true →
          s.part.pcu.plan.key = some key →
          q.adu.withdrawn = false ∧ q.adu.pendingSeek = false
          ∧ (deferralAnswer (some key) s.part.pvw.records = true →
              q.adu.state = .defer ∧ q.adu.deferralTimer = .running 2500000)
          ∧ (deferralAnswer (some key) s.part.pvw.records = false →
              q.adu.state = .queued ∧ { frame := .claim key s.part.pcu.plan.draw, attempts := 0 } ∈ q.fre.queue)))
  ∧ ∀ (s : State) (f : Frame), s.listening → s.part.lpc.committed = true → s.part.lif.traffic = true →
    s.part.lif.filtered = false → 48 ≤ s.part.lif.samples → s.part.lif.lineState = .busy → s.part.lif.retry = .none →
    s.part.fre.phase = .frame → s.part.fre.role = .receiver → s.part.fre.valid = some f → f.kind ≠ .claim →
    f.node ≠ s.part.settings.node → s.part.fre.report = some .lost → s.part.adu.state = .claiming →
    ∃ q, exec .frameEnd s = .next { s with part := q }
      ∧ q.fre.phase = .idle ∧ q.fre.report = none ∧ q.fre.inFlight = none ∧ q.lif.lineState = .idle
      ∧ (∃ r, recordOf f.node q.pvw.records = some r ∧ r.age = 0 ∧ r.ageClock = 0)
      ∧ q.pvw.lastReleased = (match f with | .release _ n => n | _ => s.part.pvw.lastReleased)
      ∧ (q.pvw.sEff = s.part.pvw.sEff →
          s.part.adu.withdrawn = false ∨ s.part.adu.pendingSeek = false ∨ s.part.fre.duplicate = false →
          let moves := f.kind = .release ∧ f.node ≠ s.part.pvw.lastReleased
            ∧ (s.part.rsq.state = .wait ∨ s.part.rsq.state = .blocked) ∧ s.part.pcu.plan.key ≠ none
          q.pcu.plan.key = (if moves then some (composeKey s.part.pcu.plan.occupied s.part.pcu.waitSeconds
              s.part.pcu.plan.timeUnits s.part.settings.node f.node s.part.pcu.refusals) else s.part.pcu.plan.key)
          ∧ q.pcu = { s.part.pcu with plan := { s.part.pcu.plan with key := q.pcu.plan.key } }
          ∧ (s.part.adu.withdrawn = false →
              q.adu = { s.part.adu with
                state := .queued, pendingKey := false
                retryTimer := if s.part.fre.duplicate then .running 1250000 else s.part.adu.retryTimer }
              ∧ (s.part.adu.pendingKey = false → ¬ moves → q.fre.queue = s.part.fre.queue)
              ∧ (∀ key, s.part.adu.pendingKey = true ∨ moves → q.pcu.plan.key = some key →
                  { frame := .claim key s.part.pcu.plan.draw, attempts := 0 } ∈ q.fre.queue)
              ∧ q.sameOutside [.pcu, .adu, .pvw, .fre, .lif, .choices] s.part)
          ∧ (s.part.adu.withdrawn = true → s.part.adu.pendingSeek = false →
              q.adu = { s.part.adu with state := .none, withdrawn := false, pendingKey := false, retryTimer := .stopped }
              ∧ q.fre.queue = (s.part.fre.queue.filter fun e => e.frame.kind != .claim)
              ∧ q.sameOutside [.pcu, .adu, .pvw, .fre, .lif, .choices] s.part)
          ∧ (∀ key, s.part.adu.withdrawn = true → s.part.adu.pendingSeek = true → q.pcu.plan.key = some key →
              q.adu.withdrawn = false ∧ q.adu.pendingSeek = false
              ∧ (deferralAnswer (some key) q.pvw.records = true →
                  q.adu.state = .defer ∧ q.adu.deferralTimer = .running 2500000)
              ∧ (deferralAnswer (some key) q.pvw.records = false →
                  q.adu.state = .queued ∧ { frame := .claim key s.part.pcu.plan.draw, attempts := 0 } ∈ q.fre.queue)
              ∧ q.sameOutside [.pcu, .adu, .pvw, .fre, .lif, .choices] s.part))

/-! ## The line interface (chapter 6) -/

/-- R116, R117, R52: a driven phase of 40 LU holds the line: the traffic in progress is abandoned with a framing error and no mark, and
nothing is driven by the node's frame any more. One of 160 LU makes a held line STUCK and starts ADU's line-stuck timer at 2 s. In LOST
the state stays LOST. -/
def Obligations.LongDrivenPhaseHoldsLine : Prop :=
  ∀ s : State, s.listening → s.part.lif.filtered = true →
    (s.part.lif.lineState ∈ [LineState.idle, .busy, .sending, .lost] →
      ∃ q, exec .lineHeld s = .next { s with part := q }
        ∧ q.lif.lineState = (if s.part.lif.lineState = .lost then .lost else .held)
        ∧ q.lif.samples = max 160 s.part.lif.samples
        ∧ (s.part.fre.phase = .frame ∨ s.part.fre.phase = .window →
            q.fre.phase = .discard ∧ q.lif.tx = none
              ∧ q.fre.counters = { s.part.fre.counters with framing := min 255 (s.part.fre.counters.framing + 1) })
        ∧ (s.part.fre.phase = .idle ∨ s.part.fre.phase = .discard → s.part.fre.isSender = false →
            q.fre = s.part.fre)
        ∧ q.sameOutside [.fre, .lif, .pins] s.part)
    ∧ (s.part.lif.lineState = .held →
      exec .lineStuck s = .next { s with part := { s.part with
        lif := { s.part.lif with lineState := .stuck, samples := max 640 s.part.lif.samples }
        adu := { s.part.adu with stuckTimer := .running 500000 }
        pins := { s.part.pins with lineOther := s.part.pins.lineOther || !s.part.lif.drives } } })

/-- R110, R98: the end of a driven phase on a line in traffic is a bit one of 1 to 3 LU or a bit zero of 4 to 6 LU, taken into the byte in
progress, most significant bit first: it becomes the least significant of the bits held, and the eighth completes the byte. On a line that was idle a phase of 10 to 14 LU is an Opening, and starts a frame; any other shorter than 40 LU is
a stray symbol, a frame that failed at its first symbol: the symbol counter rises, FRE discards until the frame end, and a holder that
may send drives its mark (assumption 18). A phase of 40 LU or more is not classified. -/
def Obligations.DrivenPhaseClassified : Prop :=
  (∀ (rx : RxBuffer) (bit : Bool),
    (rx.count < 7 → rx.take bit = { rx with
      current := BitVec.ofNat 8 (2 * rx.current.toNat + if bit then 1 else 0), count := rx.count + 1 })
    ∧ (rx.count = 7 → rx.take bit = {
      bytes := rx.bytes ++ [BitVec.ofNat 8 (2 * rx.current.toNat + if bit then 1 else 0)], current := 0, count := 0 }))
  ∧ (∀ (rx : RxBuffer) (b : Byte), rx.count = 0 → rx.current = 0 →
    [7, 6, 5, 4, 3, 2, 1, 0].foldl (fun r i => r.take (b.getLsbD i)) rx = { rx with bytes := rx.bytes ++ [b] })
  ∧ ∀ (s : State) (lu : Nat), s.listening → 1 ≤ lu → s.part.lif.filtered = true →
    s.part.lif.lineState = .busy ∨ s.part.lif.lineState = .sending ∨ s.part.lif.lineState = .lost →
    ∃ q, exec (.classifiedSymbol lu) s = .next { s with part := q }
      ∧ q.lif = { s.part.lif with
          integrator := 0, filtered := false, samples := 0, tx := q.lif.tx, retry := q.lif.retry }
      ∧ (s.part.lif.idleBefore = false → lu ≤ 6 → s.part.fre.phase = .frame → s.part.fre.valid = none →
          s.part.fre.rx.bytes.length < 12 →
          q.fre = { s.part.fre with rx := s.part.fre.rx.take (decide (lu ≤ 3)) })
      ∧ (s.part.lif.idleBefore = true → 10 ≤ lu → lu ≤ 14 →
          q.fre = { s.part.fre with
            phase := .frame, rx := .empty, valid := none
            role := if s.part.fre.role = .sender then .sender else .receiver })
      ∧ (s.part.lif.idleBefore = false → 10 ≤ lu → lu ≤ 14 → s.part.fre.phase = .frame →
          q.fre.phase = .discard
            ∧ q.fre.counters = { s.part.fre.counters with framing := min 255 (s.part.fre.counters.framing + 1) })
      ∧ (s.part.lif.idleBefore = true → lu < 10 ∨ 14 < lu → lu < 40 → s.part.fre.phase = .idle → s.part.fre.isSender = false →
          q.fre = { s.part.fre with
              phase := .discard, rx := .empty, valid := none, inResponse := false, role := .receiver
              counters := { s.part.fre.counters with symbol := min 255 (s.part.fre.counters.symbol + 1) } }
            ∧ q.lif.tx = (if s.part.adu.isHolder = true ∧ s.part.fre.duplicate = false ∧ s.part.lif.lineState ≠ .lost then
                some { source := .mark, bits := [], begun := 0, driving := true, driveAge := 0, shown := false
                       releaseDue := some 64, edgeDue := none } else none)
            ∧ exec (.lineSymbolError (.driven lu)) s = .next { s with part := q })
      ∧ (40 ≤ lu → q.fre = s.part.fre)
      ∧ q.sameOutside [.fre, .lif, .pins] s.part

/-- R112, R115, R119: an edge on an idle line begins a driven phase, and IDLE becomes BUSY; and the due time of LIF's own next edge or
release: an error mark ends, another drive is released, or the next bit begins. A due time that the clock has queued is that of the symbol
then in progress: an error mark, or another drive, begun since is held to its own release (assumption 51, the model's form). -/
def Obligations.LineEdgesAndDueTimes : Prop :=
  ∀ s : State, s.working →
    (s.part.lif.loopRun = none → s.part.lif.traffic = false → s.part.lif.filtered = false → s.part.lif.tx = none →
      exec .idleLineDriven s = .next { s with part := { s.part with
        lif := { s.part.lif with
          integrator := 6, filtered := true, samples := 0, idleBefore := true, traffic := true
          lineState := if s.part.lif.lineState = .idle then .busy else s.part.lif.lineState }
        pins := { s.part.pins with lineOther := true } } })
    ∧ (∀ tx, s.part.lif.tx = some tx →
      tx.releaseDue = some 0 ∨ tx.edgeDue = some 0 ∨ .symbolDueTime ∉ s.announced →
      (tx.driving = true → tx.source = .mark →
        exec .symbolDueTime s = .next { s with part := { s.part with lif := { s.part.lif with tx := none } } })
      ∧ (tx.driving = true → tx.source ≠ .mark →
        exec .symbolDueTime s = .next { s with part := { s.part with
          lif := { s.part.lif with tx := some { tx with driving := false, driveAge := 0, releaseDue := none } } } })
      ∧ (tx.driving = false → tx.begun < tx.bits.length →
        exec .symbolDueTime s = .next { s with part := { s.part with
          lif := { s.part.lif with
            tx := some { tx with
              driving := true, begun := tx.begun + 1, driveAge := 0, shown := s.part.lif.filtered
              edgeDue := none } } } }))
    ∧ (∀ tx, s.part.lif.tx = some tx → tx.releaseDue ≠ some 0 → tx.edgeDue ≠ some 0 → .symbolDueTime ∈ s.announced →
      exec .symbolDueTime s = .next s)

/-- R118, R90: in LOST the retry timer's expiry waits for an idle line, unless DUPLICATE is recorded; on an idle line the node then sends a
Presence built from its state, which is no entry of the queue. Heard back clean to its frame end, it makes the line IDLE with the echo
run 0 and the timer stopped; ended with an error, the timer restarts at 10 s at that frame end. Where the line recovers, and where a STUCK
line whose line-stuck timer has expired is released for 24 LU, a node blocked with LINE makes a new plan (R52, R14, R116); in every other
state nothing more moves. -/
def Obligations.LostLineIsRetried : Prop :=
  (∀ (s : State) (code : Nat), s.inService → s.part.lif.lineState = .lost →
    (s.expires .lostRetryTimerExpiry s.part.lif.lostTimer →
      exec .lostRetryTimerExpiry s = .next { s with part := { s.part with
        lif := { s.part.lif with
          lostTimer := .stopped, retry := if s.part.fre.duplicate then s.part.lif.retry else .waiting } } })
    ∧ (s.part.lif.retry = .waiting → s.part.lif.filtered = false → s.part.lif.traffic = false → 96 ≤ s.part.lif.samples →
      s.part.lif.loopRun = none → s.part.fre.duplicate = false → s.part.rsq.state.presenceCode = some code →
      ∀ f, f = s.part.presence code s.part.presenceDraw
          (if s.part.rsq.state = RescueState.wait then s.part.pcu.plan.key else none)
            (s.part.adu.state == AdmissionState.solo) →
      exec .lostRetryPresence s = .next { s with part := { s.part with
        fre := { s.part.fre with role := .sender }
        lif := { s.part.lif with
          retry := .sending
          tx := some { source := .retry, bits := bitsOfBytes f.encode, begun := 0, driving := true, driveAge := 0
                       shown := false, releaseDue := some 48, edgeDue := none } } } }))
  ∧ ∀ s : State, s.listening → s.part.lpc.committed = true → s.part.lif.traffic = true → s.part.lif.filtered = false →
    48 ≤ s.part.lif.samples → s.part.fre.report = none →
    (∀ f, s.part.lif.lineState = .lost → s.part.lif.retry = .sending → s.part.fre.phase = .frame →
      s.part.fre.role = .sender → s.part.fre.valid = some f → f.kind = .presence → s.part.fre.inFlight = none →
      ∃ q, exec .frameEnd s = .next { s with part := q }
        ∧ q.lif = { s.part.lif with
            samples := 96, traffic := false, tx := none, lineState := .idle, echoRun := 0, lostTimer := .stopped
            retry := .none }
        ∧ (s.part.fre.duplicate = true → q.sameOutside [.fre, .lif] s.part ∧ q.fre.queue = s.part.fre.queue)
        ∧ (s.part.fre.duplicate = false → q.recoversAs s.part))
    ∧ (s.part.lif.lineState = .lost → s.part.lif.retry = .failed → s.part.fre.phase = .discard →
      ∃ q, exec .frameEnd s = .next { s with part := q }
        ∧ q.lif = { s.part.lif with
            samples := 96, traffic := false, tx := none, lostTimer := .running 2500000, retry := .none }
        ∧ q.sameOutside [.pvw, .fre, .lif] s.part)
    ∧ (s.part.lif.lineState = .stuck → s.part.lif.retry = .none → s.part.fre.phase = .discard →
      s.part.fre.windowAbandoned = false →
      ∃ q, exec .frameEnd s = .next { s with part := q }
        ∧ q.lif = { s.part.lif with samples := 96, traffic := false, tx := none, lineState := .idle }
        ∧ q.adu.stuckTimer = .stopped
        ∧ (s.part.adu.stuckTimer = .expired → s.part.fre.duplicate = false → q.recoversAs s.part)
        ∧ (s.part.adu.stuckTimer ≠ .expired ∨ s.part.fre.duplicate = true → q.sameOutside [.fre, .lif, .adu] s.part))

/-! ## Announcements (chapter 8) -/

/-- R137, R138, R141, R164: a read of the voice memory is sent as 0x03 and the 24-bit address, most significant byte first. The directory
read of the current phrase completes: a valid entry is cached, the phrase passes to FETCH with its first refill read of at most 8 bytes
issued at its start; one of length 0 or beyond the memory sets the voice-fault flag, and the phrase is skipped. The bytes of a refill
enter the FIFO as they come; with the last one the fetch address advances by the count. The bytes read come with the command, and one
command may bring several of them (assumptions 9 and 10, the model's choices). -/
def Obligations.VoiceReadsComplete : Prop :=
  (∀ address < 2 ^ 24, ∃ hi mid lo : Byte, nat3 hi mid lo = address
      ∧ (Transaction.directory address).sent = [0x03, hi, mid, lo]
      ∧ ∀ count received, (Transaction.refill address count received).sent = [0x03, hi, mid, lo])
  ∧ ∀ (s : State) (bytes : List Byte), s.working →
    (∀ number start length address, bytes.length = 6 → s.part.anu.transaction = .directory address →
      s.part.anu.current = some { number := number, stage := .lookup } →
      start = nat3 (byteAt bytes 0) (byteAt bytes 1) (byteAt bytes 2) →
      length = nat3 (byteAt bytes 3) (byteAt bytes 4) (byteAt bytes 5) →
      ∃ q, exec (.voiceDirectoryReadDone bytes) s = .next { s with part := q }
        ∧ (length ≠ 0 → start + length ≤ s.part.settings.voiceSize * 65536 → s.part.anu.fifo = [] →
            q = { s.part with anu := { s.part.anu with
              current := some { number := number, stage := .fetch }
              cache := some { number := number, start := start, length := length }
              fetchAddress := start, toFetch := length, toPlay := length
              transaction := .refill start (min 8 length) 0 } })
        ∧ (length = 0 ∨ s.part.settings.voiceSize * 65536 < start + length → s.part.anu.next = none →
            q.anu.voiceFault = true ∧ q.anu.current = none ∧ q.anu.transaction = .none
              ∧ (s.part.anu.movingOwed = true → s.part.rsq.state = .warn → s.part.rsq.gateTimer ≠ .expired →
                  q.rsq = { s.part.rsq with voiceUnavailable := true })))
    ∧ (∀ address count received, 1 ≤ bytes.length → bytes.length ≤ 8 → received < count → count ≤ 8 →
      s.part.anu.transaction = .refill address count received →
      ∃ q, exec (.voiceRefillReadDone bytes) s = .next { s with part := q }
        ∧ (received + bytes.length < count →
            q = { s.part with anu := { s.part.anu with
              fifo := s.part.anu.fifo ++ bytes, transaction := .refill address count (received + bytes.length) } })
        ∧ (count ≤ received + bytes.length →
            q.anu.fifo = s.part.anu.fifo ++ bytes.take (count - received)
              ∧ q.anu.fetchAddress = s.part.anu.fetchAddress + count
              ∧ q.anu.toFetch = s.part.anu.toFetch - count
              ∧ q.anu.toPlay = s.part.anu.toPlay ∧ q.anu.current = s.part.anu.current
              ∧ q.anu.transaction = (if s.part.anu.fetching = true ∧ 0 < s.part.anu.toFetch - count
                  ∧ (s.part.anu.fifo ++ bytes.take (count - received)).length ≤ 8
                then .refill (s.part.anu.fetchAddress + count) (min 8 (s.part.anu.toFetch - count)) 0 else .none)
              ∧ q.sameOutside [.anu] s.part))

/-- R140, R142, R143, R145, R146: a sample instant. A sounding phrase plays its oldest byte at 128 plus the sample less 128 scaled by V / 7
toward zero; with the FIFO empty it underruns; the first byte of a phrase in FETCH makes it sound and clears the voice fault; after the
last sample the phrase ends, and a MOVING that is owed opens the gate. That the outputs take the new duty with the
instant itself is the model's choice (assumption 30). -/
def Obligations.SampleInstantPlays : Prop :=
  ∀ (s : State) (number : Nat) (stage : Stage), s.inService → s.part.anu.volume ≤ 7 →
    s.part.anu.current = some { number := number, stage := stage } →
    ∃ q, exec .sampleInstant s = .next { s with part := q }
      ∧ (∀ b rest, s.part.anu.fifo = b :: rest → (stage = .sounding ∧ 0 < s.part.anu.toPlay ∨ stage = .fetch) →
          ∃ duty : Nat, (duty : Int) = 128 + Int.tdiv (((b.toNat : Int) - 128) * s.part.anu.volume) 7 ∧ duty ≤ 255
            ∧ q.anu.fifo = rest ∧ q.anu.toPlay = s.part.anu.toPlay - 1 ∧ q.anu.lastDuty = duty
            ∧ q.anu.speaker = (if s.part.anu.volume = 0 then .low else .pulse duty)
            ∧ q.anu.current = some { number := number, stage := .sounding }
            ∧ (stage = .fetch → q.anu.voiceFault = false)
            ∧ q.anu.underruns = s.part.anu.underruns ∧ q.sameOutside [.anu] s.part)
      ∧ (s.part.anu.fifo = [] → stage = .sounding → 0 < s.part.anu.toPlay →
          q = { s.part with anu := { s.part.anu with underruns := min 255 (s.part.anu.underruns + 1) } })
      ∧ (stage = .sounding → s.part.anu.toPlay = 0 → s.part.anu.next = none → s.part.anu.movingOwed = false →
          q.anu.current = none ∧ q.anu.speaker = .low ∧ q.sameOutside [.anu] s.part
            ∧ (s.part.rsq.state = .wait → q.anu.patience = .running 7500000))
      ∧ (stage = .sounding → s.part.anu.toPlay = 0 → s.part.anu.next = none → s.part.anu.movingOwed = true →
          s.part.rsq.state = .warn → q.rsq.state = .probe ∧ q.rsq.outputs.brakeRelease = true)

/-- R144, R139: the PATIENCE timer's expiry in WAIT requests PATIENCE as an ordinary request: with no phrase configured the silent
cycle starts again; otherwise the phrase enters an empty current slot and its directory entry is read, at 6 times its number, unless it is cached. -/
def Obligations.PatienceRequestsPhrase : Prop :=
  ∀ s : State, s.working → s.part.rsq.state = .wait → s.expires .patienceTimerExpiry s.part.anu.patience →
    s.part.anu.current = none → s.part.anu.next = none →
    (s.part.settings.phrase .patience = 255 →
      exec .patienceTimerExpiry s = .next { s with part := { s.part with
        anu := { s.part.anu with patience := .running 7500000 } } })
    ∧ (s.part.settings.phrase .patience ≠ 255 → s.part.settings.voiceSize ≠ 0 → s.part.anu.cache = none →
      exec .patienceTimerExpiry s = .next { s with part := { s.part with
        anu := { s.part.anu with
          patience := .stopped
          transaction := .directory (6 * s.part.settings.phrase .patience)
          current := some { number := s.part.settings.phrase .patience, stage := .lookup } } } })

/-! ## The whole machine -/

/-- The invariant holds right after power-on. -/
def Obligations.InvariantAtReset : Prop := State.reset.part.Inv

/-- R4, R5, R51, R75, R91, R101, R107, R109, R132, R133, R141, R150: from every state in which the outputs fit the rescue state, the cause
its states, the draws their bounds, the queue, the roll-call list and the records their order, the FIFO and the counts their ranges, and
the commit the image; in which a holder has no Claim queued and a Claim stands only while it is sought, no record is the node's own, and
the stall indication and the cancel condition stand as their terms: every step answers such a state. -/
def Obligations.StepKeepsInvariant : Prop :=
  ∀ s t : State, s.part.Inv → step s = .next t → t.part.Inv

/-- R50, R62, R64, R68 to R71: the admission state fits the rescue state right after power-on, and every step from a state in
which it does answers such a state: no step leaves a node holding power outside an admitted rescue, or in one without power. -/
def Obligations.AdmissionFitsTheSequence : Prop :=
  State.reset.part.admissionFits
    ∧ ∀ s t : State, s.part.commitFits → s.part.admissionFits → step s = .next t → t.part.admissionFits

/-- R150: after commit no command but a reset changes a byte of the image or takes the commit back. -/
def Obligations.CommittedImageLocked : Prop :=
  ∀ (c : Instr) (s t : State), s.part.lpc.committed = true → exec c s = .next t →
    (t.part.lpc.committed = true ∧ t.part.lpc.image = s.part.lpc.image)
      ∨ (∃ selected, c = .powerOn selected) ∨ (∃ low selected, c = .resetInput low selected) ∨ c = .restart ⟨[], 0⟩

/-- R105, R106: a node in service that has recorded DUPLICATE and drives nothing begins no drive in any step, a sample period that passes
among them, and keeps the record, until a reset is taken. -/
def Obligations.DuplicateNodeStaysSilent : Prop :=
  ∀ s t : State, s.part.fre.duplicate = true → s.part.lif.tx = none → s.part.lpc.committed = true → step s = .next t →
    (t.part.fre.duplicate = true ∧ t.part.lif.tx = none ∧ t.part.lpc.committed = true)
      ∨ ∃ c rest, s.pending = c :: rest
          ∧ ((∃ selected, c = .powerOn selected) ∨ (∃ low selected, c = .resetInput low selected) ∨ c = .restart ⟨[], 0⟩)
end

