-- ==== Sys2Proof/Laws/State.lean ====
section
/-! SUPPORT. What each update of State leaves: one lemma per field per update, each true by rfl, so that no later
proof unfolds a record update. -/

namespace Sys2Proof.Machine

/-! ## Updates of one block's record -/

@[simp] theorem Part.mapRsq_rsq (f : Rsq → Rsq) (p : Part) : (p.mapRsq f).rsq = f p.rsq := rfl
@[simp] theorem Part.mapRsq_pcu (f : Rsq → Rsq) (p : Part) : (p.mapRsq f).pcu = p.pcu := rfl
@[simp] theorem Part.mapRsq_adu (f : Rsq → Rsq) (p : Part) : (p.mapRsq f).adu = p.adu := rfl
@[simp] theorem Part.mapRsq_pvw (f : Rsq → Rsq) (p : Part) : (p.mapRsq f).pvw = p.pvw := rfl
@[simp] theorem Part.mapRsq_fre (f : Rsq → Rsq) (p : Part) : (p.mapRsq f).fre = p.fre := rfl
@[simp] theorem Part.mapRsq_lif (f : Rsq → Rsq) (p : Part) : (p.mapRsq f).lif = p.lif := rfl
@[simp] theorem Part.mapRsq_liu (f : Rsq → Rsq) (p : Part) : (p.mapRsq f).liu = p.liu := rfl
@[simp] theorem Part.mapRsq_anu (f : Rsq → Rsq) (p : Part) : (p.mapRsq f).anu = p.anu := rfl
@[simp] theorem Part.mapRsq_lpc (f : Rsq → Rsq) (p : Part) : (p.mapRsq f).lpc = p.lpc := rfl
@[simp] theorem Part.mapRsq_pins (f : Rsq → Rsq) (p : Part) : (p.mapRsq f).pins = p.pins := rfl
@[simp] theorem Part.mapRsq_choices (f : Rsq → Rsq) (p : Part) : (p.mapRsq f).choices = p.choices := rfl

@[simp] theorem Part.mapPcu_rsq (f : Pcu → Pcu) (p : Part) : (p.mapPcu f).rsq = p.rsq := rfl
@[simp] theorem Part.mapPcu_pcu (f : Pcu → Pcu) (p : Part) : (p.mapPcu f).pcu = f p.pcu := rfl
@[simp] theorem Part.mapPcu_adu (f : Pcu → Pcu) (p : Part) : (p.mapPcu f).adu = p.adu := rfl
@[simp] theorem Part.mapPcu_pvw (f : Pcu → Pcu) (p : Part) : (p.mapPcu f).pvw = p.pvw := rfl
@[simp] theorem Part.mapPcu_fre (f : Pcu → Pcu) (p : Part) : (p.mapPcu f).fre = p.fre := rfl
@[simp] theorem Part.mapPcu_lif (f : Pcu → Pcu) (p : Part) : (p.mapPcu f).lif = p.lif := rfl
@[simp] theorem Part.mapPcu_liu (f : Pcu → Pcu) (p : Part) : (p.mapPcu f).liu = p.liu := rfl
@[simp] theorem Part.mapPcu_anu (f : Pcu → Pcu) (p : Part) : (p.mapPcu f).anu = p.anu := rfl
@[simp] theorem Part.mapPcu_lpc (f : Pcu → Pcu) (p : Part) : (p.mapPcu f).lpc = p.lpc := rfl
@[simp] theorem Part.mapPcu_pins (f : Pcu → Pcu) (p : Part) : (p.mapPcu f).pins = p.pins := rfl
@[simp] theorem Part.mapPcu_choices (f : Pcu → Pcu) (p : Part) : (p.mapPcu f).choices = p.choices := rfl

@[simp] theorem Part.mapAdu_rsq (f : Adu → Adu) (p : Part) : (p.mapAdu f).rsq = p.rsq := rfl
@[simp] theorem Part.mapAdu_pcu (f : Adu → Adu) (p : Part) : (p.mapAdu f).pcu = p.pcu := rfl
@[simp] theorem Part.mapAdu_adu (f : Adu → Adu) (p : Part) : (p.mapAdu f).adu = f p.adu := rfl
@[simp] theorem Part.mapAdu_pvw (f : Adu → Adu) (p : Part) : (p.mapAdu f).pvw = p.pvw := rfl
@[simp] theorem Part.mapAdu_fre (f : Adu → Adu) (p : Part) : (p.mapAdu f).fre = p.fre := rfl
@[simp] theorem Part.mapAdu_lif (f : Adu → Adu) (p : Part) : (p.mapAdu f).lif = p.lif := rfl
@[simp] theorem Part.mapAdu_liu (f : Adu → Adu) (p : Part) : (p.mapAdu f).liu = p.liu := rfl
@[simp] theorem Part.mapAdu_anu (f : Adu → Adu) (p : Part) : (p.mapAdu f).anu = p.anu := rfl
@[simp] theorem Part.mapAdu_lpc (f : Adu → Adu) (p : Part) : (p.mapAdu f).lpc = p.lpc := rfl
@[simp] theorem Part.mapAdu_pins (f : Adu → Adu) (p : Part) : (p.mapAdu f).pins = p.pins := rfl
@[simp] theorem Part.mapAdu_choices (f : Adu → Adu) (p : Part) : (p.mapAdu f).choices = p.choices := rfl

@[simp] theorem Part.mapPvw_rsq (f : Pvw → Pvw) (p : Part) : (p.mapPvw f).rsq = p.rsq := rfl
@[simp] theorem Part.mapPvw_pcu (f : Pvw → Pvw) (p : Part) : (p.mapPvw f).pcu = p.pcu := rfl
@[simp] theorem Part.mapPvw_adu (f : Pvw → Pvw) (p : Part) : (p.mapPvw f).adu = p.adu := rfl
@[simp] theorem Part.mapPvw_pvw (f : Pvw → Pvw) (p : Part) : (p.mapPvw f).pvw = f p.pvw := rfl
@[simp] theorem Part.mapPvw_fre (f : Pvw → Pvw) (p : Part) : (p.mapPvw f).fre = p.fre := rfl
@[simp] theorem Part.mapPvw_lif (f : Pvw → Pvw) (p : Part) : (p.mapPvw f).lif = p.lif := rfl
@[simp] theorem Part.mapPvw_liu (f : Pvw → Pvw) (p : Part) : (p.mapPvw f).liu = p.liu := rfl
@[simp] theorem Part.mapPvw_anu (f : Pvw → Pvw) (p : Part) : (p.mapPvw f).anu = p.anu := rfl
@[simp] theorem Part.mapPvw_lpc (f : Pvw → Pvw) (p : Part) : (p.mapPvw f).lpc = p.lpc := rfl
@[simp] theorem Part.mapPvw_pins (f : Pvw → Pvw) (p : Part) : (p.mapPvw f).pins = p.pins := rfl
@[simp] theorem Part.mapPvw_choices (f : Pvw → Pvw) (p : Part) : (p.mapPvw f).choices = p.choices := rfl

@[simp] theorem Part.mapFre_rsq (f : Fre → Fre) (p : Part) : (p.mapFre f).rsq = p.rsq := rfl
@[simp] theorem Part.mapFre_pcu (f : Fre → Fre) (p : Part) : (p.mapFre f).pcu = p.pcu := rfl
@[simp] theorem Part.mapFre_adu (f : Fre → Fre) (p : Part) : (p.mapFre f).adu = p.adu := rfl
@[simp] theorem Part.mapFre_pvw (f : Fre → Fre) (p : Part) : (p.mapFre f).pvw = p.pvw := rfl
@[simp] theorem Part.mapFre_fre (f : Fre → Fre) (p : Part) : (p.mapFre f).fre = f p.fre := rfl
@[simp] theorem Part.mapFre_lif (f : Fre → Fre) (p : Part) : (p.mapFre f).lif = p.lif := rfl
@[simp] theorem Part.mapFre_liu (f : Fre → Fre) (p : Part) : (p.mapFre f).liu = p.liu := rfl
@[simp] theorem Part.mapFre_anu (f : Fre → Fre) (p : Part) : (p.mapFre f).anu = p.anu := rfl
@[simp] theorem Part.mapFre_lpc (f : Fre → Fre) (p : Part) : (p.mapFre f).lpc = p.lpc := rfl
@[simp] theorem Part.mapFre_pins (f : Fre → Fre) (p : Part) : (p.mapFre f).pins = p.pins := rfl
@[simp] theorem Part.mapFre_choices (f : Fre → Fre) (p : Part) : (p.mapFre f).choices = p.choices := rfl

@[simp] theorem Part.mapLif_rsq (f : Lif → Lif) (p : Part) : (p.mapLif f).rsq = p.rsq := rfl
@[simp] theorem Part.mapLif_pcu (f : Lif → Lif) (p : Part) : (p.mapLif f).pcu = p.pcu := rfl
@[simp] theorem Part.mapLif_adu (f : Lif → Lif) (p : Part) : (p.mapLif f).adu = p.adu := rfl
@[simp] theorem Part.mapLif_pvw (f : Lif → Lif) (p : Part) : (p.mapLif f).pvw = p.pvw := rfl
@[simp] theorem Part.mapLif_fre (f : Lif → Lif) (p : Part) : (p.mapLif f).fre = p.fre := rfl
@[simp] theorem Part.mapLif_lif (f : Lif → Lif) (p : Part) : (p.mapLif f).lif = f p.lif := rfl
@[simp] theorem Part.mapLif_liu (f : Lif → Lif) (p : Part) : (p.mapLif f).liu = p.liu := rfl
@[simp] theorem Part.mapLif_anu (f : Lif → Lif) (p : Part) : (p.mapLif f).anu = p.anu := rfl
@[simp] theorem Part.mapLif_lpc (f : Lif → Lif) (p : Part) : (p.mapLif f).lpc = p.lpc := rfl
@[simp] theorem Part.mapLif_pins (f : Lif → Lif) (p : Part) : (p.mapLif f).pins = p.pins := rfl
@[simp] theorem Part.mapLif_choices (f : Lif → Lif) (p : Part) : (p.mapLif f).choices = p.choices := rfl

@[simp] theorem Part.mapLiu_rsq (f : Liu → Liu) (p : Part) : (p.mapLiu f).rsq = p.rsq := rfl
@[simp] theorem Part.mapLiu_pcu (f : Liu → Liu) (p : Part) : (p.mapLiu f).pcu = p.pcu := rfl
@[simp] theorem Part.mapLiu_adu (f : Liu → Liu) (p : Part) : (p.mapLiu f).adu = p.adu := rfl
@[simp] theorem Part.mapLiu_pvw (f : Liu → Liu) (p : Part) : (p.mapLiu f).pvw = p.pvw := rfl
@[simp] theorem Part.mapLiu_fre (f : Liu → Liu) (p : Part) : (p.mapLiu f).fre = p.fre := rfl
@[simp] theorem Part.mapLiu_lif (f : Liu → Liu) (p : Part) : (p.mapLiu f).lif = p.lif := rfl
@[simp] theorem Part.mapLiu_liu (f : Liu → Liu) (p : Part) : (p.mapLiu f).liu = f p.liu := rfl
@[simp] theorem Part.mapLiu_anu (f : Liu → Liu) (p : Part) : (p.mapLiu f).anu = p.anu := rfl
@[simp] theorem Part.mapLiu_lpc (f : Liu → Liu) (p : Part) : (p.mapLiu f).lpc = p.lpc := rfl
@[simp] theorem Part.mapLiu_pins (f : Liu → Liu) (p : Part) : (p.mapLiu f).pins = p.pins := rfl
@[simp] theorem Part.mapLiu_choices (f : Liu → Liu) (p : Part) : (p.mapLiu f).choices = p.choices := rfl

@[simp] theorem Part.mapAnu_rsq (f : Anu → Anu) (p : Part) : (p.mapAnu f).rsq = p.rsq := rfl
@[simp] theorem Part.mapAnu_pcu (f : Anu → Anu) (p : Part) : (p.mapAnu f).pcu = p.pcu := rfl
@[simp] theorem Part.mapAnu_adu (f : Anu → Anu) (p : Part) : (p.mapAnu f).adu = p.adu := rfl
@[simp] theorem Part.mapAnu_pvw (f : Anu → Anu) (p : Part) : (p.mapAnu f).pvw = p.pvw := rfl
@[simp] theorem Part.mapAnu_fre (f : Anu → Anu) (p : Part) : (p.mapAnu f).fre = p.fre := rfl
@[simp] theorem Part.mapAnu_lif (f : Anu → Anu) (p : Part) : (p.mapAnu f).lif = p.lif := rfl
@[simp] theorem Part.mapAnu_liu (f : Anu → Anu) (p : Part) : (p.mapAnu f).liu = p.liu := rfl
@[simp] theorem Part.mapAnu_anu (f : Anu → Anu) (p : Part) : (p.mapAnu f).anu = f p.anu := rfl
@[simp] theorem Part.mapAnu_lpc (f : Anu → Anu) (p : Part) : (p.mapAnu f).lpc = p.lpc := rfl
@[simp] theorem Part.mapAnu_pins (f : Anu → Anu) (p : Part) : (p.mapAnu f).pins = p.pins := rfl
@[simp] theorem Part.mapAnu_choices (f : Anu → Anu) (p : Part) : (p.mapAnu f).choices = p.choices := rfl

@[simp] theorem Part.mapLpc_rsq (f : Lpc → Lpc) (p : Part) : (p.mapLpc f).rsq = p.rsq := rfl
@[simp] theorem Part.mapLpc_pcu (f : Lpc → Lpc) (p : Part) : (p.mapLpc f).pcu = p.pcu := rfl
@[simp] theorem Part.mapLpc_adu (f : Lpc → Lpc) (p : Part) : (p.mapLpc f).adu = p.adu := rfl
@[simp] theorem Part.mapLpc_pvw (f : Lpc → Lpc) (p : Part) : (p.mapLpc f).pvw = p.pvw := rfl
@[simp] theorem Part.mapLpc_fre (f : Lpc → Lpc) (p : Part) : (p.mapLpc f).fre = p.fre := rfl
@[simp] theorem Part.mapLpc_lif (f : Lpc → Lpc) (p : Part) : (p.mapLpc f).lif = p.lif := rfl
@[simp] theorem Part.mapLpc_liu (f : Lpc → Lpc) (p : Part) : (p.mapLpc f).liu = p.liu := rfl
@[simp] theorem Part.mapLpc_anu (f : Lpc → Lpc) (p : Part) : (p.mapLpc f).anu = p.anu := rfl
@[simp] theorem Part.mapLpc_lpc (f : Lpc → Lpc) (p : Part) : (p.mapLpc f).lpc = f p.lpc := rfl
@[simp] theorem Part.mapLpc_pins (f : Lpc → Lpc) (p : Part) : (p.mapLpc f).pins = p.pins := rfl
@[simp] theorem Part.mapLpc_choices (f : Lpc → Lpc) (p : Part) : (p.mapLpc f).choices = p.choices := rfl

@[simp] theorem Part.mapPins_rsq (f : Pins → Pins) (p : Part) : (p.mapPins f).rsq = p.rsq := rfl
@[simp] theorem Part.mapPins_pcu (f : Pins → Pins) (p : Part) : (p.mapPins f).pcu = p.pcu := rfl
@[simp] theorem Part.mapPins_adu (f : Pins → Pins) (p : Part) : (p.mapPins f).adu = p.adu := rfl
@[simp] theorem Part.mapPins_pvw (f : Pins → Pins) (p : Part) : (p.mapPins f).pvw = p.pvw := rfl
@[simp] theorem Part.mapPins_fre (f : Pins → Pins) (p : Part) : (p.mapPins f).fre = p.fre := rfl
@[simp] theorem Part.mapPins_lif (f : Pins → Pins) (p : Part) : (p.mapPins f).lif = p.lif := rfl
@[simp] theorem Part.mapPins_liu (f : Pins → Pins) (p : Part) : (p.mapPins f).liu = p.liu := rfl
@[simp] theorem Part.mapPins_anu (f : Pins → Pins) (p : Part) : (p.mapPins f).anu = p.anu := rfl
@[simp] theorem Part.mapPins_lpc (f : Pins → Pins) (p : Part) : (p.mapPins f).lpc = p.lpc := rfl
@[simp] theorem Part.mapPins_pins (f : Pins → Pins) (p : Part) : (p.mapPins f).pins = f p.pins := rfl
@[simp] theorem Part.mapPins_choices (f : Pins → Pins) (p : Part) : (p.mapPins f).choices = p.choices := rfl

@[simp] theorem Part.mapOutputs_rsq (f : Outputs → Outputs) (p : Part) : (p.mapOutputs f).rsq = { p.rsq with outputs := f p.rsq.outputs } := rfl
@[simp] theorem Part.mapOutputs_pcu (f : Outputs → Outputs) (p : Part) : (p.mapOutputs f).pcu = p.pcu := rfl
@[simp] theorem Part.mapOutputs_adu (f : Outputs → Outputs) (p : Part) : (p.mapOutputs f).adu = p.adu := rfl
@[simp] theorem Part.mapOutputs_pvw (f : Outputs → Outputs) (p : Part) : (p.mapOutputs f).pvw = p.pvw := rfl
@[simp] theorem Part.mapOutputs_fre (f : Outputs → Outputs) (p : Part) : (p.mapOutputs f).fre = p.fre := rfl
@[simp] theorem Part.mapOutputs_lif (f : Outputs → Outputs) (p : Part) : (p.mapOutputs f).lif = p.lif := rfl
@[simp] theorem Part.mapOutputs_liu (f : Outputs → Outputs) (p : Part) : (p.mapOutputs f).liu = p.liu := rfl
@[simp] theorem Part.mapOutputs_anu (f : Outputs → Outputs) (p : Part) : (p.mapOutputs f).anu = p.anu := rfl
@[simp] theorem Part.mapOutputs_lpc (f : Outputs → Outputs) (p : Part) : (p.mapOutputs f).lpc = p.lpc := rfl
@[simp] theorem Part.mapOutputs_pins (f : Outputs → Outputs) (p : Part) : (p.mapOutputs f).pins = p.pins := rfl
@[simp] theorem Part.mapOutputs_choices (f : Outputs → Outputs) (p : Part) : (p.mapOutputs f).choices = p.choices := rfl

/-! ## Free choices -/

@[simp] theorem Part.choose_rsq (p : Part) : p.choose.2.rsq = p.rsq := rfl
@[simp] theorem Part.choose_pcu (p : Part) : p.choose.2.pcu = p.pcu := rfl
@[simp] theorem Part.choose_adu (p : Part) : p.choose.2.adu = p.adu := rfl
@[simp] theorem Part.choose_pvw (p : Part) : p.choose.2.pvw = p.pvw := rfl
@[simp] theorem Part.choose_fre (p : Part) : p.choose.2.fre = p.fre := rfl
@[simp] theorem Part.choose_lif (p : Part) : p.choose.2.lif = p.lif := rfl
@[simp] theorem Part.choose_liu (p : Part) : p.choose.2.liu = p.liu := rfl
@[simp] theorem Part.choose_anu (p : Part) : p.choose.2.anu = p.anu := rfl
@[simp] theorem Part.choose_lpc (p : Part) : p.choose.2.lpc = p.lpc := rfl
@[simp] theorem Part.choose_pins (p : Part) : p.choose.2.pins = p.pins := rfl

/-! ## Running an event -/

/-- The outcome of an event: a next state whose queue is untouched. -/
theorem State.run_eq (f : Part → Part) (s : State) :
    s.run f = .next { s with part := s.part.whenWorking f } := rfl

/-- A working part takes the event. -/
@[simp] theorem Part.whenWorking_of_high (f : Part → Part) (p : Part) (h : p.pins.resetLow = false) :
    p.whenWorking f = f p := by simp [Part.whenWorking, h]

/-- A part held in reset takes none. -/
@[simp] theorem Part.whenWorking_of_low (f : Part → Part) (p : Part) (h : p.pins.resetLow = true) :
    p.whenWorking f = p := by simp [Part.whenWorking, h]

/-- An event with the operands of an event runs. -/
theorem State.runIf_of_ok (f : Part → Part) (s : State) {ok : Bool} (h : ok = true) : s.runIf ok f = s.run f := by
  simp [State.runIf, h]

/-- What an event can answer: if it answers a next state, its operands were those of an event and the part took it. -/
theorem State.runIf_next {ok : Bool} {f : Part → Part} {s t : State} (h : s.runIf ok f = .next t) :
    ok = true ∧ t = { s with part := s.part.whenWorking f } := by
  unfold State.runIf at h
  split at h
  · rename_i hok
    exact ⟨hok, (Host.Outcome.next.inj h).symm⟩
  · cases h

/-- What an event without conditions on its operands can answer. -/
theorem State.run_next {f : Part → Part} {s t : State} (h : s.run f = .next t) :
    t = { s with part := s.part.whenWorking f } := (Host.Outcome.next.inj h).symm

/-- What a command of the clock answers: a next state whose queue is untouched, the part as the event leaves it where the command
stands. -/
theorem State.runDue_eq (c : Instr) (due : Part → Bool) (f : Part → Part) (s : State) :
    s.runDue c due f = .next { s with part := if s.stands c (due s.part) then s.part.whenWorking f else s.part } := by
  unfold State.runDue
  split <;> rfl

/-- A command of the clock that stands is an event. -/
theorem State.runDue_of_stands {c : Instr} {due : Part → Bool} {f : Part → Part} {s : State}
    (h : due s.part = true ∨ c ∉ s.announced) : s.runDue c due f = s.run f := by
  obtain h | h := h <;> simp [State.runDue, State.stands, h]

/-- An announced command of the clock that is due no longer has no effect. -/
theorem State.runDue_of_past {c : Instr} {due : Part → Bool} {f : Part → Part} {s : State}
    (hc : c ∈ s.announced) (h : due s.part = false) : s.runDue c due f = .next s := by
  simp [State.runDue, State.stands, hc, h]

/-- What the expiry of a timer answers. -/
theorem State.runExpiry_eq (c : Instr) (timer : Part → Timer) (f : Part → Part) (s : State) :
    s.runExpiry c timer f =
      .next { s with part := if s.stands c (timer s.part).due then s.part.whenWorking f else s.part } :=
  State.runDue_eq ..

/-- An expiry that stands is an event. -/
theorem State.runExpiry_of_stands {c : Instr} {timer : Part → Timer} {f : Part → Part} {s : State}
    (h : timer s.part = .running 0 ∨ c ∉ s.announced) : s.runExpiry c timer f = s.run f :=
  State.runDue_of_stands (h.imp_left fun h => by simp [h, Timer.due])

/-- An announced expiry whose timer has been started again has no effect. -/
theorem State.runExpiry_of_restarted {c : Instr} {timer : Part → Timer} {f : Part → Part} {s : State} {n : Nat}
    (hc : c ∈ s.announced) (h : timer s.part = .running (n + 1)) : s.runExpiry c timer f = .next s :=
  State.runDue_of_past hc (by simp [h, Timer.due])

/-- What comes due in a sample period, command by command: of the timers exactly those at their end. -/
theorem Part.mem_comesDue {c : Instr} {p : Part} :
    c ∈ p.comesDue ↔ c ∈ p.expiries ∨ c = .probeWindowExpiry ∧ p.probeWindowReached = true
      ∨ c = .symbolDueTime ∧ (p.lif.sampleWire false).symbolDue = true := by
  unfold Part.comesDue
  simp only [List.mem_append, or_assoc]
  refine or_congr_right (or_congr ?_ ?_) <;> split <;> simp_all

/-- What LIF's own next release or edge is at a sample does not depend on the wire (R109, R112). -/
@[simp] theorem Lif.symbolDue_sampleWire (wire : Bool) (l : Lif) :
    (l.sampleWire wire).symbolDue = (l.sampleWire false).symbolDue := rfl

/-- A property of parts that the event keeps holds after `whenWorking`. -/
theorem Part.whenWorking_keeps {P : Part → Prop} {f : Part → Part} (hf : ∀ p, P p → P (f p)) {p : Part} (h : P p) :
    P (p.whenWorking f) := by
  unfold Part.whenWorking
  split
  · exact h
  · exact hf p h

/-- A property that every event keeps, and the count of choices does not bear on, holds after a run of events in
free order. -/
theorem takeUnordered_keeps {α : Type} {P : Part → Prop} {act : α → Part → Part}
    (hact : ∀ e p, P p → P (act e p)) (hchoose : ∀ p, P p → P p.choose.2) (events : List α) {p : Part} (h : P p) :
    P (takeUnordered act events p) := by
  have fold : ∀ (l : List α) (p : Part), P p → P (l.foldl (fun p e => act e p) p) := by
    intro l
    induction l with
    | nil => intro p h; exact h
    | cons e l ih => intro p h; exact ih _ (hact e p h)
  match events with
  | [] => exact h
  | [e] => exact hact e p h
  | _ :: _ :: _ => exact fold _ _ (hchoose p h)

end Sys2Proof.Machine
end

