-- ==== Sys2Proof/Laws/FramesRescue.lean ====
section
/-! SUPPORT. Frames of the operations of RSQ, ADU, PCU and the transmit queue: the blocks that each leaves as they were. -/

namespace Sys2Proof.Machine

/-- A projection that no event changes is unchanged by events in free order. -/
theorem takeUnordered_proj {α β : Type} {act : α → Part → Part} (g : Part → β) (hact : ∀ e p, g (act e p) = g p)
    (hchoose : ∀ p : Part, g p.choose.2 = g p) (events : List α) (p : Part) :
    g (takeUnordered act events p) = g p :=
  takeUnordered_keeps (P := fun q => g q = g p) (fun e q h => (hact e q).trans h) (fun q h => (hchoose q).trans h)
    events rfl

@[simp] theorem Part.offerPresence_rsq (p : Part) :
    (Part.offerPresence p).rsq = p.rsq := by
  unfold Part.offerPresence; (try dsimp only); repeat' split
  all_goals simp
@[simp] theorem Part.offerPresence_pcu (p : Part) :
    (Part.offerPresence p).pcu = p.pcu := by
  unfold Part.offerPresence; (try dsimp only); repeat' split
  all_goals simp
@[simp] theorem Part.offerPresence_adu (p : Part) :
    (Part.offerPresence p).adu = p.adu := by
  unfold Part.offerPresence; (try dsimp only); repeat' split
  all_goals simp
@[simp] theorem Part.offerPresence_pvw (p : Part) :
    (Part.offerPresence p).pvw = p.pvw := by
  unfold Part.offerPresence; (try dsimp only); repeat' split
  all_goals simp
@[simp] theorem Part.offerPresence_lif (p : Part) :
    (Part.offerPresence p).lif = p.lif := by
  unfold Part.offerPresence; (try dsimp only); repeat' split
  all_goals simp
@[simp] theorem Part.offerPresence_liu (p : Part) :
    (Part.offerPresence p).liu = p.liu := by
  unfold Part.offerPresence; (try dsimp only); repeat' split
  all_goals simp
@[simp] theorem Part.offerPresence_anu (p : Part) :
    (Part.offerPresence p).anu = p.anu := by
  unfold Part.offerPresence; (try dsimp only); repeat' split
  all_goals simp
@[simp] theorem Part.offerPresence_lpc (p : Part) :
    (Part.offerPresence p).lpc = p.lpc := by
  unfold Part.offerPresence; (try dsimp only); repeat' split
  all_goals simp
@[simp] theorem Part.offerPresence_pins (p : Part) :
    (Part.offerPresence p).pins = p.pins := by
  unfold Part.offerPresence; (try dsimp only); repeat' split
  all_goals simp
@[simp] theorem Part.offerPresence_choices (p : Part) :
    (Part.offerPresence p).choices = p.choices := by
  unfold Part.offerPresence; (try dsimp only); repeat' split
  all_goals simp
@[simp] theorem Part.offerClaim_rsq (p : Part) :
    (Part.offerClaim p).rsq = p.rsq := by
  unfold Part.offerClaim; (try dsimp only); repeat' split
  all_goals simp
@[simp] theorem Part.offerClaim_pcu (p : Part) :
    (Part.offerClaim p).pcu = p.pcu := by
  unfold Part.offerClaim; (try dsimp only); repeat' split
  all_goals simp
@[simp] theorem Part.offerClaim_adu (p : Part) :
    (Part.offerClaim p).adu = p.adu := by
  unfold Part.offerClaim; (try dsimp only); repeat' split
  all_goals simp
@[simp] theorem Part.offerClaim_pvw (p : Part) :
    (Part.offerClaim p).pvw = p.pvw := by
  unfold Part.offerClaim; (try dsimp only); repeat' split
  all_goals simp
@[simp] theorem Part.offerClaim_lif (p : Part) :
    (Part.offerClaim p).lif = p.lif := by
  unfold Part.offerClaim; (try dsimp only); repeat' split
  all_goals simp
@[simp] theorem Part.offerClaim_liu (p : Part) :
    (Part.offerClaim p).liu = p.liu := by
  unfold Part.offerClaim; (try dsimp only); repeat' split
  all_goals simp
@[simp] theorem Part.offerClaim_anu (p : Part) :
    (Part.offerClaim p).anu = p.anu := by
  unfold Part.offerClaim; (try dsimp only); repeat' split
  all_goals simp
@[simp] theorem Part.offerClaim_lpc (p : Part) :
    (Part.offerClaim p).lpc = p.lpc := by
  unfold Part.offerClaim; (try dsimp only); repeat' split
  all_goals simp
@[simp] theorem Part.offerClaim_pins (p : Part) :
    (Part.offerClaim p).pins = p.pins := by
  unfold Part.offerClaim; (try dsimp only); repeat' split
  all_goals simp
@[simp] theorem Part.offerClaim_choices (p : Part) :
    (Part.offerClaim p).choices = p.choices := by
  unfold Part.offerClaim; (try dsimp only); repeat' split
  all_goals simp
@[simp] theorem Part.changeState_adu (new : RescueState) (p : Part) :
    (Part.changeState new p).adu = p.adu := by
  unfold Part.changeState; (try dsimp only); repeat' split
  all_goals simp
@[simp] theorem Part.changeState_pvw (new : RescueState) (p : Part) :
    (Part.changeState new p).pvw = p.pvw := by
  unfold Part.changeState; (try dsimp only); repeat' split
  all_goals simp
@[simp] theorem Part.changeState_lif (new : RescueState) (p : Part) :
    (Part.changeState new p).lif = p.lif := by
  unfold Part.changeState; (try dsimp only); repeat' split
  all_goals simp
@[simp] theorem Part.changeState_liu (new : RescueState) (p : Part) :
    (Part.changeState new p).liu = p.liu := by
  unfold Part.changeState; (try dsimp only); repeat' split
  all_goals simp
@[simp] theorem Part.changeState_lpc (new : RescueState) (p : Part) :
    (Part.changeState new p).lpc = p.lpc := by
  unfold Part.changeState; (try dsimp only); repeat' split
  all_goals simp
@[simp] theorem Part.changeState_pins (new : RescueState) (p : Part) :
    (Part.changeState new p).pins = p.pins := by
  unfold Part.changeState; (try dsimp only); repeat' split
  all_goals simp
@[simp] theorem Part.changeState_choices (new : RescueState) (p : Part) :
    (Part.changeState new p).choices = p.choices := by
  unfold Part.changeState; (try dsimp only); repeat' split
  all_goals simp
@[simp] theorem Part.enterAtRest_adu (new : RescueState) (p : Part) :
    (Part.enterAtRest new p).adu = p.adu := by
  unfold Part.enterAtRest; (try dsimp only); repeat' split
  all_goals simp
@[simp] theorem Part.enterAtRest_pvw (new : RescueState) (p : Part) :
    (Part.enterAtRest new p).pvw = p.pvw := by
  unfold Part.enterAtRest; (try dsimp only); repeat' split
  all_goals simp
@[simp] theorem Part.enterAtRest_lif (new : RescueState) (p : Part) :
    (Part.enterAtRest new p).lif = p.lif := by
  unfold Part.enterAtRest; (try dsimp only); repeat' split
  all_goals simp
@[simp] theorem Part.enterAtRest_liu (new : RescueState) (p : Part) :
    (Part.enterAtRest new p).liu = p.liu := by
  unfold Part.enterAtRest; (try dsimp only); repeat' split
  all_goals simp
@[simp] theorem Part.enterAtRest_lpc (new : RescueState) (p : Part) :
    (Part.enterAtRest new p).lpc = p.lpc := by
  unfold Part.enterAtRest; (try dsimp only); repeat' split
  all_goals simp
@[simp] theorem Part.enterAtRest_pins (new : RescueState) (p : Part) :
    (Part.enterAtRest new p).pins = p.pins := by
  unfold Part.enterAtRest; (try dsimp only); repeat' split
  all_goals simp
@[simp] theorem Part.enterAtRest_choices (new : RescueState) (p : Part) :
    (Part.enterAtRest new p).choices = p.choices := by
  unfold Part.enterAtRest; (try dsimp only); repeat' split
  all_goals simp
@[simp] theorem Part.requestPhrase_rsq (ev : Announcement) (p : Part) :
    (Part.requestPhrase ev p).rsq = p.rsq := by
  unfold Part.requestPhrase; (try dsimp only); repeat' split
  all_goals simp
@[simp] theorem Part.requestPhrase_pcu (ev : Announcement) (p : Part) :
    (Part.requestPhrase ev p).pcu = p.pcu := by
  unfold Part.requestPhrase; (try dsimp only); repeat' split
  all_goals simp
@[simp] theorem Part.requestPhrase_adu (ev : Announcement) (p : Part) :
    (Part.requestPhrase ev p).adu = p.adu := by
  unfold Part.requestPhrase; (try dsimp only); repeat' split
  all_goals simp
@[simp] theorem Part.requestPhrase_pvw (ev : Announcement) (p : Part) :
    (Part.requestPhrase ev p).pvw = p.pvw := by
  unfold Part.requestPhrase; (try dsimp only); repeat' split
  all_goals simp
@[simp] theorem Part.requestPhrase_fre (ev : Announcement) (p : Part) :
    (Part.requestPhrase ev p).fre = p.fre := by
  unfold Part.requestPhrase; (try dsimp only); repeat' split
  all_goals simp
@[simp] theorem Part.requestPhrase_lif (ev : Announcement) (p : Part) :
    (Part.requestPhrase ev p).lif = p.lif := by
  unfold Part.requestPhrase; (try dsimp only); repeat' split
  all_goals simp
@[simp] theorem Part.requestPhrase_liu (ev : Announcement) (p : Part) :
    (Part.requestPhrase ev p).liu = p.liu := by
  unfold Part.requestPhrase; (try dsimp only); repeat' split
  all_goals simp
@[simp] theorem Part.requestPhrase_lpc (ev : Announcement) (p : Part) :
    (Part.requestPhrase ev p).lpc = p.lpc := by
  unfold Part.requestPhrase; (try dsimp only); repeat' split
  all_goals simp
@[simp] theorem Part.requestPhrase_pins (ev : Announcement) (p : Part) :
    (Part.requestPhrase ev p).pins = p.pins := by
  unfold Part.requestPhrase; (try dsimp only); repeat' split
  all_goals simp
@[simp] theorem Part.requestPhrase_choices (ev : Announcement) (p : Part) :
    (Part.requestPhrase ev p).choices = p.choices := by
  unfold Part.requestPhrase; (try dsimp only); repeat' split
  all_goals simp
@[simp] theorem Part.enterVerify_adu (p : Part) :
    (Part.enterVerify p).adu = p.adu := by
  unfold Part.enterVerify; (try dsimp only); repeat' split
  all_goals simp
@[simp] theorem Part.enterVerify_pvw (p : Part) :
    (Part.enterVerify p).pvw = p.pvw := by
  unfold Part.enterVerify; (try dsimp only); repeat' split
  all_goals simp
@[simp] theorem Part.enterVerify_lif (p : Part) :
    (Part.enterVerify p).lif = p.lif := by
  unfold Part.enterVerify; (try dsimp only); repeat' split
  all_goals simp
@[simp] theorem Part.enterVerify_liu (p : Part) :
    (Part.enterVerify p).liu = p.liu := by
  unfold Part.enterVerify; (try dsimp only); repeat' split
  all_goals simp
@[simp] theorem Part.enterVerify_lpc (p : Part) :
    (Part.enterVerify p).lpc = p.lpc := by
  unfold Part.enterVerify; (try dsimp only); repeat' split
  all_goals simp
@[simp] theorem Part.enterVerify_pins (p : Part) :
    (Part.enterVerify p).pins = p.pins := by
  unfold Part.enterVerify; (try dsimp only); repeat' split
  all_goals simp
@[simp] theorem Part.enterVerify_choices (p : Part) :
    (Part.enterVerify p).choices = p.choices := by
  unfold Part.enterVerify; (try dsimp only); repeat' split
  all_goals simp
@[simp] theorem Part.enterWatch_adu (p : Part) :
    (Part.enterWatch p).adu = p.adu := by
  unfold Part.enterWatch; (try dsimp only); repeat' split
  all_goals simp
@[simp] theorem Part.enterWatch_pvw (p : Part) :
    (Part.enterWatch p).pvw = p.pvw := by
  unfold Part.enterWatch; (try dsimp only); repeat' split
  all_goals simp
@[simp] theorem Part.enterWatch_lif (p : Part) :
    (Part.enterWatch p).lif = p.lif := by
  unfold Part.enterWatch; (try dsimp only); repeat' split
  all_goals simp
@[simp] theorem Part.enterWatch_liu (p : Part) :
    (Part.enterWatch p).liu = p.liu := by
  unfold Part.enterWatch; (try dsimp only); repeat' split
  all_goals simp
@[simp] theorem Part.enterWatch_lpc (p : Part) :
    (Part.enterWatch p).lpc = p.lpc := by
  unfold Part.enterWatch; (try dsimp only); repeat' split
  all_goals simp
@[simp] theorem Part.enterWatch_pins (p : Part) :
    (Part.enterWatch p).pins = p.pins := by
  unfold Part.enterWatch; (try dsimp only); repeat' split
  all_goals simp
@[simp] theorem Part.enterWatch_choices (p : Part) :
    (Part.enterWatch p).choices = p.choices := by
  unfold Part.enterWatch; (try dsimp only); repeat' split
  all_goals simp
@[simp] theorem Part.enterParked_adu (p : Part) :
    (Part.enterParked p).adu = p.adu := by
  unfold Part.enterParked; (try dsimp only); repeat' split
  all_goals simp
@[simp] theorem Part.enterParked_pvw (p : Part) :
    (Part.enterParked p).pvw = p.pvw := by
  unfold Part.enterParked; (try dsimp only); repeat' split
  all_goals simp
@[simp] theorem Part.enterParked_lif (p : Part) :
    (Part.enterParked p).lif = p.lif := by
  unfold Part.enterParked; (try dsimp only); repeat' split
  all_goals simp
@[simp] theorem Part.enterParked_liu (p : Part) :
    (Part.enterParked p).liu = p.liu := by
  unfold Part.enterParked; (try dsimp only); repeat' split
  all_goals simp
@[simp] theorem Part.enterParked_lpc (p : Part) :
    (Part.enterParked p).lpc = p.lpc := by
  unfold Part.enterParked; (try dsimp only); repeat' split
  all_goals simp
@[simp] theorem Part.enterParked_pins (p : Part) :
    (Part.enterParked p).pins = p.pins := by
  unfold Part.enterParked; (try dsimp only); repeat' split
  all_goals simp
@[simp] theorem Part.enterParked_choices (p : Part) :
    (Part.enterParked p).choices = p.choices := by
  unfold Part.enterParked; (try dsimp only); repeat' split
  all_goals simp
@[simp] theorem Part.ended_rsq (outcome : ReleaseOutcome) (p : Part) :
    (Part.ended outcome p).rsq = p.rsq := by
  unfold Part.ended; (try dsimp only); repeat' split
  all_goals simp
@[simp] theorem Part.ended_pcu (outcome : ReleaseOutcome) (p : Part) :
    (Part.ended outcome p).pcu = p.pcu := by
  unfold Part.ended; (try dsimp only); repeat' split
  all_goals simp
@[simp] theorem Part.ended_pvw (outcome : ReleaseOutcome) (p : Part) :
    (Part.ended outcome p).pvw = p.pvw := by
  unfold Part.ended; (try dsimp only); repeat' split
  all_goals simp
@[simp] theorem Part.ended_lif (outcome : ReleaseOutcome) (p : Part) :
    (Part.ended outcome p).lif = p.lif := by
  unfold Part.ended; (try dsimp only); repeat' split
  all_goals simp
@[simp] theorem Part.ended_liu (outcome : ReleaseOutcome) (p : Part) :
    (Part.ended outcome p).liu = p.liu := by
  unfold Part.ended; (try dsimp only); repeat' split
  all_goals simp
@[simp] theorem Part.ended_anu (outcome : ReleaseOutcome) (p : Part) :
    (Part.ended outcome p).anu = p.anu := by
  unfold Part.ended; (try dsimp only); repeat' split
  all_goals simp
@[simp] theorem Part.ended_lpc (outcome : ReleaseOutcome) (p : Part) :
    (Part.ended outcome p).lpc = p.lpc := by
  unfold Part.ended; (try dsimp only); repeat' split
  all_goals simp
@[simp] theorem Part.ended_pins (outcome : ReleaseOutcome) (p : Part) :
    (Part.ended outcome p).pins = p.pins := by
  unfold Part.ended; (try dsimp only); repeat' split
  all_goals simp
@[simp] theorem Part.ended_choices (outcome : ReleaseOutcome) (p : Part) :
    (Part.ended outcome p).choices = p.choices := by
  unfold Part.ended; (try dsimp only); repeat' split
  all_goals simp
@[simp] theorem Part.neededDraw_rsq (needed : Nat) (p : Part) :
    (Part.neededDraw needed p).rsq = p.rsq := by
  unfold Part.neededDraw; (try dsimp only); repeat' split
  all_goals simp
@[simp] theorem Part.neededDraw_pcu (needed : Nat) (p : Part) :
    (Part.neededDraw needed p).pcu = p.pcu := by
  unfold Part.neededDraw; (try dsimp only); repeat' split
  all_goals simp
@[simp] theorem Part.neededDraw_pvw (needed : Nat) (p : Part) :
    (Part.neededDraw needed p).pvw = p.pvw := by
  unfold Part.neededDraw; (try dsimp only); repeat' split
  all_goals simp
@[simp] theorem Part.neededDraw_lif (needed : Nat) (p : Part) :
    (Part.neededDraw needed p).lif = p.lif := by
  unfold Part.neededDraw; (try dsimp only); repeat' split
  all_goals simp
@[simp] theorem Part.neededDraw_liu (needed : Nat) (p : Part) :
    (Part.neededDraw needed p).liu = p.liu := by
  unfold Part.neededDraw; (try dsimp only); repeat' split
  all_goals simp
@[simp] theorem Part.neededDraw_anu (needed : Nat) (p : Part) :
    (Part.neededDraw needed p).anu = p.anu := by
  unfold Part.neededDraw; (try dsimp only); repeat' split
  all_goals simp
@[simp] theorem Part.neededDraw_lpc (needed : Nat) (p : Part) :
    (Part.neededDraw needed p).lpc = p.lpc := by
  unfold Part.neededDraw; (try dsimp only); repeat' split
  all_goals simp
@[simp] theorem Part.neededDraw_pins (needed : Nat) (p : Part) :
    (Part.neededDraw needed p).pins = p.pins := by
  unfold Part.neededDraw; (try dsimp only); repeat' split
  all_goals simp
@[simp] theorem Part.neededDraw_choices (needed : Nat) (p : Part) :
    (Part.neededDraw needed p).choices = p.choices := by
  unfold Part.neededDraw; (try dsimp only); repeat' split
  all_goals simp
@[simp] theorem Part.enterLanded_pvw (p : Part) :
    (Part.enterLanded p).pvw = p.pvw := by
  unfold Part.enterLanded; (try dsimp only); repeat' split
  all_goals simp
@[simp] theorem Part.enterLanded_lif (p : Part) :
    (Part.enterLanded p).lif = p.lif := by
  unfold Part.enterLanded; (try dsimp only); repeat' split
  all_goals simp
@[simp] theorem Part.enterLanded_liu (p : Part) :
    (Part.enterLanded p).liu = p.liu := by
  unfold Part.enterLanded; (try dsimp only); repeat' split
  all_goals simp
@[simp] theorem Part.enterLanded_lpc (p : Part) :
    (Part.enterLanded p).lpc = p.lpc := by
  unfold Part.enterLanded; (try dsimp only); repeat' split
  all_goals simp
@[simp] theorem Part.enterLanded_pins (p : Part) :
    (Part.enterLanded p).pins = p.pins := by
  unfold Part.enterLanded; (try dsimp only); repeat' split
  all_goals simp
@[simp] theorem Part.enterLanded_choices (p : Part) :
    (Part.enterLanded p).choices = p.choices := by
  unfold Part.enterLanded; (try dsimp only); repeat' split
  all_goals simp
@[simp] theorem Part.enterDoors_pvw (p : Part) :
    (Part.enterDoors p).pvw = p.pvw := by
  unfold Part.enterDoors; (try dsimp only); repeat' split
  all_goals simp
@[simp] theorem Part.enterDoors_lif (p : Part) :
    (Part.enterDoors p).lif = p.lif := by
  unfold Part.enterDoors; (try dsimp only); repeat' split
  all_goals simp
@[simp] theorem Part.enterDoors_liu (p : Part) :
    (Part.enterDoors p).liu = p.liu := by
  unfold Part.enterDoors; (try dsimp only); repeat' split
  all_goals simp
@[simp] theorem Part.enterDoors_lpc (p : Part) :
    (Part.enterDoors p).lpc = p.lpc := by
  unfold Part.enterDoors; (try dsimp only); repeat' split
  all_goals simp
@[simp] theorem Part.enterDoors_pins (p : Part) :
    (Part.enterDoors p).pins = p.pins := by
  unfold Part.enterDoors; (try dsimp only); repeat' split
  all_goals simp
@[simp] theorem Part.enterDoors_choices (p : Part) :
    (Part.enterDoors p).choices = p.choices := by
  unfold Part.enterDoors; (try dsimp only); repeat' split
  all_goals simp
@[simp] theorem Part.enterHalted_pvw (cause : Cause) (p : Part) :
    (Part.enterHalted cause p).pvw = p.pvw := by
  unfold Part.enterHalted; (try dsimp only); repeat' split
  all_goals simp
@[simp] theorem Part.enterHalted_lif (cause : Cause) (p : Part) :
    (Part.enterHalted cause p).lif = p.lif := by
  unfold Part.enterHalted; (try dsimp only); repeat' split
  all_goals simp
@[simp] theorem Part.enterHalted_liu (cause : Cause) (p : Part) :
    (Part.enterHalted cause p).liu = p.liu := by
  unfold Part.enterHalted; (try dsimp only); repeat' split
  all_goals simp
@[simp] theorem Part.enterHalted_lpc (cause : Cause) (p : Part) :
    (Part.enterHalted cause p).lpc = p.lpc := by
  unfold Part.enterHalted; (try dsimp only); repeat' split
  all_goals simp
@[simp] theorem Part.enterHalted_pins (cause : Cause) (p : Part) :
    (Part.enterHalted cause p).pins = p.pins := by
  unfold Part.enterHalted; (try dsimp only); repeat' split
  all_goals simp
@[simp] theorem Part.enterHalted_choices (cause : Cause) (p : Part) :
    (Part.enterHalted cause p).choices = p.choices := by
  unfold Part.enterHalted; (try dsimp only); repeat' split
  all_goals simp
@[simp] theorem Part.enterLevel_pvw (p : Part) :
    (Part.enterLevel p).pvw = p.pvw := by
  unfold Part.enterLevel; (try dsimp only); repeat' split
  all_goals simp
@[simp] theorem Part.enterLevel_lif (p : Part) :
    (Part.enterLevel p).lif = p.lif := by
  unfold Part.enterLevel; (try dsimp only); repeat' split
  all_goals simp
@[simp] theorem Part.enterLevel_liu (p : Part) :
    (Part.enterLevel p).liu = p.liu := by
  unfold Part.enterLevel; (try dsimp only); repeat' split
  all_goals simp
@[simp] theorem Part.enterLevel_lpc (p : Part) :
    (Part.enterLevel p).lpc = p.lpc := by
  unfold Part.enterLevel; (try dsimp only); repeat' split
  all_goals simp
@[simp] theorem Part.enterLevel_pins (p : Part) :
    (Part.enterLevel p).pins = p.pins := by
  unfold Part.enterLevel; (try dsimp only); repeat' split
  all_goals simp
@[simp] theorem Part.enterLevel_choices (p : Part) :
    (Part.enterLevel p).choices = p.choices := by
  unfold Part.enterLevel; (try dsimp only); repeat' split
  all_goals simp
@[simp] theorem Part.enterCreep_adu (p : Part) :
    (Part.enterCreep p).adu = p.adu := by
  unfold Part.enterCreep; (try dsimp only); repeat' split
  all_goals simp
@[simp] theorem Part.enterCreep_pvw (p : Part) :
    (Part.enterCreep p).pvw = p.pvw := by
  unfold Part.enterCreep; (try dsimp only); repeat' split
  all_goals simp
@[simp] theorem Part.enterCreep_lif (p : Part) :
    (Part.enterCreep p).lif = p.lif := by
  unfold Part.enterCreep; (try dsimp only); repeat' split
  all_goals simp
@[simp] theorem Part.enterCreep_liu (p : Part) :
    (Part.enterCreep p).liu = p.liu := by
  unfold Part.enterCreep; (try dsimp only); repeat' split
  all_goals simp
@[simp] theorem Part.enterCreep_lpc (p : Part) :
    (Part.enterCreep p).lpc = p.lpc := by
  unfold Part.enterCreep; (try dsimp only); repeat' split
  all_goals simp
@[simp] theorem Part.enterCreep_pins (p : Part) :
    (Part.enterCreep p).pins = p.pins := by
  unfold Part.enterCreep; (try dsimp only); repeat' split
  all_goals simp
@[simp] theorem Part.enterCreep_choices (p : Part) :
    (Part.enterCreep p).choices = p.choices := by
  unfold Part.enterCreep; (try dsimp only); repeat' split
  all_goals simp
@[simp] theorem Part.enterProbe_adu (p : Part) :
    (Part.enterProbe p).adu = p.adu := by
  unfold Part.enterProbe; (try dsimp only); repeat' split
  all_goals simp
@[simp] theorem Part.enterProbe_pvw (p : Part) :
    (Part.enterProbe p).pvw = p.pvw := by
  unfold Part.enterProbe; (try dsimp only); repeat' split
  all_goals simp
@[simp] theorem Part.enterProbe_lif (p : Part) :
    (Part.enterProbe p).lif = p.lif := by
  unfold Part.enterProbe; (try dsimp only); repeat' split
  all_goals simp
@[simp] theorem Part.enterProbe_liu (p : Part) :
    (Part.enterProbe p).liu = p.liu := by
  unfold Part.enterProbe; (try dsimp only); repeat' split
  all_goals simp
@[simp] theorem Part.enterProbe_lpc (p : Part) :
    (Part.enterProbe p).lpc = p.lpc := by
  unfold Part.enterProbe; (try dsimp only); repeat' split
  all_goals simp
@[simp] theorem Part.enterProbe_pins (p : Part) :
    (Part.enterProbe p).pins = p.pins := by
  unfold Part.enterProbe; (try dsimp only); repeat' split
  all_goals simp
@[simp] theorem Part.enterProbe_choices (p : Part) :
    (Part.enterProbe p).choices = p.choices := by
  unfold Part.enterProbe; (try dsimp only); repeat' split
  all_goals simp
@[simp] theorem Part.movingReport_adu (r : MovingReport) (p : Part) :
    (Part.movingReport r p).adu = p.adu := by
  unfold Part.movingReport; (try dsimp only); repeat' split
  all_goals simp
@[simp] theorem Part.movingReport_pvw (r : MovingReport) (p : Part) :
    (Part.movingReport r p).pvw = p.pvw := by
  unfold Part.movingReport; (try dsimp only); repeat' split
  all_goals simp
@[simp] theorem Part.movingReport_lif (r : MovingReport) (p : Part) :
    (Part.movingReport r p).lif = p.lif := by
  unfold Part.movingReport; (try dsimp only); repeat' split
  all_goals simp
@[simp] theorem Part.movingReport_liu (r : MovingReport) (p : Part) :
    (Part.movingReport r p).liu = p.liu := by
  unfold Part.movingReport; (try dsimp only); repeat' split
  all_goals simp
@[simp] theorem Part.movingReport_lpc (r : MovingReport) (p : Part) :
    (Part.movingReport r p).lpc = p.lpc := by
  unfold Part.movingReport; (try dsimp only); repeat' split
  all_goals simp
@[simp] theorem Part.movingReport_pins (r : MovingReport) (p : Part) :
    (Part.movingReport r p).pins = p.pins := by
  unfold Part.movingReport; (try dsimp only); repeat' split
  all_goals simp
@[simp] theorem Part.movingReport_choices (r : MovingReport) (p : Part) :
    (Part.movingReport r p).choices = p.choices := by
  unfold Part.movingReport; (try dsimp only); repeat' split
  all_goals simp
@[simp] theorem Part.takeMoving_adu (r : Option MovingReport) (p : Part) :
    (Part.takeMoving r p).adu = p.adu := by
  unfold Part.takeMoving; (try dsimp only); repeat' split
  all_goals simp
@[simp] theorem Part.takeMoving_pvw (r : Option MovingReport) (p : Part) :
    (Part.takeMoving r p).pvw = p.pvw := by
  unfold Part.takeMoving; (try dsimp only); repeat' split
  all_goals simp
@[simp] theorem Part.takeMoving_lif (r : Option MovingReport) (p : Part) :
    (Part.takeMoving r p).lif = p.lif := by
  unfold Part.takeMoving; (try dsimp only); repeat' split
  all_goals simp
@[simp] theorem Part.takeMoving_liu (r : Option MovingReport) (p : Part) :
    (Part.takeMoving r p).liu = p.liu := by
  unfold Part.takeMoving; (try dsimp only); repeat' split
  all_goals simp
@[simp] theorem Part.takeMoving_lpc (r : Option MovingReport) (p : Part) :
    (Part.takeMoving r p).lpc = p.lpc := by
  unfold Part.takeMoving; (try dsimp only); repeat' split
  all_goals simp
@[simp] theorem Part.takeMoving_pins (r : Option MovingReport) (p : Part) :
    (Part.takeMoving r p).pins = p.pins := by
  unfold Part.takeMoving; (try dsimp only); repeat' split
  all_goals simp
@[simp] theorem Part.takeMoving_choices (r : Option MovingReport) (p : Part) :
    (Part.takeMoving r p).choices = p.choices := by
  unfold Part.takeMoving; (try dsimp only); repeat' split
  all_goals simp
@[simp] theorem Part.enterWarn_adu (p : Part) :
    (Part.enterWarn p).adu = p.adu := by
  unfold Part.enterWarn; (try dsimp only); repeat' split
  all_goals simp
@[simp] theorem Part.enterWarn_pvw (p : Part) :
    (Part.enterWarn p).pvw = p.pvw := by
  unfold Part.enterWarn; (try dsimp only); repeat' split
  all_goals simp
@[simp] theorem Part.enterWarn_lif (p : Part) :
    (Part.enterWarn p).lif = p.lif := by
  unfold Part.enterWarn; (try dsimp only); repeat' split
  all_goals simp
@[simp] theorem Part.enterWarn_liu (p : Part) :
    (Part.enterWarn p).liu = p.liu := by
  unfold Part.enterWarn; (try dsimp only); repeat' split
  all_goals simp
@[simp] theorem Part.enterWarn_lpc (p : Part) :
    (Part.enterWarn p).lpc = p.lpc := by
  unfold Part.enterWarn; (try dsimp only); repeat' split
  all_goals simp
@[simp] theorem Part.enterWarn_pins (p : Part) :
    (Part.enterWarn p).pins = p.pins := by
  unfold Part.enterWarn; (try dsimp only); repeat' split
  all_goals simp
@[simp] theorem Part.enterWarn_choices (p : Part) :
    (Part.enterWarn p).choices = p.choices := by
  unfold Part.enterWarn; (try dsimp only); repeat' split
  all_goals simp
@[simp] theorem Part.enterBlocked_adu (cause : Cause) (p : Part) :
    (Part.enterBlocked cause p).adu = p.adu := by
  unfold Part.enterBlocked; (try dsimp only); repeat' split
  all_goals simp
@[simp] theorem Part.enterBlocked_pvw (cause : Cause) (p : Part) :
    (Part.enterBlocked cause p).pvw = p.pvw := by
  unfold Part.enterBlocked; (try dsimp only); repeat' split
  all_goals simp
@[simp] theorem Part.enterBlocked_lif (cause : Cause) (p : Part) :
    (Part.enterBlocked cause p).lif = p.lif := by
  unfold Part.enterBlocked; (try dsimp only); repeat' split
  all_goals simp
@[simp] theorem Part.enterBlocked_liu (cause : Cause) (p : Part) :
    (Part.enterBlocked cause p).liu = p.liu := by
  unfold Part.enterBlocked; (try dsimp only); repeat' split
  all_goals simp
@[simp] theorem Part.enterBlocked_lpc (cause : Cause) (p : Part) :
    (Part.enterBlocked cause p).lpc = p.lpc := by
  unfold Part.enterBlocked; (try dsimp only); repeat' split
  all_goals simp
@[simp] theorem Part.enterBlocked_pins (cause : Cause) (p : Part) :
    (Part.enterBlocked cause p).pins = p.pins := by
  unfold Part.enterBlocked; (try dsimp only); repeat' split
  all_goals simp
@[simp] theorem Part.enterBlocked_choices (cause : Cause) (p : Part) :
    (Part.enterBlocked cause p).choices = p.choices := by
  unfold Part.enterBlocked; (try dsimp only); repeat' split
  all_goals simp
@[simp] theorem Part.withdraw_rsq (p : Part) :
    (Part.withdraw p).rsq = p.rsq := by
  unfold Part.withdraw; (try dsimp only); repeat' split
  all_goals simp
@[simp] theorem Part.withdraw_pcu (p : Part) :
    (Part.withdraw p).pcu = p.pcu := by
  unfold Part.withdraw; (try dsimp only); repeat' split
  all_goals simp
@[simp] theorem Part.withdraw_pvw (p : Part) :
    (Part.withdraw p).pvw = p.pvw := by
  unfold Part.withdraw; (try dsimp only); repeat' split
  all_goals simp
@[simp] theorem Part.withdraw_lif (p : Part) :
    (Part.withdraw p).lif = p.lif := by
  unfold Part.withdraw; (try dsimp only); repeat' split
  all_goals simp
@[simp] theorem Part.withdraw_liu (p : Part) :
    (Part.withdraw p).liu = p.liu := by
  unfold Part.withdraw; (try dsimp only); repeat' split
  all_goals simp
@[simp] theorem Part.withdraw_anu (p : Part) :
    (Part.withdraw p).anu = p.anu := by
  unfold Part.withdraw; (try dsimp only); repeat' split
  all_goals simp
@[simp] theorem Part.withdraw_lpc (p : Part) :
    (Part.withdraw p).lpc = p.lpc := by
  unfold Part.withdraw; (try dsimp only); repeat' split
  all_goals simp
@[simp] theorem Part.withdraw_pins (p : Part) :
    (Part.withdraw p).pins = p.pins := by
  unfold Part.withdraw; (try dsimp only); repeat' split
  all_goals simp
@[simp] theorem Part.withdraw_choices (p : Part) :
    (Part.withdraw p).choices = p.choices := by
  unfold Part.withdraw; (try dsimp only); repeat' split
  all_goals simp
@[simp] theorem Part.admitted_pvw (p : Part) :
    (Part.admitted p).pvw = p.pvw := by
  unfold Part.admitted; (try dsimp only); repeat' split
  all_goals simp
@[simp] theorem Part.admitted_lif (p : Part) :
    (Part.admitted p).lif = p.lif := by
  unfold Part.admitted; (try dsimp only); repeat' split
  all_goals simp
@[simp] theorem Part.admitted_liu (p : Part) :
    (Part.admitted p).liu = p.liu := by
  unfold Part.admitted; (try dsimp only); repeat' split
  all_goals simp
@[simp] theorem Part.admitted_lpc (p : Part) :
    (Part.admitted p).lpc = p.lpc := by
  unfold Part.admitted; (try dsimp only); repeat' split
  all_goals simp
@[simp] theorem Part.admitted_pins (p : Part) :
    (Part.admitted p).pins = p.pins := by
  unfold Part.admitted; (try dsimp only); repeat' split
  all_goals simp
@[simp] theorem Part.admitted_choices (p : Part) :
    (Part.admitted p).choices = p.choices := by
  unfold Part.admitted; (try dsimp only); repeat' split
  all_goals simp
@[simp] theorem Part.lineBlocked_adu (p : Part) :
    (Part.lineBlocked p).adu = p.adu := by
  unfold Part.lineBlocked; (try dsimp only); repeat' split
  all_goals simp
@[simp] theorem Part.lineBlocked_pvw (p : Part) :
    (Part.lineBlocked p).pvw = p.pvw := by
  unfold Part.lineBlocked; (try dsimp only); repeat' split
  all_goals simp
@[simp] theorem Part.lineBlocked_lif (p : Part) :
    (Part.lineBlocked p).lif = p.lif := by
  unfold Part.lineBlocked; (try dsimp only); repeat' split
  all_goals simp
@[simp] theorem Part.lineBlocked_liu (p : Part) :
    (Part.lineBlocked p).liu = p.liu := by
  unfold Part.lineBlocked; (try dsimp only); repeat' split
  all_goals simp
@[simp] theorem Part.lineBlocked_lpc (p : Part) :
    (Part.lineBlocked p).lpc = p.lpc := by
  unfold Part.lineBlocked; (try dsimp only); repeat' split
  all_goals simp
@[simp] theorem Part.lineBlocked_pins (p : Part) :
    (Part.lineBlocked p).pins = p.pins := by
  unfold Part.lineBlocked; (try dsimp only); repeat' split
  all_goals simp
@[simp] theorem Part.lineBlocked_choices (p : Part) :
    (Part.lineBlocked p).choices = p.choices := by
  unfold Part.lineBlocked; (try dsimp only); repeat' split
  all_goals simp
@[simp] theorem Part.soloRule_pvw (p : Part) :
    (Part.soloRule p).pvw = p.pvw := by
  unfold Part.soloRule; (try dsimp only); repeat' split
  all_goals simp
@[simp] theorem Part.soloRule_lif (p : Part) :
    (Part.soloRule p).lif = p.lif := by
  unfold Part.soloRule; (try dsimp only); repeat' split
  all_goals simp
@[simp] theorem Part.soloRule_liu (p : Part) :
    (Part.soloRule p).liu = p.liu := by
  unfold Part.soloRule; (try dsimp only); repeat' split
  all_goals simp
@[simp] theorem Part.soloRule_lpc (p : Part) :
    (Part.soloRule p).lpc = p.lpc := by
  unfold Part.soloRule; (try dsimp only); repeat' split
  all_goals simp
@[simp] theorem Part.soloRule_pins (p : Part) :
    (Part.soloRule p).pins = p.pins := by
  unfold Part.soloRule; (try dsimp only); repeat' split
  all_goals simp
@[simp] theorem Part.soloRule_choices (p : Part) :
    (Part.soloRule p).choices = p.choices := by
  unfold Part.soloRule; (try dsimp only); repeat' split
  all_goals simp
@[simp] theorem Part.queueing_pvw (asked : Bool) (p : Part) :
    (Part.queueing asked p).pvw = p.pvw := by
  unfold Part.queueing; (try dsimp only); repeat' split
  all_goals simp
@[simp] theorem Part.queueing_lif (asked : Bool) (p : Part) :
    (Part.queueing asked p).lif = p.lif := by
  unfold Part.queueing; (try dsimp only); repeat' split
  all_goals simp
@[simp] theorem Part.queueing_liu (asked : Bool) (p : Part) :
    (Part.queueing asked p).liu = p.liu := by
  unfold Part.queueing; (try dsimp only); repeat' split
  all_goals simp
@[simp] theorem Part.queueing_lpc (asked : Bool) (p : Part) :
    (Part.queueing asked p).lpc = p.lpc := by
  unfold Part.queueing; (try dsimp only); repeat' split
  all_goals simp
@[simp] theorem Part.queueing_pins (asked : Bool) (p : Part) :
    (Part.queueing asked p).pins = p.pins := by
  unfold Part.queueing; (try dsimp only); repeat' split
  all_goals simp
@[simp] theorem Part.queueing_choices (asked : Bool) (p : Part) :
    (Part.queueing asked p).choices = p.choices := by
  unfold Part.queueing; (try dsimp only); repeat' split
  all_goals simp
@[simp] theorem Part.seek_pvw (p : Part) :
    (Part.seek p).pvw = p.pvw := by
  unfold Part.seek; (try dsimp only); repeat' split
  all_goals simp
@[simp] theorem Part.seek_lif (p : Part) :
    (Part.seek p).lif = p.lif := by
  unfold Part.seek; (try dsimp only); repeat' split
  all_goals simp
@[simp] theorem Part.seek_liu (p : Part) :
    (Part.seek p).liu = p.liu := by
  unfold Part.seek; (try dsimp only); repeat' split
  all_goals simp
@[simp] theorem Part.seek_lpc (p : Part) :
    (Part.seek p).lpc = p.lpc := by
  unfold Part.seek; (try dsimp only); repeat' split
  all_goals simp
@[simp] theorem Part.seek_pins (p : Part) :
    (Part.seek p).pins = p.pins := by
  unfold Part.seek; (try dsimp only); repeat' split
  all_goals simp
@[simp] theorem Part.seek_choices (p : Part) :
    (Part.seek p).choices = p.choices := by
  unfold Part.seek; (try dsimp only); repeat' split
  all_goals simp
@[simp] theorem Part.lineTest_pvw (p : Part) :
    (Part.lineTest p).pvw = p.pvw := by
  unfold Part.lineTest; (try dsimp only); repeat' split
  all_goals simp
@[simp] theorem Part.lineTest_lif (p : Part) :
    (Part.lineTest p).lif = p.lif := by
  unfold Part.lineTest; (try dsimp only); repeat' split
  all_goals simp
@[simp] theorem Part.lineTest_liu (p : Part) :
    (Part.lineTest p).liu = p.liu := by
  unfold Part.lineTest; (try dsimp only); repeat' split
  all_goals simp
@[simp] theorem Part.lineTest_lpc (p : Part) :
    (Part.lineTest p).lpc = p.lpc := by
  unfold Part.lineTest; (try dsimp only); repeat' split
  all_goals simp
@[simp] theorem Part.lineTest_pins (p : Part) :
    (Part.lineTest p).pins = p.pins := by
  unfold Part.lineTest; (try dsimp only); repeat' split
  all_goals simp
@[simp] theorem Part.lineTest_choices (p : Part) :
    (Part.lineTest p).choices = p.choices := by
  unfold Part.lineTest; (try dsimp only); repeat' split
  all_goals simp
@[simp] theorem Part.retryTrigger_pvw (p : Part) :
    (Part.retryTrigger p).pvw = p.pvw := by
  unfold Part.retryTrigger; (try dsimp only); repeat' split
  all_goals simp
@[simp] theorem Part.retryTrigger_lif (p : Part) :
    (Part.retryTrigger p).lif = p.lif := by
  unfold Part.retryTrigger; (try dsimp only); repeat' split
  all_goals simp
@[simp] theorem Part.retryTrigger_liu (p : Part) :
    (Part.retryTrigger p).liu = p.liu := by
  unfold Part.retryTrigger; (try dsimp only); repeat' split
  all_goals simp
@[simp] theorem Part.retryTrigger_lpc (p : Part) :
    (Part.retryTrigger p).lpc = p.lpc := by
  unfold Part.retryTrigger; (try dsimp only); repeat' split
  all_goals simp
@[simp] theorem Part.retryTrigger_pins (p : Part) :
    (Part.retryTrigger p).pins = p.pins := by
  unfold Part.retryTrigger; (try dsimp only); repeat' split
  all_goals simp
@[simp] theorem Part.retryTrigger_choices (p : Part) :
    (Part.retryTrigger p).choices = p.choices := by
  unfold Part.retryTrigger; (try dsimp only); repeat' split
  all_goals simp
@[simp] theorem Part.lineBecameUnavailable_rsq (p : Part) :
    (Part.lineBecameUnavailable p).rsq = p.rsq := by
  unfold Part.lineBecameUnavailable; (try dsimp only); repeat' split
  all_goals simp
@[simp] theorem Part.lineBecameUnavailable_pcu (p : Part) :
    (Part.lineBecameUnavailable p).pcu = p.pcu := by
  unfold Part.lineBecameUnavailable; (try dsimp only); repeat' split
  all_goals simp
@[simp] theorem Part.lineBecameUnavailable_pvw (p : Part) :
    (Part.lineBecameUnavailable p).pvw = p.pvw := by
  unfold Part.lineBecameUnavailable; (try dsimp only); repeat' split
  all_goals simp
@[simp] theorem Part.lineBecameUnavailable_fre (p : Part) :
    (Part.lineBecameUnavailable p).fre = p.fre := by
  unfold Part.lineBecameUnavailable; (try dsimp only); repeat' split
  all_goals simp
@[simp] theorem Part.lineBecameUnavailable_lif (p : Part) :
    (Part.lineBecameUnavailable p).lif = p.lif := by
  unfold Part.lineBecameUnavailable; (try dsimp only); repeat' split
  all_goals simp
@[simp] theorem Part.lineBecameUnavailable_liu (p : Part) :
    (Part.lineBecameUnavailable p).liu = p.liu := by
  unfold Part.lineBecameUnavailable; (try dsimp only); repeat' split
  all_goals simp
@[simp] theorem Part.lineBecameUnavailable_anu (p : Part) :
    (Part.lineBecameUnavailable p).anu = p.anu := by
  unfold Part.lineBecameUnavailable; (try dsimp only); repeat' split
  all_goals simp
@[simp] theorem Part.lineBecameUnavailable_lpc (p : Part) :
    (Part.lineBecameUnavailable p).lpc = p.lpc := by
  unfold Part.lineBecameUnavailable; (try dsimp only); repeat' split
  all_goals simp
@[simp] theorem Part.lineBecameUnavailable_pins (p : Part) :
    (Part.lineBecameUnavailable p).pins = p.pins := by
  unfold Part.lineBecameUnavailable; (try dsimp only); repeat' split
  all_goals simp
@[simp] theorem Part.lineBecameUnavailable_choices (p : Part) :
    (Part.lineBecameUnavailable p).choices = p.choices := by
  unfold Part.lineBecameUnavailable; (try dsimp only); repeat' split
  all_goals simp
@[simp] theorem Part.reevaluateDeferral_lif (p : Part) :
    (Part.reevaluateDeferral p).lif = p.lif := by
  unfold Part.reevaluateDeferral; (try dsimp only); repeat' split
  all_goals simp
@[simp] theorem Part.reevaluateDeferral_liu (p : Part) :
    (Part.reevaluateDeferral p).liu = p.liu := by
  unfold Part.reevaluateDeferral; (try dsimp only); repeat' split
  all_goals simp
@[simp] theorem Part.reevaluateDeferral_lpc (p : Part) :
    (Part.reevaluateDeferral p).lpc = p.lpc := by
  unfold Part.reevaluateDeferral; (try dsimp only); repeat' split
  all_goals simp
@[simp] theorem Part.reevaluateDeferral_pins (p : Part) :
    (Part.reevaluateDeferral p).pins = p.pins := by
  unfold Part.reevaluateDeferral; (try dsimp only); repeat' split
  all_goals simp
@[simp] theorem Part.reevaluateDeferral_choices (p : Part) :
    (Part.reevaluateDeferral p).choices = p.choices := by
  unfold Part.reevaluateDeferral; (try dsimp only); repeat' split
  all_goals simp
@[simp] theorem Part.requestPlan_lif (p : Part) :
    (Part.requestPlan p).lif = p.lif := by
  unfold Part.requestPlan; (try dsimp only); repeat' split
  all_goals simp
@[simp] theorem Part.requestPlan_liu (p : Part) :
    (Part.requestPlan p).liu = p.liu := by
  unfold Part.requestPlan; (try dsimp only); repeat' split
  all_goals simp
@[simp] theorem Part.requestPlan_lpc (p : Part) :
    (Part.requestPlan p).lpc = p.lpc := by
  unfold Part.requestPlan; (try dsimp only); repeat' split
  all_goals simp
@[simp] theorem Part.requestPlan_pins (p : Part) :
    (Part.requestPlan p).pins = p.pins := by
  unfold Part.requestPlan; (try dsimp only); repeat' split
  all_goals simp
@[simp] theorem Part.requestPlan_choices (p : Part) :
    (Part.requestPlan p).choices = p.choices := by
  unfold Part.requestPlan; (try dsimp only); repeat' split
  all_goals simp
@[simp] theorem Part.recomputeKey_lif (p : Part) :
    (Part.recomputeKey p).lif = p.lif := by
  unfold Part.recomputeKey; (try dsimp only); repeat' split
  all_goals simp
@[simp] theorem Part.recomputeKey_liu (p : Part) :
    (Part.recomputeKey p).liu = p.liu := by
  unfold Part.recomputeKey; (try dsimp only); repeat' split
  all_goals simp
@[simp] theorem Part.recomputeKey_lpc (p : Part) :
    (Part.recomputeKey p).lpc = p.lpc := by
  unfold Part.recomputeKey; (try dsimp only); repeat' split
  all_goals simp
@[simp] theorem Part.recomputeKey_pins (p : Part) :
    (Part.recomputeKey p).pins = p.pins := by
  unfold Part.recomputeKey; (try dsimp only); repeat' split
  all_goals simp
@[simp] theorem Part.recomputeKey_choices (p : Part) :
    (Part.recomputeKey p).choices = p.choices := by
  unfold Part.recomputeKey; (try dsimp only); repeat' split
  all_goals simp
@[simp] theorem Part.enterWait_pvw (confirm : Bool) (p : Part) :
    (Part.enterWait confirm p).pvw = p.pvw := by
  unfold Part.enterWait; (try dsimp only); repeat' split
  all_goals simp
@[simp] theorem Part.enterWait_lif (confirm : Bool) (p : Part) :
    (Part.enterWait confirm p).lif = p.lif := by
  unfold Part.enterWait; (try dsimp only); repeat' split
  all_goals simp
@[simp] theorem Part.enterWait_liu (confirm : Bool) (p : Part) :
    (Part.enterWait confirm p).liu = p.liu := by
  unfold Part.enterWait; (try dsimp only); repeat' split
  all_goals simp
@[simp] theorem Part.enterWait_lpc (confirm : Bool) (p : Part) :
    (Part.enterWait confirm p).lpc = p.lpc := by
  unfold Part.enterWait; (try dsimp only); repeat' split
  all_goals simp
@[simp] theorem Part.enterWait_pins (confirm : Bool) (p : Part) :
    (Part.enterWait confirm p).pins = p.pins := by
  unfold Part.enterWait; (try dsimp only); repeat' split
  all_goals simp
@[simp] theorem Part.enterWait_choices (confirm : Bool) (p : Part) :
    (Part.enterWait confirm p).choices = p.choices := by
  unfold Part.enterWait; (try dsimp only); repeat' split
  all_goals simp
@[simp] theorem Part.replanBlocked_lif (p : Part) :
    (Part.replanBlocked p).lif = p.lif := by
  unfold Part.replanBlocked; (try dsimp only); repeat' split
  all_goals simp
@[simp] theorem Part.replanBlocked_liu (p : Part) :
    (Part.replanBlocked p).liu = p.liu := by
  unfold Part.replanBlocked; (try dsimp only); repeat' split
  all_goals simp
@[simp] theorem Part.replanBlocked_lpc (p : Part) :
    (Part.replanBlocked p).lpc = p.lpc := by
  unfold Part.replanBlocked; (try dsimp only); repeat' split
  all_goals simp
@[simp] theorem Part.replanBlocked_pins (p : Part) :
    (Part.replanBlocked p).pins = p.pins := by
  unfold Part.replanBlocked; (try dsimp only); repeat' split
  all_goals simp
@[simp] theorem Part.replanBlocked_choices (p : Part) :
    (Part.replanBlocked p).choices = p.choices := by
  unfold Part.replanBlocked; (try dsimp only); repeat' split
  all_goals simp
@[simp] theorem Part.withdrawToBlocked_pvw (cause : Cause) (p : Part) :
    (Part.withdrawToBlocked cause p).pvw = p.pvw := by
  unfold Part.withdrawToBlocked; (try dsimp only); repeat' split
  all_goals simp
@[simp] theorem Part.withdrawToBlocked_lif (cause : Cause) (p : Part) :
    (Part.withdrawToBlocked cause p).lif = p.lif := by
  unfold Part.withdrawToBlocked; (try dsimp only); repeat' split
  all_goals simp
@[simp] theorem Part.withdrawToBlocked_liu (cause : Cause) (p : Part) :
    (Part.withdrawToBlocked cause p).liu = p.liu := by
  unfold Part.withdrawToBlocked; (try dsimp only); repeat' split
  all_goals simp
@[simp] theorem Part.withdrawToBlocked_lpc (cause : Cause) (p : Part) :
    (Part.withdrawToBlocked cause p).lpc = p.lpc := by
  unfold Part.withdrawToBlocked; (try dsimp only); repeat' split
  all_goals simp
@[simp] theorem Part.withdrawToBlocked_pins (cause : Cause) (p : Part) :
    (Part.withdrawToBlocked cause p).pins = p.pins := by
  unfold Part.withdrawToBlocked; (try dsimp only); repeat' split
  all_goals simp
@[simp] theorem Part.withdrawToBlocked_choices (cause : Cause) (p : Part) :
    (Part.withdrawToBlocked cause p).choices = p.choices := by
  unfold Part.withdrawToBlocked; (try dsimp only); repeat' split
  all_goals simp
@[simp] theorem Part.decideCase_lif (p : Part) :
    (Part.decideCase p).lif = p.lif := by
  unfold Part.decideCase; (try dsimp only); repeat' split
  all_goals simp
@[simp] theorem Part.decideCase_liu (p : Part) :
    (Part.decideCase p).liu = p.liu := by
  unfold Part.decideCase; (try dsimp only); repeat' split
  all_goals simp
@[simp] theorem Part.decideCase_lpc (p : Part) :
    (Part.decideCase p).lpc = p.lpc := by
  unfold Part.decideCase; (try dsimp only); repeat' split
  all_goals simp
@[simp] theorem Part.decideCase_pins (p : Part) :
    (Part.decideCase p).pins = p.pins := by
  unfold Part.decideCase; (try dsimp only); repeat' split
  all_goals simp
@[simp] theorem Part.decideCase_choices (p : Part) :
    (Part.decideCase p).choices = p.choices := by
  unfold Part.decideCase; (try dsimp only); repeat' split
  all_goals simp
@[simp] theorem Part.replan_lif (p : Part) :
    (Part.replan p).lif = p.lif := by
  unfold Part.replan; (try dsimp only); repeat' split
  all_goals simp
@[simp] theorem Part.replan_liu (p : Part) :
    (Part.replan p).liu = p.liu := by
  unfold Part.replan; (try dsimp only); repeat' split
  all_goals simp
@[simp] theorem Part.replan_lpc (p : Part) :
    (Part.replan p).lpc = p.lpc := by
  unfold Part.replan; (try dsimp only); repeat' split
  all_goals simp
@[simp] theorem Part.replan_pins (p : Part) :
    (Part.replan p).pins = p.pins := by
  unfold Part.replan; (try dsimp only); repeat' split
  all_goals simp
@[simp] theorem Part.replan_choices (p : Part) :
    (Part.replan p).choices = p.choices := by
  unfold Part.replan; (try dsimp only); repeat' split
  all_goals simp
@[simp] theorem Part.raceEnds_lif (outcome : ProbeOutcome) (p : Part) :
    (Part.raceEnds outcome p).lif = p.lif := by
  unfold Part.raceEnds; (try dsimp only); repeat' split
  all_goals simp
@[simp] theorem Part.raceEnds_liu (outcome : ProbeOutcome) (p : Part) :
    (Part.raceEnds outcome p).liu = p.liu := by
  unfold Part.raceEnds; (try dsimp only); repeat' split
  all_goals simp
@[simp] theorem Part.raceEnds_lpc (outcome : ProbeOutcome) (p : Part) :
    (Part.raceEnds outcome p).lpc = p.lpc := by
  unfold Part.raceEnds; (try dsimp only); repeat' split
  all_goals simp
@[simp] theorem Part.raceEnds_pins (outcome : ProbeOutcome) (p : Part) :
    (Part.raceEnds outcome p).pins = p.pins := by
  unfold Part.raceEnds; (try dsimp only); repeat' split
  all_goals simp
@[simp] theorem Part.raceEnds_choices (outcome : ProbeOutcome) (p : Part) :
    (Part.raceEnds outcome p).choices = p.choices := by
  unfold Part.raceEnds; (try dsimp only); repeat' split
  all_goals simp
@[simp] theorem Part.stallRaised_adu (p : Part) :
    (Part.stallRaised p).adu = p.adu := by
  unfold Part.stallRaised; (try dsimp only); repeat' split
  all_goals simp
@[simp] theorem Part.stallRaised_pvw (p : Part) :
    (Part.stallRaised p).pvw = p.pvw := by
  unfold Part.stallRaised; (try dsimp only); repeat' split
  all_goals simp
@[simp] theorem Part.stallRaised_lif (p : Part) :
    (Part.stallRaised p).lif = p.lif := by
  unfold Part.stallRaised; (try dsimp only); repeat' split
  all_goals simp
@[simp] theorem Part.stallRaised_liu (p : Part) :
    (Part.stallRaised p).liu = p.liu := by
  unfold Part.stallRaised; (try dsimp only); repeat' split
  all_goals simp
@[simp] theorem Part.stallRaised_lpc (p : Part) :
    (Part.stallRaised p).lpc = p.lpc := by
  unfold Part.stallRaised; (try dsimp only); repeat' split
  all_goals simp
@[simp] theorem Part.stallRaised_pins (p : Part) :
    (Part.stallRaised p).pins = p.pins := by
  unfold Part.stallRaised; (try dsimp only); repeat' split
  all_goals simp
@[simp] theorem Part.stallRaised_choices (p : Part) :
    (Part.stallRaised p).choices = p.choices := by
  unfold Part.stallRaised; (try dsimp only); repeat' split
  all_goals simp
@[simp] theorem Part.stallWithdrawn_adu (p : Part) :
    (Part.stallWithdrawn p).adu = p.adu := by
  unfold Part.stallWithdrawn; (try dsimp only); repeat' split
  all_goals simp
@[simp] theorem Part.stallWithdrawn_pvw (p : Part) :
    (Part.stallWithdrawn p).pvw = p.pvw := by
  unfold Part.stallWithdrawn; (try dsimp only); repeat' split
  all_goals simp
@[simp] theorem Part.stallWithdrawn_lif (p : Part) :
    (Part.stallWithdrawn p).lif = p.lif := by
  unfold Part.stallWithdrawn; (try dsimp only); repeat' split
  all_goals simp
@[simp] theorem Part.stallWithdrawn_liu (p : Part) :
    (Part.stallWithdrawn p).liu = p.liu := by
  unfold Part.stallWithdrawn; (try dsimp only); repeat' split
  all_goals simp
@[simp] theorem Part.stallWithdrawn_lpc (p : Part) :
    (Part.stallWithdrawn p).lpc = p.lpc := by
  unfold Part.stallWithdrawn; (try dsimp only); repeat' split
  all_goals simp
@[simp] theorem Part.stallWithdrawn_pins (p : Part) :
    (Part.stallWithdrawn p).pins = p.pins := by
  unfold Part.stallWithdrawn; (try dsimp only); repeat' split
  all_goals simp
@[simp] theorem Part.stallWithdrawn_choices (p : Part) :
    (Part.stallWithdrawn p).choices = p.choices := by
  unfold Part.stallWithdrawn; (try dsimp only); repeat' split
  all_goals simp
@[simp] theorem Part.cancelHolds_pvw (p : Part) :
    (Part.cancelHolds p).pvw = p.pvw := by
  unfold Part.cancelHolds; (try dsimp only); repeat' split
  all_goals simp
@[simp] theorem Part.cancelHolds_lif (p : Part) :
    (Part.cancelHolds p).lif = p.lif := by
  unfold Part.cancelHolds; (try dsimp only); repeat' split
  all_goals simp
@[simp] theorem Part.cancelHolds_liu (p : Part) :
    (Part.cancelHolds p).liu = p.liu := by
  unfold Part.cancelHolds; (try dsimp only); repeat' split
  all_goals simp
@[simp] theorem Part.cancelHolds_lpc (p : Part) :
    (Part.cancelHolds p).lpc = p.lpc := by
  unfold Part.cancelHolds; (try dsimp only); repeat' split
  all_goals simp
@[simp] theorem Part.cancelHolds_pins (p : Part) :
    (Part.cancelHolds p).pins = p.pins := by
  unfold Part.cancelHolds; (try dsimp only); repeat' split
  all_goals simp
@[simp] theorem Part.cancelHolds_choices (p : Part) :
    (Part.cancelHolds p).choices = p.choices := by
  unfold Part.cancelHolds; (try dsimp only); repeat' split
  all_goals simp
@[simp] theorem Part.chainOpens_pvw (p : Part) :
    (Part.chainOpens p).pvw = p.pvw := by
  unfold Part.chainOpens; (try dsimp only); repeat' split
  all_goals simp
@[simp] theorem Part.chainOpens_lif (p : Part) :
    (Part.chainOpens p).lif = p.lif := by
  unfold Part.chainOpens; (try dsimp only); repeat' split
  all_goals simp
@[simp] theorem Part.chainOpens_liu (p : Part) :
    (Part.chainOpens p).liu = p.liu := by
  unfold Part.chainOpens; (try dsimp only); repeat' split
  all_goals simp
@[simp] theorem Part.chainOpens_lpc (p : Part) :
    (Part.chainOpens p).lpc = p.lpc := by
  unfold Part.chainOpens; (try dsimp only); repeat' split
  all_goals simp
@[simp] theorem Part.chainOpens_pins (p : Part) :
    (Part.chainOpens p).pins = p.pins := by
  unfold Part.chainOpens; (try dsimp only); repeat' split
  all_goals simp
@[simp] theorem Part.chainOpens_choices (p : Part) :
    (Part.chainOpens p).choices = p.choices := by
  unfold Part.chainOpens; (try dsimp only); repeat' split
  all_goals simp
@[simp] theorem Part.clears_lif (causes : List Cause) (p : Part) :
    (Part.clears causes p).lif = p.lif := by
  unfold Part.clears; (try dsimp only); repeat' split
  all_goals simp
@[simp] theorem Part.clears_liu (causes : List Cause) (p : Part) :
    (Part.clears causes p).liu = p.liu := by
  unfold Part.clears; (try dsimp only); repeat' split
  all_goals simp
@[simp] theorem Part.clears_lpc (causes : List Cause) (p : Part) :
    (Part.clears causes p).lpc = p.lpc := by
  unfold Part.clears; (try dsimp only); repeat' split
  all_goals simp
@[simp] theorem Part.clears_pins (causes : List Cause) (p : Part) :
    (Part.clears causes p).pins = p.pins := by
  unfold Part.clears; (try dsimp only); repeat' split
  all_goals simp
@[simp] theorem Part.clears_choices (causes : List Cause) (p : Part) :
    (Part.clears causes p).choices = p.choices := by
  unfold Part.clears; (try dsimp only); repeat' split
  all_goals simp
@[simp] theorem Part.validChanged_lif (valid : Bool) (p : Part) :
    (Part.validChanged valid p).lif = p.lif := by
  unfold Part.validChanged; (try dsimp only); repeat' split
  all_goals simp
@[simp] theorem Part.validChanged_liu (valid : Bool) (p : Part) :
    (Part.validChanged valid p).liu = p.liu := by
  unfold Part.validChanged; (try dsimp only); repeat' split
  all_goals simp
@[simp] theorem Part.validChanged_lpc (valid : Bool) (p : Part) :
    (Part.validChanged valid p).lpc = p.lpc := by
  unfold Part.validChanged; (try dsimp only); repeat' split
  all_goals simp
@[simp] theorem Part.validChanged_pins (valid : Bool) (p : Part) :
    (Part.validChanged valid p).pins = p.pins := by
  unfold Part.validChanged; (try dsimp only); repeat' split
  all_goals simp
@[simp] theorem Part.validChanged_choices (valid : Bool) (p : Part) :
    (Part.validChanged valid p).choices = p.choices := by
  unfold Part.validChanged; (try dsimp only); repeat' split
  all_goals simp
@[simp] theorem Part.loadChanged_lif (p : Part) :
    (Part.loadChanged p).lif = p.lif := by
  unfold Part.loadChanged; (try dsimp only); repeat' split
  all_goals simp
@[simp] theorem Part.loadChanged_liu (p : Part) :
    (Part.loadChanged p).liu = p.liu := by
  unfold Part.loadChanged; (try dsimp only); repeat' split
  all_goals simp
@[simp] theorem Part.loadChanged_lpc (p : Part) :
    (Part.loadChanged p).lpc = p.lpc := by
  unfold Part.loadChanged; (try dsimp only); repeat' split
  all_goals simp
@[simp] theorem Part.loadChanged_pins (p : Part) :
    (Part.loadChanged p).pins = p.pins := by
  unfold Part.loadChanged; (try dsimp only); repeat' split
  all_goals simp
@[simp] theorem Part.loadChanged_choices (p : Part) :
    (Part.loadChanged p).choices = p.choices := by
  unfold Part.loadChanged; (try dsimp only); repeat' split
  all_goals simp
@[simp] theorem Part.lineRecovered_lif (p : Part) :
    (Part.lineRecovered p).lif = p.lif := by
  unfold Part.lineRecovered; (try dsimp only); repeat' split
  all_goals simp
@[simp] theorem Part.lineRecovered_liu (p : Part) :
    (Part.lineRecovered p).liu = p.liu := by
  unfold Part.lineRecovered; (try dsimp only); repeat' split
  all_goals simp
@[simp] theorem Part.lineRecovered_lpc (p : Part) :
    (Part.lineRecovered p).lpc = p.lpc := by
  unfold Part.lineRecovered; (try dsimp only); repeat' split
  all_goals simp
@[simp] theorem Part.lineRecovered_pins (p : Part) :
    (Part.lineRecovered p).pins = p.pins := by
  unfold Part.lineRecovered; (try dsimp only); repeat' split
  all_goals simp
@[simp] theorem Part.lineRecovered_choices (p : Part) :
    (Part.lineRecovered p).choices = p.choices := by
  unfold Part.lineRecovered; (try dsimp only); repeat' split
  all_goals simp
@[simp] theorem Part.endCreep_pvw (e : CreepEnd) (p : Part) :
    (Part.endCreep e p).pvw = p.pvw := by
  unfold Part.endCreep; (try dsimp only); repeat' split
  all_goals simp
@[simp] theorem Part.endCreep_lif (e : CreepEnd) (p : Part) :
    (Part.endCreep e p).lif = p.lif := by
  unfold Part.endCreep; (try dsimp only); repeat' split
  all_goals simp
@[simp] theorem Part.endCreep_liu (e : CreepEnd) (p : Part) :
    (Part.endCreep e p).liu = p.liu := by
  unfold Part.endCreep; (try dsimp only); repeat' split
  all_goals simp
@[simp] theorem Part.endCreep_lpc (e : CreepEnd) (p : Part) :
    (Part.endCreep e p).lpc = p.lpc := by
  unfold Part.endCreep; (try dsimp only); repeat' split
  all_goals simp
@[simp] theorem Part.endCreep_pins (e : CreepEnd) (p : Part) :
    (Part.endCreep e p).pins = p.pins := by
  unfold Part.endCreep; (try dsimp only); repeat' split
  all_goals simp
@[simp] theorem Part.endCreep_choices (e : CreepEnd) (p : Part) :
    (Part.endCreep e p).choices = p.choices := by
  unfold Part.endCreep; (try dsimp only); repeat' split
  all_goals simp
@[simp] theorem Part.testTarget_pvw (p : Part) :
    (Part.testTarget p).pvw = p.pvw := by
  unfold Part.testTarget; (try dsimp only); repeat' split
  all_goals simp
@[simp] theorem Part.testTarget_lif (p : Part) :
    (Part.testTarget p).lif = p.lif := by
  unfold Part.testTarget; (try dsimp only); repeat' split
  all_goals simp
@[simp] theorem Part.testTarget_liu (p : Part) :
    (Part.testTarget p).liu = p.liu := by
  unfold Part.testTarget; (try dsimp only); repeat' split
  all_goals simp
@[simp] theorem Part.testTarget_lpc (p : Part) :
    (Part.testTarget p).lpc = p.lpc := by
  unfold Part.testTarget; (try dsimp only); repeat' split
  all_goals simp
@[simp] theorem Part.testTarget_pins (p : Part) :
    (Part.testTarget p).pins = p.pins := by
  unfold Part.testTarget; (try dsimp only); repeat' split
  all_goals simp
@[simp] theorem Part.testTarget_choices (p : Part) :
    (Part.testTarget p).choices = p.choices := by
  unfold Part.testTarget; (try dsimp only); repeat' split
  all_goals simp
@[simp] theorem Part.inputChanged_lif (i : Input) (level : Bool) (p : Part) :
    (Part.inputChanged i level p).lif = p.lif := by
  unfold Part.inputChanged; (try dsimp only); repeat' split
  all_goals simp
@[simp] theorem Part.inputChanged_liu (i : Input) (level : Bool) (p : Part) :
    (Part.inputChanged i level p).liu = p.liu := by
  unfold Part.inputChanged; (try dsimp only); repeat' split
  all_goals simp
@[simp] theorem Part.inputChanged_lpc (i : Input) (level : Bool) (p : Part) :
    (Part.inputChanged i level p).lpc = p.lpc := by
  unfold Part.inputChanged; (try dsimp only); repeat' split
  all_goals simp
@[simp] theorem Part.inputChanged_pins (i : Input) (level : Bool) (p : Part) :
    (Part.inputChanged i level p).pins = p.pins := by
  unfold Part.inputChanged; (try dsimp only); repeat' split
  all_goals simp
@[simp] theorem Part.inputChanged_choices (i : Input) (level : Bool) (p : Part) :
    (Part.inputChanged i level p).choices = p.choices := by
  unfold Part.inputChanged; (try dsimp only); repeat' split
  all_goals simp
@[simp] theorem Part.probeStep_lif (d : Dir) (p : Part) :
    (Part.probeStep d p).lif = p.lif := by
  unfold Part.probeStep; (try dsimp only); repeat' split
  all_goals simp
@[simp] theorem Part.probeStep_liu (d : Dir) (p : Part) :
    (Part.probeStep d p).liu = p.liu := by
  unfold Part.probeStep; (try dsimp only); repeat' split
  all_goals simp
@[simp] theorem Part.probeStep_lpc (d : Dir) (p : Part) :
    (Part.probeStep d p).lpc = p.lpc := by
  unfold Part.probeStep; (try dsimp only); repeat' split
  all_goals simp
@[simp] theorem Part.probeStep_pins (d : Dir) (p : Part) :
    (Part.probeStep d p).pins = p.pins := by
  unfold Part.probeStep; (try dsimp only); repeat' split
  all_goals simp
@[simp] theorem Part.probeStep_choices (d : Dir) (p : Part) :
    (Part.probeStep d p).choices = p.choices := by
  unfold Part.probeStep; (try dsimp only); repeat' split
  all_goals simp
@[simp] theorem Part.firstOf_pvw (ends : List CreepEnd) (p : Part) :
    (Part.firstOf ends p).pvw = p.pvw := by
  unfold Part.firstOf; (try dsimp only); repeat' split
  all_goals simp
@[simp] theorem Part.firstOf_lif (ends : List CreepEnd) (p : Part) :
    (Part.firstOf ends p).lif = p.lif := by
  unfold Part.firstOf; (try dsimp only); repeat' split
  all_goals simp
@[simp] theorem Part.firstOf_liu (ends : List CreepEnd) (p : Part) :
    (Part.firstOf ends p).liu = p.liu := by
  unfold Part.firstOf; (try dsimp only); repeat' split
  all_goals simp
@[simp] theorem Part.firstOf_lpc (ends : List CreepEnd) (p : Part) :
    (Part.firstOf ends p).lpc = p.lpc := by
  unfold Part.firstOf; (try dsimp only); repeat' split
  all_goals simp
@[simp] theorem Part.firstOf_pins (ends : List CreepEnd) (p : Part) :
    (Part.firstOf ends p).pins = p.pins := by
  unfold Part.firstOf; (try dsimp only); repeat' split
  all_goals simp
@[simp] theorem Part.creepStep_pvw (d : Dir) (p : Part) :
    (Part.creepStep d p).pvw = p.pvw := by
  unfold Part.creepStep; (try dsimp only); repeat' split
  all_goals simp
@[simp] theorem Part.creepStep_lif (d : Dir) (p : Part) :
    (Part.creepStep d p).lif = p.lif := by
  unfold Part.creepStep; (try dsimp only); repeat' split
  all_goals simp
@[simp] theorem Part.creepStep_liu (d : Dir) (p : Part) :
    (Part.creepStep d p).liu = p.liu := by
  unfold Part.creepStep; (try dsimp only); repeat' split
  all_goals simp
@[simp] theorem Part.creepStep_lpc (d : Dir) (p : Part) :
    (Part.creepStep d p).lpc = p.lpc := by
  unfold Part.creepStep; (try dsimp only); repeat' split
  all_goals simp
@[simp] theorem Part.creepStep_pins (d : Dir) (p : Part) :
    (Part.creepStep d p).pins = p.pins := by
  unfold Part.creepStep; (try dsimp only); repeat' split
  all_goals simp
@[simp] theorem Part.stepEvent_lif (d : Dir) (p : Part) :
    (Part.stepEvent d p).lif = p.lif := by
  unfold Part.stepEvent; (try dsimp only); repeat' split
  all_goals simp
@[simp] theorem Part.stepEvent_liu (d : Dir) (p : Part) :
    (Part.stepEvent d p).liu = p.liu := by
  unfold Part.stepEvent; (try dsimp only); repeat' split
  all_goals simp
@[simp] theorem Part.stepEvent_lpc (d : Dir) (p : Part) :
    (Part.stepEvent d p).lpc = p.lpc := by
  unfold Part.stepEvent; (try dsimp only); repeat' split
  all_goals simp
@[simp] theorem Part.stepEvent_pins (d : Dir) (p : Part) :
    (Part.stepEvent d p).pins = p.pins := by
  unfold Part.stepEvent; (try dsimp only); repeat' split
  all_goals simp
@[simp] theorem Part.limitChanged_lif (p : Part) :
    (Part.limitChanged p).lif = p.lif := by
  unfold Part.limitChanged; (try dsimp only); repeat' split
  all_goals simp
@[simp] theorem Part.limitChanged_liu (p : Part) :
    (Part.limitChanged p).liu = p.liu := by
  unfold Part.limitChanged; (try dsimp only); repeat' split
  all_goals simp
@[simp] theorem Part.limitChanged_lpc (p : Part) :
    (Part.limitChanged p).lpc = p.lpc := by
  unfold Part.limitChanged; (try dsimp only); repeat' split
  all_goals simp
@[simp] theorem Part.limitChanged_pins (p : Part) :
    (Part.limitChanged p).pins = p.pins := by
  unfold Part.limitChanged; (try dsimp only); repeat' split
  all_goals simp
@[simp] theorem Part.recomputeLimit_lif (p : Part) :
    (Part.recomputeLimit p).lif = p.lif := by
  unfold Part.recomputeLimit; (try dsimp only); repeat' split
  all_goals simp
@[simp] theorem Part.recomputeLimit_liu (p : Part) :
    (Part.recomputeLimit p).liu = p.liu := by
  unfold Part.recomputeLimit; (try dsimp only); repeat' split
  all_goals simp
@[simp] theorem Part.recomputeLimit_lpc (p : Part) :
    (Part.recomputeLimit p).lpc = p.lpc := by
  unfold Part.recomputeLimit; (try dsimp only); repeat' split
  all_goals simp
@[simp] theorem Part.recomputeLimit_pins (p : Part) :
    (Part.recomputeLimit p).pins = p.pins := by
  unfold Part.recomputeLimit; (try dsimp only); repeat' split
  all_goals simp
@[simp] theorem Part.requeue_rsq (p : Part) :
    (Part.requeue p).rsq = p.rsq := by
  unfold Part.requeue; (try dsimp only); repeat' split
  all_goals simp
@[simp] theorem Part.requeue_pcu (p : Part) :
    (Part.requeue p).pcu = p.pcu := by
  unfold Part.requeue; (try dsimp only); repeat' split
  all_goals simp
@[simp] theorem Part.requeue_pvw (p : Part) :
    (Part.requeue p).pvw = p.pvw := by
  unfold Part.requeue; (try dsimp only); repeat' split
  all_goals simp
@[simp] theorem Part.requeue_lif (p : Part) :
    (Part.requeue p).lif = p.lif := by
  unfold Part.requeue; (try dsimp only); repeat' split
  all_goals simp
@[simp] theorem Part.requeue_liu (p : Part) :
    (Part.requeue p).liu = p.liu := by
  unfold Part.requeue; (try dsimp only); repeat' split
  all_goals simp
@[simp] theorem Part.requeue_anu (p : Part) :
    (Part.requeue p).anu = p.anu := by
  unfold Part.requeue; (try dsimp only); repeat' split
  all_goals simp
@[simp] theorem Part.requeue_lpc (p : Part) :
    (Part.requeue p).lpc = p.lpc := by
  unfold Part.requeue; (try dsimp only); repeat' split
  all_goals simp
@[simp] theorem Part.requeue_pins (p : Part) :
    (Part.requeue p).pins = p.pins := by
  unfold Part.requeue; (try dsimp only); repeat' split
  all_goals simp
@[simp] theorem Part.requeue_choices (p : Part) :
    (Part.requeue p).choices = p.choices := by
  unfold Part.requeue; (try dsimp only); repeat' split
  all_goals simp
@[simp] theorem Part.deferAndRetry_rsq (p : Part) :
    (Part.deferAndRetry p).rsq = p.rsq := by
  unfold Part.deferAndRetry; (try dsimp only); repeat' split
  all_goals simp
@[simp] theorem Part.deferAndRetry_pcu (p : Part) :
    (Part.deferAndRetry p).pcu = p.pcu := by
  unfold Part.deferAndRetry; (try dsimp only); repeat' split
  all_goals simp
@[simp] theorem Part.deferAndRetry_pvw (p : Part) :
    (Part.deferAndRetry p).pvw = p.pvw := by
  unfold Part.deferAndRetry; (try dsimp only); repeat' split
  all_goals simp
@[simp] theorem Part.deferAndRetry_fre (p : Part) :
    (Part.deferAndRetry p).fre = p.fre := by
  unfold Part.deferAndRetry; (try dsimp only); repeat' split
  all_goals simp
@[simp] theorem Part.deferAndRetry_lif (p : Part) :
    (Part.deferAndRetry p).lif = p.lif := by
  unfold Part.deferAndRetry; (try dsimp only); repeat' split
  all_goals simp
@[simp] theorem Part.deferAndRetry_liu (p : Part) :
    (Part.deferAndRetry p).liu = p.liu := by
  unfold Part.deferAndRetry; (try dsimp only); repeat' split
  all_goals simp
@[simp] theorem Part.deferAndRetry_anu (p : Part) :
    (Part.deferAndRetry p).anu = p.anu := by
  unfold Part.deferAndRetry; (try dsimp only); repeat' split
  all_goals simp
@[simp] theorem Part.deferAndRetry_lpc (p : Part) :
    (Part.deferAndRetry p).lpc = p.lpc := by
  unfold Part.deferAndRetry; (try dsimp only); repeat' split
  all_goals simp
@[simp] theorem Part.deferAndRetry_pins (p : Part) :
    (Part.deferAndRetry p).pins = p.pins := by
  unfold Part.deferAndRetry; (try dsimp only); repeat' split
  all_goals simp
@[simp] theorem Part.deferAndRetry_choices (p : Part) :
    (Part.deferAndRetry p).choices = p.choices := by
  unfold Part.deferAndRetry; (try dsimp only); repeat' split
  all_goals simp
@[simp] theorem Part.refused_lif (p : Part) :
    (Part.refused p).lif = p.lif := by
  unfold Part.refused; (try dsimp only); repeat' split
  all_goals simp
@[simp] theorem Part.refused_liu (p : Part) :
    (Part.refused p).liu = p.liu := by
  unfold Part.refused; (try dsimp only); repeat' split
  all_goals simp
@[simp] theorem Part.refused_lpc (p : Part) :
    (Part.refused p).lpc = p.lpc := by
  unfold Part.refused; (try dsimp only); repeat' split
  all_goals simp
@[simp] theorem Part.refused_pins (p : Part) :
    (Part.refused p).pins = p.pins := by
  unfold Part.refused; (try dsimp only); repeat' split
  all_goals simp
@[simp] theorem Part.refused_choices (p : Part) :
    (Part.refused p).choices = p.choices := by
  unfold Part.refused; (try dsimp only); repeat' split
  all_goals simp
@[simp] theorem Part.settleWithdrawn_rsq (report : ClaimReport) (p : Part) :
    (Part.settleWithdrawn report p).rsq = p.rsq := by
  unfold Part.settleWithdrawn; (try dsimp only); repeat' split
  all_goals simp
@[simp] theorem Part.settleWithdrawn_pcu (report : ClaimReport) (p : Part) :
    (Part.settleWithdrawn report p).pcu = p.pcu := by
  unfold Part.settleWithdrawn; (try dsimp only); repeat' split
  all_goals simp
@[simp] theorem Part.settleWithdrawn_pvw (report : ClaimReport) (p : Part) :
    (Part.settleWithdrawn report p).pvw = p.pvw := by
  unfold Part.settleWithdrawn; (try dsimp only); repeat' split
  all_goals simp
@[simp] theorem Part.settleWithdrawn_lif (report : ClaimReport) (p : Part) :
    (Part.settleWithdrawn report p).lif = p.lif := by
  unfold Part.settleWithdrawn; (try dsimp only); repeat' split
  all_goals simp
@[simp] theorem Part.settleWithdrawn_liu (report : ClaimReport) (p : Part) :
    (Part.settleWithdrawn report p).liu = p.liu := by
  unfold Part.settleWithdrawn; (try dsimp only); repeat' split
  all_goals simp
@[simp] theorem Part.settleWithdrawn_anu (report : ClaimReport) (p : Part) :
    (Part.settleWithdrawn report p).anu = p.anu := by
  unfold Part.settleWithdrawn; (try dsimp only); repeat' split
  all_goals simp
@[simp] theorem Part.settleWithdrawn_lpc (report : ClaimReport) (p : Part) :
    (Part.settleWithdrawn report p).lpc = p.lpc := by
  unfold Part.settleWithdrawn; (try dsimp only); repeat' split
  all_goals simp
@[simp] theorem Part.settleWithdrawn_pins (report : ClaimReport) (p : Part) :
    (Part.settleWithdrawn report p).pins = p.pins := by
  unfold Part.settleWithdrawn; (try dsimp only); repeat' split
  all_goals simp
@[simp] theorem Part.settleWithdrawn_choices (report : ClaimReport) (p : Part) :
    (Part.settleWithdrawn report p).choices = p.choices := by
  unfold Part.settleWithdrawn; (try dsimp only); repeat' split
  all_goals simp
@[simp] theorem Part.claimReport_lif (report : ClaimReport) (p : Part) :
    (Part.claimReport report p).lif = p.lif := by
  unfold Part.claimReport; (try dsimp only); repeat' split
  all_goals simp
@[simp] theorem Part.claimReport_liu (report : ClaimReport) (p : Part) :
    (Part.claimReport report p).liu = p.liu := by
  unfold Part.claimReport; (try dsimp only); repeat' split
  all_goals simp
@[simp] theorem Part.claimReport_lpc (report : ClaimReport) (p : Part) :
    (Part.claimReport report p).lpc = p.lpc := by
  unfold Part.claimReport; (try dsimp only); repeat' split
  all_goals simp
@[simp] theorem Part.claimReport_pins (report : ClaimReport) (p : Part) :
    (Part.claimReport report p).pins = p.pins := by
  unfold Part.claimReport; (try dsimp only); repeat' split
  all_goals simp
@[simp] theorem Part.claimReport_choices (report : ClaimReport) (p : Part) :
    (Part.claimReport report p).choices = p.choices := by
  unfold Part.claimReport; (try dsimp only); repeat' split
  all_goals simp

end Sys2Proof.Machine
end

