-- ==== Sys2Proof/Laws/Entries.lean ====
section
/-! SUPPORT. What the entries to the rescue states do, once for every cause of an entry: the part after each as one
record update of the part before it. -/

namespace Sys2Proof.Machine

/-! ## The Presence of a change of state -/

@[simp] theorem Pcu.rescueStateChanged_plan (old new : RescueState) (c : Pcu) :
    (Pcu.rescueStateChanged old new c).plan = c.plan := by
  unfold Pcu.rescueStateChanged; split <;> (try split) <;> rfl

/-- In service every state but START has its Presence (R90). -/
theorem Part.buildPresence_eq {p : Part} {code : Nat} (hc : p.lpc.committed = true)
    (h : p.rsq.state.presenceCode = some code) :
    p.buildPresence =
      some (p.presence code (if p.adu.isHolder then some p.adu.heldDraw else none)
        (if p.rsq.state = .wait then p.pcu.plan.key else none) (p.adu.state == .solo)) := by
  simp [buildPresence, ownNode, hc, h, presence]

/-- A change of the rescue state in service (section 1.2). -/
theorem Part.changeState_eq {p : Part} {new : RescueState} {code : Nat} (hc : p.lpc.committed = true)
    (h : new.presenceCode = some code) :
    p.changeState new =
      { p with
        rsq := { p.rsq.stopTimers with state := new, cancelCame := false }
        pcu := Pcu.rescueStateChanged p.rsq.state new p.pcu
        anu := Anu.rescueStateChanged p.rsq.state new p.anu
        fre := p.fre.offer (p.presence code (if p.adu.isHolder then some p.adu.heldDraw else none)
          (if new = .wait then p.pcu.plan.key else none) (p.adu.state == .solo)) } := by
  unfold changeState offerPresence
  simp only [mapRsq, mapPcu, mapAnu]
  rw [buildPresence_eq (code := code) (by simpa using hc) (by simpa using h)]
  simp [mapFre, presence, settings]

/-- An entry to a state in which the car is not moved (R5). -/
theorem Part.enterAtRest_eq {p : Part} {new : RescueState} {code : Nat} (hc : p.lpc.committed = true)
    (h : new.presenceCode = some code) :
    p.enterAtRest new =
      { p with
        rsq := p.rsq.rested new .none new.doorRequested new.alarmed
        pcu := Pcu.rescueStateChanged p.rsq.state new p.pcu
        anu := Anu.rescueStateChanged p.rsq.state new p.anu
        fre := p.fre.offer (p.presence code (if p.adu.isHolder then some p.adu.heldDraw else none)
          (if new = .wait then p.pcu.plan.key else none) (p.adu.state == .solo)) } := by
  unfold enterAtRest
  rw [changeState_eq (by simpa using hc) h]
  simp [mapRsq, Rsq.rested, Rsq.stopTimers, RescueState.restOutputs, Outputs.atRest, presence, settings]
  rfl

/-! ## The end of a holding -/

theorem Adu.isHolder_iff (a : Adu) : a.isHolder = true ↔ a.state = .holder ∨ a.state = .solo := by
  simp [isHolder]

@[simp] theorem Adu.released_isHolder (o : ReleaseOutcome) (a : Adu) : (a.released o).isHolder = false := by
  unfold released isHolder; split <;> simp_all

/-- ADU takes "ended" (R66). -/
theorem Part.ended_eq (o : ReleaseOutcome) (p : Part) :
    p.ended o = { p with adu := p.adu.released o, fre := p.releaseOffered o } := by
  unfold ended releaseOffered Adu.released
  simp only [← Adu.isHolder_iff]
  by_cases h : p.adu.isHolder = true
  · have hl : (p.mapAdu fun a =>
        { a with state := .none, heldDraw := 0, admittedDraw := 0, retryTimer := .stopped
                 deferralTimer := .stopped, lastRelease := some o }).lineAvailable = p.lineAvailable := by
      simp [lineAvailable]
    simp only [h, if_true, hl]
    by_cases ha : p.lineAvailable = true <;> simp [ha, mapAdu, mapFre, settings]
  · simp [h]

/-- An entry to HALTED in service, from any state but WARN (R30). -/
theorem Part.enterHalted_haltsAs {p : Part} (cause : Cause) (hc : p.lpc.committed = true) (hs : p.rsq.state ≠ .warn) :
    (p.enterHalted cause).haltsAs cause p := by
  unfold enterHalted
  rw [ended_eq, enterAtRest_eq (code := 8) (by simpa using hc) rfl]
  have hi : ((p.adu.released .halted).state == .solo) = false := by
    have := p.adu.released_isHolder .halted; simp_all [Adu.isHolder]
  have hw : (RescueState.halted == .wait) = false := rfl
  simp [haltsAs, mapRsq, mapAnu, requestPhrase, Rsq.rested, sameOutside, Pcu.rescueStateChanged, RescueState.waiting,
    Anu.rescueStateChanged, hs, RescueState.doorRequested, RescueState.alarmed, presence, settings, hi, hw]

/-- ANU's part in a change of the rescue state that ends no debt of a MOVING report (R144, R145). -/
theorem Anu.rescueStateChanged_eq {old : RescueState} {a : Anu} (h : old ≠ .warn ∨ a.movingOwed = false)
    (new : RescueState) :
    a.rescueStateChanged old new = if new = .wait then a.startPatience true else { a with patience := .stopped } := by
  have : (if old = .warn then { a with movingOwed := false } else a) = a := by
    obtain h | h := h
    · simp [h]
    · split <;> simp [← h]
  simp [rescueStateChanged, this]

/-- An entry to WATCH in service, in which no MOVING report is owed, of a node that holds nothing (R7). -/
theorem Part.enterWatch_watchesAs {p : Part} (hc : p.lpc.committed = true)
    (hs : p.rsq.state ≠ .warn ∨ p.anu.movingOwed = false) (hn : p.adu.isHolder = false) : p.enterWatch.watchesAs p := by
  have hi : (p.adu.state == .solo) = false := by simp_all [Adu.isHolder]
  unfold enterWatch
  rw [enterAtRest_eq (code := 1) hc rfl, Anu.rescueStateChanged_eq hs]
  cases hl : p.liu.stall
  · simp [watchesAs, mapPcu, hl, sameOutside, Pcu.rescueStateChanged, RescueState.waiting,
      RescueState.doorRequested, RescueState.alarmed, presence, settings, hi, hn]
  · simp only [mapPcu, hl, if_true, enterVerify]
    rw [enterAtRest_eq (code := 3) (by simpa using hc) rfl]
    simp [watchesAs, mapRsq, hl, sameOutside, Pcu.rescueStateChanged, RescueState.waiting, Anu.rescueStateChanged,
      RescueState.doorRequested, RescueState.alarmed, presence, settings, hi, hn, Rsq.rested, Outputs.atRest]

/-! ## The plan stands at an entry, and at a seek -/

@[simp] theorem Part.changeState_plan (new : RescueState) (p : Part) : (Part.changeState new p).pcu.plan = p.pcu.plan := by
  unfold changeState; (try dsimp only); (repeat' split) <;> simp
@[simp] theorem Part.enterAtRest_plan (new : RescueState) (p : Part) : (Part.enterAtRest new p).pcu.plan = p.pcu.plan := by
  unfold enterAtRest; (try dsimp only); (repeat' split) <;> simp
@[simp] theorem Part.enterVerify_plan (p : Part) : (Part.enterVerify p).pcu.plan = p.pcu.plan := by
  unfold enterVerify; (try dsimp only); (repeat' split) <;> simp
@[simp] theorem Part.enterWatch_plan (p : Part) : (Part.enterWatch p).pcu.plan = p.pcu.plan := by
  unfold enterWatch; (try dsimp only); (repeat' split) <;> simp
@[simp] theorem Part.enterLanded_plan (p : Part) : (Part.enterLanded p).pcu.plan = p.pcu.plan := by
  unfold enterLanded; (try dsimp only); (repeat' split) <;> simp
@[simp] theorem Part.enterDoors_plan (p : Part) : (Part.enterDoors p).pcu.plan = p.pcu.plan := by
  unfold enterDoors; (try dsimp only); (repeat' split) <;> simp
@[simp] theorem Part.enterBlocked_plan (cause : Cause) (p : Part) : (Part.enterBlocked cause p).pcu.plan = p.pcu.plan := by
  unfold enterBlocked; (try dsimp only); (repeat' split) <;> simp
@[simp] theorem Part.enterProbe_plan (p : Part) : (Part.enterProbe p).pcu.plan = p.pcu.plan := by
  unfold enterProbe; (try dsimp only); (repeat' split) <;> simp
@[simp] theorem Part.movingReport_plan (r : MovingReport) (p : Part) : (Part.movingReport r p).pcu.plan = p.pcu.plan := by
  unfold movingReport; (try dsimp only); (repeat' split) <;> simp
@[simp] theorem Part.takeMoving_plan (r : Option MovingReport) (p : Part) : (Part.takeMoving r p).pcu.plan = p.pcu.plan := by
  unfold takeMoving; (try dsimp only); (repeat' split) <;> simp
@[simp] theorem Part.enterWarn_plan (p : Part) : (Part.enterWarn p).pcu.plan = p.pcu.plan := by
  unfold enterWarn; (try dsimp only); (repeat' split) <;> simp
@[simp] theorem Part.admitted_plan (p : Part) : (Part.admitted p).pcu.plan = p.pcu.plan := by
  unfold admitted; (try dsimp only); (repeat' split) <;> simp
@[simp] theorem Part.lineBlocked_plan (p : Part) : (Part.lineBlocked p).pcu.plan = p.pcu.plan := by
  unfold lineBlocked; (try dsimp only); (repeat' split) <;> simp
@[simp] theorem Part.soloRule_plan (p : Part) : (Part.soloRule p).pcu.plan = p.pcu.plan := by
  unfold soloRule; (try dsimp only); (repeat' split) <;> simp
@[simp] theorem Part.queueing_plan (asked : Bool) (p : Part) : (Part.queueing asked p).pcu.plan = p.pcu.plan := by
  unfold queueing; (try dsimp only); (repeat' split) <;> simp
@[simp] theorem Part.seek_plan (p : Part) : (Part.seek p).pcu.plan = p.pcu.plan := by
  unfold seek; (try dsimp only); (repeat' split) <;> simp
@[simp] theorem Part.enterWait_plan (confirm : Bool) (p : Part) : (Part.enterWait confirm p).pcu.plan = p.pcu.plan := by
  unfold enterWait; (try dsimp only); (repeat' split) <;> simp

/-! ## The entries of an admitted rescue, and those that end one -/

/-- A Presence does not depend on the records that the entries write. -/
theorem Part.presence_congr {p r : Part} (hl : r.lpc = p.lpc) (hm : r.pvw.mismatch = p.pvw.mismatch) (code : Nat)
    (draw : Option Nat) (key : Option Key) (solo : Bool) : r.presence code draw key solo = p.presence code draw key solo := by
  simp [presence, settings, hl, hm]

theorem Part.presenceDraw_eq (p : Part) :
    p.presenceDraw = if p.adu.isHolder then some p.adu.heldDraw else none := by
  unfold presenceDraw
  simp only [← Adu.isHolder_iff]

theorem Adu.released_not_solo (o : ReleaseOutcome) (a : Adu) : ((a.released o).state == .solo) = false := by
  have := a.released_isHolder o; simp_all [isHolder]

/-- An entry to LANDED in service, from any state but WARN (R29, R66). -/
theorem Part.enterLanded_landsAs {p : Part} (hc : p.lpc.committed = true) (hs : p.rsq.state ≠ .warn) :
    p.enterLanded.landsAs p := by
  have e : (p.ended .landed).enterAtRest .landed = { p with
      adu := p.adu.released .landed, fre := (p.releaseOffered .landed).offer (p.presence 7 none none false)
      rsq := p.rsq.rested .landed .none true false
      pcu := { p.pcu with waitTimer := .stopped }, anu := { p.anu with patience := .stopped } } := by
    rw [ended_eq, enterAtRest_eq (code := 7) (by simpa using hc) rfl]
    simp [Adu.released_not_solo, Pcu.rescueStateChanged, RescueState.waiting, Anu.rescueStateChanged, hs,
      RescueState.doorRequested, RescueState.alarmed, presence, settings]
  unfold enterLanded landsAs
  rw [e]
  refine ⟨fun h => by simp [h], fun h => ?_⟩
  simp only [h, if_true]
  have := Part.enterWatch_watchesAs (p := { p with
      adu := p.adu.released .landed, fre := (p.releaseOffered .landed).offer (p.presence 7 none none false)
      rsq := p.rsq.rested .landed .none true false
      pcu := { p.pcu with waitTimer := .stopped }, anu := { p.anu with patience := .stopped } })
    (by simpa using hc) (.inl (by simp [Rsq.rested])) (by simp)
  simpa [watchesAs, sameOutside, Rsq.rested, Outputs.atRest, presence, settings] using this

/-- An entry to DOORS in service, from any state but WARN (R28). -/
theorem Part.enterDoors_opensDoorsAs {p : Part} (hc : p.lpc.committed = true) (hs : p.rsq.state ≠ .warn) :
    p.enterDoors.opensDoorsAs p := by
  unfold enterDoors opensDoorsAs
  rw [enterAtRest_eq (code := 6) hc rfl]
  have hw : (RescueState.doors == RescueState.wait) = false := rfl
  have hm : Config.ms (1000 * p.settings.doorTimeout) = 250000 * p.settings.doorTimeout := by
    simp [Config.ms, Config.samplesPerMs]; omega
  refine ⟨fun h => ?_, fun h => ?_⟩
  · simp [requestPhrase, mapAnu, mapRsq, h, hs, hw, Pcu.rescueStateChanged, RescueState.waiting, Anu.rescueStateChanged,
      RescueState.doorRequested, RescueState.alarmed, presenceDraw_eq, settings, Rsq.rested]
    simpa [settings] using hm
  · simp only [requestPhrase, mapAnu, mapRsq, h, if_true]
    have := Part.enterLanded_landsAs (p := { p with
        rsq := { p.rsq.rested .doors .none true true with doorTimer := .running (Config.ms (1000 * p.settings.doorTimeout)) }
        pcu := { p.pcu with waitTimer := .stopped }
        fre := p.fre.offer (p.presence 6 p.presenceDraw none (p.adu.state == .solo))
        anu := ({ p.anu with patience := .stopped }).request p.settings false .doors })
      (by simpa using hc) (by simp [Rsq.rested])
    simpa [landsAs, watchesAs, sameOutside, Rsq.rested, Outputs.atRest, presence, settings, hs, hw, releaseOffered, lineAvailable,
      Pcu.rescueStateChanged, RescueState.waiting, Anu.rescueStateChanged, RescueState.doorRequested, RescueState.alarmed,
      presenceDraw_eq] using this

/-- The motion gate opens in service, from WARN (R18, R20). -/
theorem Part.enterProbe_probesAs {p : Part} (hc : p.lpc.committed = true) (hs : p.rsq.state = .warn) :
    p.enterProbe.probesAs p := by
  unfold enterProbe
  rw [changeState_eq (code := 6) (by simpa using hc) rfl]
  simp [probesAs, mapRsq, Rsq.rested, Rsq.stopTimers, Outputs.steer, sameOutside, Pcu.rescueStateChanged,
    RescueState.waiting, Anu.rescueStateChanged, hs, presence, settings, presenceDraw_eq, Config.probeTickTime, Config.ms,
    Config.samplesPerMs]

/-- The entry to WARN in service, from any state but WARN (R18). -/
theorem Part.enterWarn_warnsAs {p : Part} (hc : p.lpc.committed = true) (hs : p.rsq.state ≠ .warn) :
    p.enterWarn.warnsAs p := by
  have hg : Config.gateTime = 750000 := by decide
  unfold enterWarn warnsAs Anu.requestMoving
  rw [enterAtRest_eq (code := 6) hc rfl]
  simp only [mapRsq, hs, Pcu.rescueStateChanged, RescueState.waiting, Anu.rescueStateChanged, reduceCtorEq, if_false, hg,
    RescueState.doorRequested, RescueState.alarmed, Bool.not_false, if_true, ← presenceDraw_eq]
  refine ⟨fun h => ?_, fun h hv => ?_, fun h hv => ?_⟩
  · have hn : p.settings.phrase .moving = Config.noPhrase := h
    have := Part.enterProbe_probesAs (p := { p with
        rsq := { p.rsq.rested .warn .none false true with gateTimer := .running 750000, voiceUnavailable := false }
        pcu := { p.pcu with waitTimer := .stopped }
        fre := p.fre.offer (p.presence 6 p.presenceDraw none (p.adu.state == .solo))
        anu := ({ p.anu with patience := .stopped }).request p.settings false .moving })
      (by simpa using hc) (by simp [Rsq.rested])
    simp only [settings] at hn this ⊢
    simpa [hn, takeMoving, movingReport, Rsq.rested] using this
  · have hn : ¬ p.settings.phrase .moving = Config.noPhrase := h
    simp only [settings] at hn hv ⊢
    simp [hn, hv, takeMoving, movingReport, Rsq.rested, Timer.hasExpired, mapRsq]
  · have hn : ¬ p.settings.phrase .moving = Config.noPhrase := h
    simp only [settings] at hn hv ⊢
    simp [hn, hv, takeMoving]

/-- An entry to BLOCKED in service, in which no MOVING report is owed, of a node that holds nothing (R13). -/
theorem Part.enterBlocked_blocksAs {p : Part} (cause : Cause) (hc : p.lpc.committed = true)
    (hs : p.rsq.state ≠ .warn ∨ p.anu.movingOwed = false) (hn : p.adu.isHolder = false) :
    (p.enterBlocked cause).blocksAs cause p := by
  have hi : (p.adu.state == .solo) = false := by simp_all [Adu.isHolder]
  have hw : (RescueState.blocked == .wait) = false := rfl
  have ht : Config.secondTime = 250000 := by decide
  unfold enterBlocked
  rw [enterAtRest_eq (code := 4) hc rfl, Anu.rescueStateChanged_eq hs]
  simp [blocksAs, mapRsq, mapAnu, requestPhrase, Rsq.rested, sameOutside,
    RescueState.doorRequested, RescueState.alarmed, presence, settings, hi, hw, hn, waitTimerKept]
  cases h : p.rsq.state <;> simp [Pcu.rescueStateChanged, RescueState.waiting, ht]

/-- The holding that ends in WARN (R19): WATCH by the cancel condition, BLOCKED by the safety chain. -/
theorem Part.warnGivenUp {p : Part} (hc : p.lpc.committed = true) (hs : p.rsq.state = .warn) :
    (p.ended .abandoned).enterWatch.watchesAs p.givenUp
      ∧ ((p.ended .abandoned).enterBlocked .chain).blocksAs .chain p.givenUp := by
  have key : ∀ new, (p.ended .abandoned).enterAtRest new = p.givenUp.enterAtRest new := by
    intro new
    rw [ended_eq]
    simp [givenUp, enterAtRest, changeState, mapRsq, mapPcu, mapAnu, Anu.rescueStateChanged, hs]
  have hw := enterWatch_watchesAs (p := p.givenUp) hc (.inr rfl) (by simp [givenUp])
  have hb := enterBlocked_blocksAs (p := p.givenUp) .chain hc (.inr rfl) (by simp [givenUp])
  unfold enterWatch at hw ⊢
  unfold enterBlocked at hb ⊢
  rw [key, key]
  exact ⟨hw, hb⟩

/-- RSQ takes "admitted" in WAIT (R16). -/
theorem Part.admitted_admittedAs {p : Part} (hc : p.lpc.committed = true) (hs : p.rsq.state = .wait) :
    p.admitted.admittedAs p := by
  unfold admitted admittedAs
  simp only [hs, if_true]
  refine ⟨fun h => ?_, fun h => ?_⟩ <;> simp only [h, if_true, if_false]
  · exact enterDoors_opensDoorsAs hc (by simp [hs])
  · exact enterWarn_warnsAs hc (by simp [hs])

/-- The solo rule of a node in WAIT that holds nothing (R53, R57, R71). -/
theorem Part.soloRule_soloRuledAs {p : Part} (hc : p.lpc.committed = true) (hs : p.rsq.state = .wait) :
    p.soloRule.soloRuledAs p := by
  unfold soloRule soloRuledAs
  simp only [mapFre, settings]
  refine ⟨fun h => ?_, fun h => ?_⟩
  · simp only [Nat.not_le.mpr h, if_false, mapAdu, lineBlocked, hs, if_true]
    exact enterBlocked_blocksAs _ (by simpa using hc) (.inl (by simp [hs])) (by simp [Adu.isHolder])
  · simp only [h, if_true, mapAdu, Adu.grant]
    exact admitted_admittedAs (by simpa using hc) hs

/-- A seek of a node in WAIT with no claim (R53). -/
theorem Part.seek_seeksAs {p : Part} (hc : p.lpc.committed = true) (hs : p.rsq.state = .wait) (hn : p.adu.state = .none)
    (hd : p.pvw.deferral = deferralAnswer p.pcu.plan.key p.pvw.records) : p.seek.seeksAs p := by
  unfold seek seeksAs queueing
  simp only [hn]
  refine ⟨fun h => ?_, fun h hy => ?_, fun h hy key hk => ?_⟩
  · simpa [h] using soloRule_soloRuledAs hc hs
  · simp [h, ← hd, hy, mapAdu, Adu.enterDefer, hn, Config.deferralTime, Config.ms, Config.samplesPerMs]
  · have hd : deferralAnswer (some key) p.pvw.records = false := by rw [← hk, ← hd, hy]
    simp [h, hd, mapAdu, offerClaim, hk, mapFre, claimQueued]

/-- A plan request of a node outside DEFER (R36, R87). -/
theorem Part.requestPlan_eq {p : Part} (hn : p.adu.state ≠ .defer) :
    p.requestPlan = p.planned (p.settings.makePlan p.planInputs) := by
  simp [requestPlan, reevaluateDeferral, mapPcu, mapPvw, planned, hn]

/-- The entry to WAIT in service, from any state but WARN, of a node that holds nothing (R15). -/
theorem Part.enterAtRest_wait {p : Part} (hc : p.lpc.committed = true) (hs : p.rsq.state ≠ .warn)
    (hn : p.adu.isHolder = false) : p.enterAtRest .wait = p.waiting := by
  have hi : (p.adu.state == .solo) = false := by simp_all [Adu.isHolder]
  rw [enterAtRest_eq (code := 5) hc rfl]
  have hp : Config.patienceTime = 7500000 := by decide
  have ht : Config.secondTime = 250000 := by decide
  simp only [waiting, hn, hi, hs, Anu.rescueStateChanged, Anu.startPatience, RescueState.doorRequested, RescueState.alarmed,
    waitTimerKept, if_false, if_true, reduceCtorEq, true_and, hp, Bool.false_eq_true]
  congr 1
  · cases h : p.rsq.state <;> simp [Pcu.rescueStateChanged, RescueState.waiting, ht]
  · split <;> rfl

/-- A clearing event in BLOCKED (R14), of a node that holds nothing and does not defer. -/
theorem Part.replanBlocked_replansBlockedAs {p : Part} (hc : p.lpc.committed = true) (hs : p.rsq.state = .blocked)
    (hn : p.adu.state = .none ∨ p.adu.state = .claiming) : p.replanBlocked.replansBlockedAs p := by
  have hd : p.adu.state ≠ .defer := by obtain h | h := hn <;> simp [h]
  have hh : p.adu.isHolder = false := by obtain h | h := hn <;> simp [Adu.isHolder, h]
  unfold replanBlocked replansBlockedAs
  rw [requestPlan_eq hd]
  have hw : ∀ plan, (p.planned plan).enterAtRest .wait = (p.planned plan).waiting := fun plan =>
    enterAtRest_wait hc (by simp [planned, hs]) hh
  generalize p.settings.makePlan p.planInputs = plan
  have hp : (p.planned plan).pcu.plan = plan := rfl
  have e : (p.planned plan).enterWait false = (p.planned plan).waiting.seek := by simp [enterWait, hw]
  have hs' : (p.planned plan).waiting.seek.choices = p.choices := by rw [seek_choices]; rfl
  have hl : (p.planned plan).waiting.seek.pcu.plan = plan := by rw [seek_plan]; rfl
  simp only [hp]
  cases hb : plan.blockCause
  · simp only [BlockCause.recorded, e, ← hs']
    refine ⟨hl, by simp, by simp, fun _ hn => ?_, fun _ hn hw => ?_⟩
    · exact seek_seeksAs hc rfl hn rfl
    · have hn : (p.planned plan).waiting.adu.state = .claiming := hn
      have hw : (p.planned plan).waiting.adu.withdrawn = true := hw
      simp only [seek, hn, hw, if_true]
      rfl
  · simp [planned, BlockCause.recorded, mapRsq]
  · simp [planned, BlockCause.recorded, mapRsq]

/-- A REPLAN in service of a node that holds its draw (R22). -/
theorem Part.replan_replansAs {p : Part} (hc : p.lpc.committed = true) (hs : p.rsq.state ≠ .warn)
    (hn : p.adu.isHolder = true) : p.replan.replansAs p := by
  have ha : (p.adu.released .replan).state = .none := by
    rw [Adu.isHolder_iff] at hn; simp [Adu.released, hn]
  obtain ⟨w, hw⟩ : ∃ w, w = Part.waiting { p with
    adu := p.adu.released .replan, fre := p.releaseOffered .replan, pcu := { p.pcu with loadOverride := true } } := ⟨_, rfl⟩
  have e : ((p.ended .replan).mapPcu fun c => { c with loadOverride := true }).enterAtRest .wait = w := by
    rw [ended_eq, hw]
    exact enterAtRest_wait hc hs (Adu.released_isHolder ..)
  unfold replan replansAs
  simp only [e, ← hw]
  have hwc : w.lpc.committed = true := by rw [hw]; exact hc
  have hws : w.rsq.state = .wait := by rw [hw]; rfl
  have hwa : w.adu.state = .none := by rw [hw]; exact ha
  have hwh : w.adu.isHolder = false := by simp [Adu.isHolder, hwa]
  have hwl : w.liu = p.liu := by rw [hw]; rfl
  have hwp : w.settings.makePlan w.planInputs = p.settings.makePlan { p.planInputs with load := none } := by
    rw [hw]; rfl
  simp only [requestPlan_eq (p := w) (by simp [hwa]), hwp, hwl]
  refine ⟨fun h => ?_, fun h plan hp => ?_⟩
  · simp only [h, if_true]
    exact enterWatch_watchesAs hwc (.inl (by simp [hws])) hwh
  · subst hp
    simp only [h, Bool.false_eq_true, if_false]
    generalize p.settings.makePlan { p.planInputs with load := none } = plan
    have hq : (w.planned plan).pcu.plan = plan := rfl
    simp only [hq]
    refine ⟨fun hb => ?_, fun hb => ?_, fun hb => ?_⟩ <;> simp only [hb, BlockCause.recorded]
    · exact enterBlocked_blocksAs _ hwc (.inl (by simp [planned, hws])) hwh
    · exact enterBlocked_blocksAs _ hwc (.inl (by simp [planned, hws])) hwh
    · exact seek_seeksAs hwc hws hwa rfl

end Sys2Proof.Machine
end

