-- ==== Sys2Proof/Laws/FramesPeerView.lean ====
section
/-! SUPPORT. Frames of the operations of PVW: the blocks that each leaves as they were, and what becomes of S_eff and of
the standing deferral answer. -/

namespace Sys2Proof.Machine

@[simp] theorem Part.updateRecord_lif (n : Node) (f : PeerRecord → PeerRecord) (always : Bool) (p : Part) :
    (Part.updateRecord n f always p).lif = p.lif := by
  unfold Part.updateRecord; (try dsimp only); repeat' split
  all_goals simp
@[simp] theorem Part.updateRecord_liu (n : Node) (f : PeerRecord → PeerRecord) (always : Bool) (p : Part) :
    (Part.updateRecord n f always p).liu = p.liu := by
  unfold Part.updateRecord; (try dsimp only); repeat' split
  all_goals simp
@[simp] theorem Part.updateRecord_lpc (n : Node) (f : PeerRecord → PeerRecord) (always : Bool) (p : Part) :
    (Part.updateRecord n f always p).lpc = p.lpc := by
  unfold Part.updateRecord; (try dsimp only); repeat' split
  all_goals simp
@[simp] theorem Part.updateRecord_pins (n : Node) (f : PeerRecord → PeerRecord) (always : Bool) (p : Part) :
    (Part.updateRecord n f always p).pins = p.pins := by
  unfold Part.updateRecord; (try dsimp only); repeat' split
  all_goals simp
@[simp] theorem Part.setLastReleased_lif (n : Node) (p : Part) :
    (Part.setLastReleased n p).lif = p.lif := by
  unfold Part.setLastReleased; (try dsimp only); repeat' split
  all_goals simp
@[simp] theorem Part.setLastReleased_liu (n : Node) (p : Part) :
    (Part.setLastReleased n p).liu = p.liu := by
  unfold Part.setLastReleased; (try dsimp only); repeat' split
  all_goals simp
@[simp] theorem Part.setLastReleased_lpc (n : Node) (p : Part) :
    (Part.setLastReleased n p).lpc = p.lpc := by
  unfold Part.setLastReleased; (try dsimp only); repeat' split
  all_goals simp
@[simp] theorem Part.setLastReleased_pins (n : Node) (p : Part) :
    (Part.setLastReleased n p).pins = p.pins := by
  unfold Part.setLastReleased; (try dsimp only); repeat' split
  all_goals simp
@[simp] theorem Part.setLastReleased_choices (n : Node) (p : Part) :
    (Part.setLastReleased n p).choices = p.choices := by
  unfold Part.setLastReleased; (try dsimp only); repeat' split
  all_goals simp
@[simp] theorem Part.peerFrame_lif (f : Frame) (p : Part) :
    (Part.peerFrame f p).lif = p.lif := by
  unfold Part.peerFrame; (try dsimp only); repeat' split
  all_goals simp
@[simp] theorem Part.peerFrame_liu (f : Frame) (p : Part) :
    (Part.peerFrame f p).liu = p.liu := by
  unfold Part.peerFrame; (try dsimp only); repeat' split
  all_goals simp
@[simp] theorem Part.peerFrame_lpc (f : Frame) (p : Part) :
    (Part.peerFrame f p).lpc = p.lpc := by
  unfold Part.peerFrame; (try dsimp only); repeat' split
  all_goals simp
@[simp] theorem Part.peerFrame_pins (f : Frame) (p : Part) :
    (Part.peerFrame f p).pins = p.pins := by
  unfold Part.peerFrame; (try dsimp only); repeat' split
  all_goals simp
@[simp] theorem Part.ownReleaseHeard_lif (p : Part) :
    (Part.ownReleaseHeard p).lif = p.lif := by
  unfold Part.ownReleaseHeard; (try dsimp only); repeat' split
  all_goals simp
@[simp] theorem Part.ownReleaseHeard_liu (p : Part) :
    (Part.ownReleaseHeard p).liu = p.liu := by
  unfold Part.ownReleaseHeard; (try dsimp only); repeat' split
  all_goals simp
@[simp] theorem Part.ownReleaseHeard_lpc (p : Part) :
    (Part.ownReleaseHeard p).lpc = p.lpc := by
  unfold Part.ownReleaseHeard; (try dsimp only); repeat' split
  all_goals simp
@[simp] theorem Part.ownReleaseHeard_pins (p : Part) :
    (Part.ownReleaseHeard p).pins = p.pins := by
  unfold Part.ownReleaseHeard; (try dsimp only); repeat' split
  all_goals simp
@[simp] theorem Part.ownReleaseHeard_choices (p : Part) :
    (Part.ownReleaseHeard p).choices = p.choices := by
  unfold Part.ownReleaseHeard; (try dsimp only); repeat' split
  all_goals simp
@[simp] theorem Part.cleanWindow_lif (list : List (Node × Nat)) (p : Part) :
    (Part.cleanWindow list p).lif = p.lif := by
  unfold Part.cleanWindow; (try dsimp only); repeat' split
  all_goals simp
@[simp] theorem Part.cleanWindow_liu (list : List (Node × Nat)) (p : Part) :
    (Part.cleanWindow list p).liu = p.liu := by
  unfold Part.cleanWindow; (try dsimp only); repeat' split
  all_goals simp
@[simp] theorem Part.cleanWindow_lpc (list : List (Node × Nat)) (p : Part) :
    (Part.cleanWindow list p).lpc = p.lpc := by
  unfold Part.cleanWindow; (try dsimp only); repeat' split
  all_goals simp
@[simp] theorem Part.cleanWindow_pins (list : List (Node × Nat)) (p : Part) :
    (Part.cleanWindow list p).pins = p.pins := by
  unfold Part.cleanWindow; (try dsimp only); repeat' split
  all_goals simp
@[simp] theorem Part.spoiledWindow_rsq (p : Part) :
    (Part.spoiledWindow p).rsq = p.rsq := by
  unfold Part.spoiledWindow; (try dsimp only); repeat' split
  all_goals simp
@[simp] theorem Part.spoiledWindow_pcu (p : Part) :
    (Part.spoiledWindow p).pcu = p.pcu := by
  unfold Part.spoiledWindow; (try dsimp only); repeat' split
  all_goals simp
@[simp] theorem Part.spoiledWindow_adu (p : Part) :
    (Part.spoiledWindow p).adu = p.adu := by
  unfold Part.spoiledWindow; (try dsimp only); repeat' split
  all_goals simp
@[simp] theorem Part.spoiledWindow_fre (p : Part) :
    (Part.spoiledWindow p).fre = p.fre := by
  unfold Part.spoiledWindow; (try dsimp only); repeat' split
  all_goals simp
@[simp] theorem Part.spoiledWindow_lif (p : Part) :
    (Part.spoiledWindow p).lif = p.lif := by
  unfold Part.spoiledWindow; (try dsimp only); repeat' split
  all_goals simp
@[simp] theorem Part.spoiledWindow_liu (p : Part) :
    (Part.spoiledWindow p).liu = p.liu := by
  unfold Part.spoiledWindow; (try dsimp only); repeat' split
  all_goals simp
@[simp] theorem Part.spoiledWindow_anu (p : Part) :
    (Part.spoiledWindow p).anu = p.anu := by
  unfold Part.spoiledWindow; (try dsimp only); repeat' split
  all_goals simp
@[simp] theorem Part.spoiledWindow_lpc (p : Part) :
    (Part.spoiledWindow p).lpc = p.lpc := by
  unfold Part.spoiledWindow; (try dsimp only); repeat' split
  all_goals simp
@[simp] theorem Part.spoiledWindow_pins (p : Part) :
    (Part.spoiledWindow p).pins = p.pins := by
  unfold Part.spoiledWindow; (try dsimp only); repeat' split
  all_goals simp
@[simp] theorem Part.spoiledWindow_choices (p : Part) :
    (Part.spoiledWindow p).choices = p.choices := by
  unfold Part.spoiledWindow; (try dsimp only); repeat' split
  all_goals simp
@[simp] theorem Part.recordReachesStale_lif (n : Node) (p : Part) :
    (Part.recordReachesStale n p).lif = p.lif := by
  unfold Part.recordReachesStale; (try dsimp only); repeat' split
  all_goals simp
@[simp] theorem Part.recordReachesStale_liu (n : Node) (p : Part) :
    (Part.recordReachesStale n p).liu = p.liu := by
  unfold Part.recordReachesStale; (try dsimp only); repeat' split
  all_goals simp
@[simp] theorem Part.recordReachesStale_lpc (n : Node) (p : Part) :
    (Part.recordReachesStale n p).lpc = p.lpc := by
  unfold Part.recordReachesStale; (try dsimp only); repeat' split
  all_goals simp
@[simp] theorem Part.recordReachesStale_pins (n : Node) (p : Part) :
    (Part.recordReachesStale n p).pins = p.pins := by
  unfold Part.recordReachesStale; (try dsimp only); repeat' split
  all_goals simp
@[simp] theorem Part.recordReachesRemoval_lif (n : Node) (p : Part) :
    (Part.recordReachesRemoval n p).lif = p.lif := by
  unfold Part.recordReachesRemoval; (try dsimp only); repeat' split
  all_goals simp
@[simp] theorem Part.recordReachesRemoval_liu (n : Node) (p : Part) :
    (Part.recordReachesRemoval n p).liu = p.liu := by
  unfold Part.recordReachesRemoval; (try dsimp only); repeat' split
  all_goals simp
@[simp] theorem Part.recordReachesRemoval_lpc (n : Node) (p : Part) :
    (Part.recordReachesRemoval n p).lpc = p.lpc := by
  unfold Part.recordReachesRemoval; (try dsimp only); repeat' split
  all_goals simp
@[simp] theorem Part.recordReachesRemoval_pins (n : Node) (p : Part) :
    (Part.recordReachesRemoval n p).pins = p.pins := by
  unfold Part.recordReachesRemoval; (try dsimp only); repeat' split
  all_goals simp
@[simp] theorem Part.recordReachesRemoval_choices (n : Node) (p : Part) :
    (Part.recordReachesRemoval n p).choices = p.choices := by
  unfold Part.recordReachesRemoval; (try dsimp only); repeat' split
  all_goals simp
@[simp] theorem Part.commitView_rsq (p : Part) :
    (Part.commitView p).rsq = p.rsq := by
  unfold Part.commitView; (try dsimp only); repeat' split
  all_goals simp
@[simp] theorem Part.commitView_pcu (p : Part) :
    (Part.commitView p).pcu = p.pcu := by
  unfold Part.commitView; (try dsimp only); repeat' split
  all_goals simp
@[simp] theorem Part.commitView_adu (p : Part) :
    (Part.commitView p).adu = p.adu := by
  unfold Part.commitView; (try dsimp only); repeat' split
  all_goals simp
@[simp] theorem Part.commitView_fre (p : Part) :
    (Part.commitView p).fre = p.fre := by
  unfold Part.commitView; (try dsimp only); repeat' split
  all_goals simp
@[simp] theorem Part.commitView_lif (p : Part) :
    (Part.commitView p).lif = p.lif := by
  unfold Part.commitView; (try dsimp only); repeat' split
  all_goals simp
@[simp] theorem Part.commitView_liu (p : Part) :
    (Part.commitView p).liu = p.liu := by
  unfold Part.commitView; (try dsimp only); repeat' split
  all_goals simp
@[simp] theorem Part.commitView_anu (p : Part) :
    (Part.commitView p).anu = p.anu := by
  unfold Part.commitView; (try dsimp only); repeat' split
  all_goals simp
@[simp] theorem Part.commitView_lpc (p : Part) :
    (Part.commitView p).lpc = p.lpc := by
  unfold Part.commitView; (try dsimp only); repeat' split
  all_goals simp
@[simp] theorem Part.commitView_pins (p : Part) :
    (Part.commitView p).pins = p.pins := by
  unfold Part.commitView; (try dsimp only); repeat' split
  all_goals simp
@[simp] theorem Part.commitView_choices (p : Part) :
    (Part.commitView p).choices = p.choices := by
  unfold Part.commitView; (try dsimp only); repeat' split
  all_goals simp

/-! ## The view under PCU's and RSQ's own events (R42, R86, R87)

Each says once what becomes of PVW's record: only the standing deferral answer and S_eff move. -/

@[simp] theorem Part.reevaluateDeferral_pvw (p : Part) :
    p.reevaluateDeferral.pvw = { p.pvw with deferral := deferralAnswer p.pcu.plan.key p.pvw.records } := by
  unfold Part.reevaluateDeferral; dsimp only; split <;> simp [mapPvw]

@[simp] theorem Part.requestPlan_pvw (p : Part) :
    p.requestPlan.pvw =
      { p.pvw with deferral := deferralAnswer (p.settings.makePlan p.planInputs).key p.pvw.records } := by
  unfold Part.requestPlan; simp [mapPcu]

@[simp] theorem Part.replanBlocked_pvw (p : Part) :
    p.replanBlocked.pvw =
      { p.pvw with deferral := deferralAnswer (p.settings.makePlan p.planInputs).key p.pvw.records } := by
  unfold Part.replanBlocked; dsimp only; split <;> simp

@[simp] theorem Part.limitChanged_sEff (p : Part) : p.limitChanged.pvw.sEff = p.pvw.sEff := by
  unfold Part.limitChanged Part.clears; dsimp only; repeat' split
  all_goals simp [choose, mapPcu]

@[simp] theorem Part.recomputeLimit_sEff (p : Part) :
    p.recomputeLimit.pvw.sEff = some (effectiveLimit p.settings.storeLimit p.pvw.records) := by
  unfold Part.recomputeLimit; dsimp only; split <;> simp

/-- At a record's staleness S_eff follows the records that are still fresh (R76, R85). -/
theorem Part.recordReachesStale_sEff {n : Node} {r : PeerRecord} {p : Part} (h : recordOf n p.pvw.records = some r)
    (due : r.reaches Config.staleAge = true) :
    (p.recordReachesStale n).pvw.sEff =
      some (effectiveLimit p.settings.storeLimit
        (upsert n (fun r => { r with age := Config.staleAge, ageClock := 0 }) p.pvw.records)) := by
  unfold Part.recordReachesStale
  simp [h, due, mapPvw, settings]

end Sys2Proof.Machine
end

