-- ==== Sys2Proof/Laws/FramesLine.lean ====
section
/-! SUPPORT. Frames of the operations of FRE and LIF: the blocks that each leaves as they were. -/

namespace Sys2Proof.Machine

@[simp] theorem Part.lineTurnsDriven_rsq (p : Part) :
    (Part.lineTurnsDriven p).rsq = p.rsq := by
  unfold Part.lineTurnsDriven; (try dsimp only); repeat' split
  all_goals simp
@[simp] theorem Part.lineTurnsDriven_pcu (p : Part) :
    (Part.lineTurnsDriven p).pcu = p.pcu := by
  unfold Part.lineTurnsDriven; (try dsimp only); repeat' split
  all_goals simp
@[simp] theorem Part.lineTurnsDriven_adu (p : Part) :
    (Part.lineTurnsDriven p).adu = p.adu := by
  unfold Part.lineTurnsDriven; (try dsimp only); repeat' split
  all_goals simp
@[simp] theorem Part.lineTurnsDriven_pvw (p : Part) :
    (Part.lineTurnsDriven p).pvw = p.pvw := by
  unfold Part.lineTurnsDriven; (try dsimp only); repeat' split
  all_goals simp
@[simp] theorem Part.lineTurnsDriven_fre (p : Part) :
    (Part.lineTurnsDriven p).fre = p.fre := by
  unfold Part.lineTurnsDriven; (try dsimp only); repeat' split
  all_goals simp
@[simp] theorem Part.lineTurnsDriven_liu (p : Part) :
    (Part.lineTurnsDriven p).liu = p.liu := by
  unfold Part.lineTurnsDriven; (try dsimp only); repeat' split
  all_goals simp
@[simp] theorem Part.lineTurnsDriven_anu (p : Part) :
    (Part.lineTurnsDriven p).anu = p.anu := by
  unfold Part.lineTurnsDriven; (try dsimp only); repeat' split
  all_goals simp
@[simp] theorem Part.lineTurnsDriven_lpc (p : Part) :
    (Part.lineTurnsDriven p).lpc = p.lpc := by
  unfold Part.lineTurnsDriven; (try dsimp only); repeat' split
  all_goals simp
@[simp] theorem Part.lineTurnsDriven_choices (p : Part) :
    (Part.lineTurnsDriven p).choices = p.choices := by
  unfold Part.lineTurnsDriven; (try dsimp only); repeat' split
  all_goals simp
@[simp] theorem Part.lineTurnsReleased_rsq (p : Part) :
    (Part.lineTurnsReleased p).rsq = p.rsq := by
  unfold Part.lineTurnsReleased; (try dsimp only); repeat' split
  all_goals simp
@[simp] theorem Part.lineTurnsReleased_pcu (p : Part) :
    (Part.lineTurnsReleased p).pcu = p.pcu := by
  unfold Part.lineTurnsReleased; (try dsimp only); repeat' split
  all_goals simp
@[simp] theorem Part.lineTurnsReleased_adu (p : Part) :
    (Part.lineTurnsReleased p).adu = p.adu := by
  unfold Part.lineTurnsReleased; (try dsimp only); repeat' split
  all_goals simp
@[simp] theorem Part.lineTurnsReleased_pvw (p : Part) :
    (Part.lineTurnsReleased p).pvw = p.pvw := by
  unfold Part.lineTurnsReleased; (try dsimp only); repeat' split
  all_goals simp
@[simp] theorem Part.lineTurnsReleased_fre (p : Part) :
    (Part.lineTurnsReleased p).fre = p.fre := by
  unfold Part.lineTurnsReleased; (try dsimp only); repeat' split
  all_goals simp
@[simp] theorem Part.lineTurnsReleased_liu (p : Part) :
    (Part.lineTurnsReleased p).liu = p.liu := by
  unfold Part.lineTurnsReleased; (try dsimp only); repeat' split
  all_goals simp
@[simp] theorem Part.lineTurnsReleased_anu (p : Part) :
    (Part.lineTurnsReleased p).anu = p.anu := by
  unfold Part.lineTurnsReleased; (try dsimp only); repeat' split
  all_goals simp
@[simp] theorem Part.lineTurnsReleased_lpc (p : Part) :
    (Part.lineTurnsReleased p).lpc = p.lpc := by
  unfold Part.lineTurnsReleased; (try dsimp only); repeat' split
  all_goals simp
@[simp] theorem Part.lineTurnsReleased_choices (p : Part) :
    (Part.lineTurnsReleased p).choices = p.choices := by
  unfold Part.lineTurnsReleased; (try dsimp only); repeat' split
  all_goals simp
@[simp] theorem Part.othersDrive_rsq (p : Part) :
    (Part.othersDrive p).rsq = p.rsq := by
  unfold Part.othersDrive; (try dsimp only); repeat' split
  all_goals simp
@[simp] theorem Part.othersDrive_pcu (p : Part) :
    (Part.othersDrive p).pcu = p.pcu := by
  unfold Part.othersDrive; (try dsimp only); repeat' split
  all_goals simp
@[simp] theorem Part.othersDrive_adu (p : Part) :
    (Part.othersDrive p).adu = p.adu := by
  unfold Part.othersDrive; (try dsimp only); repeat' split
  all_goals simp
@[simp] theorem Part.othersDrive_pvw (p : Part) :
    (Part.othersDrive p).pvw = p.pvw := by
  unfold Part.othersDrive; (try dsimp only); repeat' split
  all_goals simp
@[simp] theorem Part.othersDrive_fre (p : Part) :
    (Part.othersDrive p).fre = p.fre := by
  unfold Part.othersDrive; (try dsimp only); repeat' split
  all_goals simp
@[simp] theorem Part.othersDrive_lif (p : Part) :
    (Part.othersDrive p).lif = p.lif := by
  unfold Part.othersDrive; (try dsimp only); repeat' split
  all_goals simp
@[simp] theorem Part.othersDrive_liu (p : Part) :
    (Part.othersDrive p).liu = p.liu := by
  unfold Part.othersDrive; (try dsimp only); repeat' split
  all_goals simp
@[simp] theorem Part.othersDrive_anu (p : Part) :
    (Part.othersDrive p).anu = p.anu := by
  unfold Part.othersDrive; (try dsimp only); repeat' split
  all_goals simp
@[simp] theorem Part.othersDrive_lpc (p : Part) :
    (Part.othersDrive p).lpc = p.lpc := by
  unfold Part.othersDrive; (try dsimp only); repeat' split
  all_goals simp
@[simp] theorem Part.othersDrive_choices (p : Part) :
    (Part.othersDrive p).choices = p.choices := by
  unfold Part.othersDrive; (try dsimp only); repeat' split
  all_goals simp
@[simp] theorem Part.attemptFails_rsq (p : Part) :
    (Part.attemptFails p).rsq = p.rsq := by
  unfold Part.attemptFails; (try dsimp only); repeat' split
  all_goals simp
@[simp] theorem Part.attemptFails_pcu (p : Part) :
    (Part.attemptFails p).pcu = p.pcu := by
  unfold Part.attemptFails; (try dsimp only); repeat' split
  all_goals simp
@[simp] theorem Part.attemptFails_adu (p : Part) :
    (Part.attemptFails p).adu = p.adu := by
  unfold Part.attemptFails; (try dsimp only); repeat' split
  all_goals simp
@[simp] theorem Part.attemptFails_pvw (p : Part) :
    (Part.attemptFails p).pvw = p.pvw := by
  unfold Part.attemptFails; (try dsimp only); repeat' split
  all_goals simp
@[simp] theorem Part.attemptFails_liu (p : Part) :
    (Part.attemptFails p).liu = p.liu := by
  unfold Part.attemptFails; (try dsimp only); repeat' split
  all_goals simp
@[simp] theorem Part.attemptFails_anu (p : Part) :
    (Part.attemptFails p).anu = p.anu := by
  unfold Part.attemptFails; (try dsimp only); repeat' split
  all_goals simp
@[simp] theorem Part.attemptFails_lpc (p : Part) :
    (Part.attemptFails p).lpc = p.lpc := by
  unfold Part.attemptFails; (try dsimp only); repeat' split
  all_goals simp
@[simp] theorem Part.attemptFails_pins (p : Part) :
    (Part.attemptFails p).pins = p.pins := by
  unfold Part.attemptFails; (try dsimp only); repeat' split
  all_goals simp
@[simp] theorem Part.attemptFails_choices (p : Part) :
    (Part.attemptFails p).choices = p.choices := by
  unfold Part.attemptFails; (try dsimp only); repeat' split
  all_goals simp
@[simp] theorem Part.abandon_rsq (k : Option ErrorKind) (mark : Bool) (p : Part) :
    (Part.abandon k mark p).rsq = p.rsq := by
  unfold Part.abandon; (try dsimp only); repeat' split
  all_goals simp
@[simp] theorem Part.abandon_pcu (k : Option ErrorKind) (mark : Bool) (p : Part) :
    (Part.abandon k mark p).pcu = p.pcu := by
  unfold Part.abandon; (try dsimp only); repeat' split
  all_goals simp
@[simp] theorem Part.abandon_adu (k : Option ErrorKind) (mark : Bool) (p : Part) :
    (Part.abandon k mark p).adu = p.adu := by
  unfold Part.abandon; (try dsimp only); repeat' split
  all_goals simp
@[simp] theorem Part.abandon_pvw (k : Option ErrorKind) (mark : Bool) (p : Part) :
    (Part.abandon k mark p).pvw = p.pvw := by
  unfold Part.abandon; (try dsimp only); repeat' split
  all_goals simp
@[simp] theorem Part.abandon_liu (k : Option ErrorKind) (mark : Bool) (p : Part) :
    (Part.abandon k mark p).liu = p.liu := by
  unfold Part.abandon; (try dsimp only); repeat' split
  all_goals simp
@[simp] theorem Part.abandon_anu (k : Option ErrorKind) (mark : Bool) (p : Part) :
    (Part.abandon k mark p).anu = p.anu := by
  unfold Part.abandon; (try dsimp only); repeat' split
  all_goals simp
@[simp] theorem Part.abandon_lpc (k : Option ErrorKind) (mark : Bool) (p : Part) :
    (Part.abandon k mark p).lpc = p.lpc := by
  unfold Part.abandon; (try dsimp only); repeat' split
  all_goals simp
@[simp] theorem Part.abandon_pins (k : Option ErrorKind) (mark : Bool) (p : Part) :
    (Part.abandon k mark p).pins = p.pins := by
  unfold Part.abandon; (try dsimp only); repeat' split
  all_goals simp
@[simp] theorem Part.abandon_choices (k : Option ErrorKind) (mark : Bool) (p : Part) :
    (Part.abandon k mark p).choices = p.choices := by
  unfold Part.abandon; (try dsimp only); repeat' split
  all_goals simp
@[simp] theorem Part.recordDuplicate_rsq (p : Part) :
    (Part.recordDuplicate p).rsq = p.rsq := by
  unfold Part.recordDuplicate; (try dsimp only); repeat' split
  all_goals simp
@[simp] theorem Part.recordDuplicate_pcu (p : Part) :
    (Part.recordDuplicate p).pcu = p.pcu := by
  unfold Part.recordDuplicate; (try dsimp only); repeat' split
  all_goals simp
@[simp] theorem Part.recordDuplicate_pvw (p : Part) :
    (Part.recordDuplicate p).pvw = p.pvw := by
  unfold Part.recordDuplicate; (try dsimp only); repeat' split
  all_goals simp
@[simp] theorem Part.recordDuplicate_liu (p : Part) :
    (Part.recordDuplicate p).liu = p.liu := by
  unfold Part.recordDuplicate; (try dsimp only); repeat' split
  all_goals simp
@[simp] theorem Part.recordDuplicate_anu (p : Part) :
    (Part.recordDuplicate p).anu = p.anu := by
  unfold Part.recordDuplicate; (try dsimp only); repeat' split
  all_goals simp
@[simp] theorem Part.recordDuplicate_lpc (p : Part) :
    (Part.recordDuplicate p).lpc = p.lpc := by
  unfold Part.recordDuplicate; (try dsimp only); repeat' split
  all_goals simp
@[simp] theorem Part.recordDuplicate_pins (p : Part) :
    (Part.recordDuplicate p).pins = p.pins := by
  unfold Part.recordDuplicate; (try dsimp only); repeat' split
  all_goals simp
@[simp] theorem Part.recordDuplicate_choices (p : Part) :
    (Part.recordDuplicate p).choices = p.choices := by
  unfold Part.recordDuplicate; (try dsimp only); repeat' split
  all_goals simp
@[simp] theorem Part.duplicateFrame_rsq (p : Part) :
    (Part.duplicateFrame p).rsq = p.rsq := by
  unfold Part.duplicateFrame; (try dsimp only); repeat' split
  all_goals simp
@[simp] theorem Part.duplicateFrame_pcu (p : Part) :
    (Part.duplicateFrame p).pcu = p.pcu := by
  unfold Part.duplicateFrame; (try dsimp only); repeat' split
  all_goals simp
@[simp] theorem Part.duplicateFrame_pvw (p : Part) :
    (Part.duplicateFrame p).pvw = p.pvw := by
  unfold Part.duplicateFrame; (try dsimp only); repeat' split
  all_goals simp
@[simp] theorem Part.duplicateFrame_liu (p : Part) :
    (Part.duplicateFrame p).liu = p.liu := by
  unfold Part.duplicateFrame; (try dsimp only); repeat' split
  all_goals simp
@[simp] theorem Part.duplicateFrame_anu (p : Part) :
    (Part.duplicateFrame p).anu = p.anu := by
  unfold Part.duplicateFrame; (try dsimp only); repeat' split
  all_goals simp
@[simp] theorem Part.duplicateFrame_lpc (p : Part) :
    (Part.duplicateFrame p).lpc = p.lpc := by
  unfold Part.duplicateFrame; (try dsimp only); repeat' split
  all_goals simp
@[simp] theorem Part.duplicateFrame_pins (p : Part) :
    (Part.duplicateFrame p).pins = p.pins := by
  unfold Part.duplicateFrame; (try dsimp only); repeat' split
  all_goals simp
@[simp] theorem Part.duplicateFrame_choices (p : Part) :
    (Part.duplicateFrame p).choices = p.choices := by
  unfold Part.duplicateFrame; (try dsimp only); repeat' split
  all_goals simp
@[simp] theorem Part.duplicateResponse_rsq (p : Part) :
    (Part.duplicateResponse p).rsq = p.rsq := by
  unfold Part.duplicateResponse; (try dsimp only); repeat' split
  all_goals simp
@[simp] theorem Part.duplicateResponse_pcu (p : Part) :
    (Part.duplicateResponse p).pcu = p.pcu := by
  unfold Part.duplicateResponse; (try dsimp only); repeat' split
  all_goals simp
@[simp] theorem Part.duplicateResponse_pvw (p : Part) :
    (Part.duplicateResponse p).pvw = p.pvw := by
  unfold Part.duplicateResponse; (try dsimp only); repeat' split
  all_goals simp
@[simp] theorem Part.duplicateResponse_liu (p : Part) :
    (Part.duplicateResponse p).liu = p.liu := by
  unfold Part.duplicateResponse; (try dsimp only); repeat' split
  all_goals simp
@[simp] theorem Part.duplicateResponse_anu (p : Part) :
    (Part.duplicateResponse p).anu = p.anu := by
  unfold Part.duplicateResponse; (try dsimp only); repeat' split
  all_goals simp
@[simp] theorem Part.duplicateResponse_lpc (p : Part) :
    (Part.duplicateResponse p).lpc = p.lpc := by
  unfold Part.duplicateResponse; (try dsimp only); repeat' split
  all_goals simp
@[simp] theorem Part.duplicateResponse_pins (p : Part) :
    (Part.duplicateResponse p).pins = p.pins := by
  unfold Part.duplicateResponse; (try dsimp only); repeat' split
  all_goals simp
@[simp] theorem Part.duplicateResponse_choices (p : Part) :
    (Part.duplicateResponse p).choices = p.choices := by
  unfold Part.duplicateResponse; (try dsimp only); repeat' split
  all_goals simp
@[simp] theorem Part.takeBit_rsq (b : Bool) (p : Part) :
    (Part.takeBit b p).rsq = p.rsq := by
  unfold Part.takeBit; (try dsimp only); repeat' split
  all_goals simp
@[simp] theorem Part.takeBit_pcu (b : Bool) (p : Part) :
    (Part.takeBit b p).pcu = p.pcu := by
  unfold Part.takeBit; (try dsimp only); repeat' split
  all_goals simp
@[simp] theorem Part.takeBit_adu (b : Bool) (p : Part) :
    (Part.takeBit b p).adu = p.adu := by
  unfold Part.takeBit; (try dsimp only); repeat' split
  all_goals simp
@[simp] theorem Part.takeBit_pvw (b : Bool) (p : Part) :
    (Part.takeBit b p).pvw = p.pvw := by
  unfold Part.takeBit; (try dsimp only); repeat' split
  all_goals simp
@[simp] theorem Part.takeBit_liu (b : Bool) (p : Part) :
    (Part.takeBit b p).liu = p.liu := by
  unfold Part.takeBit; (try dsimp only); repeat' split
  all_goals simp
@[simp] theorem Part.takeBit_anu (b : Bool) (p : Part) :
    (Part.takeBit b p).anu = p.anu := by
  unfold Part.takeBit; (try dsimp only); repeat' split
  all_goals simp
@[simp] theorem Part.takeBit_lpc (b : Bool) (p : Part) :
    (Part.takeBit b p).lpc = p.lpc := by
  unfold Part.takeBit; (try dsimp only); repeat' split
  all_goals simp
@[simp] theorem Part.takeBit_pins (b : Bool) (p : Part) :
    (Part.takeBit b p).pins = p.pins := by
  unfold Part.takeBit; (try dsimp only); repeat' split
  all_goals simp
@[simp] theorem Part.takeBit_choices (b : Bool) (p : Part) :
    (Part.takeBit b p).choices = p.choices := by
  unfold Part.takeBit; (try dsimp only); repeat' split
  all_goals simp
@[simp] theorem Part.takeSymbol_rsq (s : Symbol) (p : Part) :
    (Part.takeSymbol s p).rsq = p.rsq := by
  unfold Part.takeSymbol; (try dsimp only); repeat' split
  all_goals simp
@[simp] theorem Part.takeSymbol_pcu (s : Symbol) (p : Part) :
    (Part.takeSymbol s p).pcu = p.pcu := by
  unfold Part.takeSymbol; (try dsimp only); repeat' split
  all_goals simp
@[simp] theorem Part.takeSymbol_adu (s : Symbol) (p : Part) :
    (Part.takeSymbol s p).adu = p.adu := by
  unfold Part.takeSymbol; (try dsimp only); repeat' split
  all_goals simp
@[simp] theorem Part.takeSymbol_pvw (s : Symbol) (p : Part) :
    (Part.takeSymbol s p).pvw = p.pvw := by
  unfold Part.takeSymbol; (try dsimp only); repeat' split
  all_goals simp
@[simp] theorem Part.takeSymbol_liu (s : Symbol) (p : Part) :
    (Part.takeSymbol s p).liu = p.liu := by
  unfold Part.takeSymbol; (try dsimp only); repeat' split
  all_goals simp
@[simp] theorem Part.takeSymbol_anu (s : Symbol) (p : Part) :
    (Part.takeSymbol s p).anu = p.anu := by
  unfold Part.takeSymbol; (try dsimp only); repeat' split
  all_goals simp
@[simp] theorem Part.takeSymbol_lpc (s : Symbol) (p : Part) :
    (Part.takeSymbol s p).lpc = p.lpc := by
  unfold Part.takeSymbol; (try dsimp only); repeat' split
  all_goals simp
@[simp] theorem Part.takeSymbol_pins (s : Symbol) (p : Part) :
    (Part.takeSymbol s p).pins = p.pins := by
  unfold Part.takeSymbol; (try dsimp only); repeat' split
  all_goals simp
@[simp] theorem Part.takeSymbol_choices (s : Symbol) (p : Part) :
    (Part.takeSymbol s p).choices = p.choices := by
  unfold Part.takeSymbol; (try dsimp only); repeat' split
  all_goals simp
@[simp] theorem Part.drivenPhaseEnds_rsq (length : Nat) (p : Part) :
    (Part.drivenPhaseEnds length p).rsq = p.rsq := by
  unfold Part.drivenPhaseEnds; (try dsimp only); repeat' split
  all_goals simp
@[simp] theorem Part.drivenPhaseEnds_pcu (length : Nat) (p : Part) :
    (Part.drivenPhaseEnds length p).pcu = p.pcu := by
  unfold Part.drivenPhaseEnds; (try dsimp only); repeat' split
  all_goals simp
@[simp] theorem Part.drivenPhaseEnds_adu (length : Nat) (p : Part) :
    (Part.drivenPhaseEnds length p).adu = p.adu := by
  unfold Part.drivenPhaseEnds; (try dsimp only); repeat' split
  all_goals simp
@[simp] theorem Part.drivenPhaseEnds_pvw (length : Nat) (p : Part) :
    (Part.drivenPhaseEnds length p).pvw = p.pvw := by
  unfold Part.drivenPhaseEnds; (try dsimp only); repeat' split
  all_goals simp
@[simp] theorem Part.drivenPhaseEnds_liu (length : Nat) (p : Part) :
    (Part.drivenPhaseEnds length p).liu = p.liu := by
  unfold Part.drivenPhaseEnds; (try dsimp only); repeat' split
  all_goals simp
@[simp] theorem Part.drivenPhaseEnds_anu (length : Nat) (p : Part) :
    (Part.drivenPhaseEnds length p).anu = p.anu := by
  unfold Part.drivenPhaseEnds; (try dsimp only); repeat' split
  all_goals simp
@[simp] theorem Part.drivenPhaseEnds_lpc (length : Nat) (p : Part) :
    (Part.drivenPhaseEnds length p).lpc = p.lpc := by
  unfold Part.drivenPhaseEnds; (try dsimp only); repeat' split
  all_goals simp
@[simp] theorem Part.drivenPhaseEnds_choices (length : Nat) (p : Part) :
    (Part.drivenPhaseEnds length p).choices = p.choices := by
  unfold Part.drivenPhaseEnds; (try dsimp only); repeat' split
  all_goals simp
@[simp] theorem Part.openWindow_lif (f : Frame) (draw : Nat) (p : Part) :
    (Part.openWindow f draw p).lif = p.lif := by
  unfold Part.openWindow; (try dsimp only); repeat' split
  all_goals simp
@[simp] theorem Part.openWindow_liu (f : Frame) (draw : Nat) (p : Part) :
    (Part.openWindow f draw p).liu = p.liu := by
  unfold Part.openWindow; (try dsimp only); repeat' split
  all_goals simp
@[simp] theorem Part.openWindow_lpc (f : Frame) (draw : Nat) (p : Part) :
    (Part.openWindow f draw p).lpc = p.lpc := by
  unfold Part.openWindow; (try dsimp only); repeat' split
  all_goals simp
@[simp] theorem Part.openWindow_pins (f : Frame) (draw : Nat) (p : Part) :
    (Part.openWindow f draw p).pins = p.pins := by
  unfold Part.openWindow; (try dsimp only); repeat' split
  all_goals simp
@[simp] theorem Part.acceptFrame_lif (f : Frame) (p : Part) :
    (Part.acceptFrame f p).lif = p.lif := by
  unfold Part.acceptFrame; (try dsimp only); repeat' split
  all_goals simp
@[simp] theorem Part.acceptFrame_liu (f : Frame) (p : Part) :
    (Part.acceptFrame f p).liu = p.liu := by
  unfold Part.acceptFrame; (try dsimp only); repeat' split
  all_goals simp
@[simp] theorem Part.acceptFrame_lpc (f : Frame) (p : Part) :
    (Part.acceptFrame f p).lpc = p.lpc := by
  unfold Part.acceptFrame; (try dsimp only); repeat' split
  all_goals simp
@[simp] theorem Part.acceptFrame_pins (f : Frame) (p : Part) :
    (Part.acceptFrame f p).pins = p.pins := by
  unfold Part.acceptFrame; (try dsimp only); repeat' split
  all_goals simp
@[simp] theorem Part.testReceived_liu (p : Part) :
    (Part.testReceived p).liu = p.liu := by
  unfold Part.testReceived; (try dsimp only); repeat' split
  all_goals simp
@[simp] theorem Part.testReceived_lpc (p : Part) :
    (Part.testReceived p).lpc = p.lpc := by
  unfold Part.testReceived; (try dsimp only); repeat' split
  all_goals simp
@[simp] theorem Part.testReceived_pins (p : Part) :
    (Part.testReceived p).pins = p.pins := by
  unfold Part.testReceived; (try dsimp only); repeat' split
  all_goals simp
@[simp] theorem Part.takeResponse_rsq (sent : Bool) (p : Part) :
    (Part.takeResponse sent p).rsq = p.rsq := by
  unfold Part.takeResponse; (try dsimp only); repeat' split
  all_goals simp
@[simp] theorem Part.takeResponse_pcu (sent : Bool) (p : Part) :
    (Part.takeResponse sent p).pcu = p.pcu := by
  unfold Part.takeResponse; (try dsimp only); repeat' split
  all_goals simp
@[simp] theorem Part.takeResponse_pvw (sent : Bool) (p : Part) :
    (Part.takeResponse sent p).pvw = p.pvw := by
  unfold Part.takeResponse; (try dsimp only); repeat' split
  all_goals simp
@[simp] theorem Part.takeResponse_liu (sent : Bool) (p : Part) :
    (Part.takeResponse sent p).liu = p.liu := by
  unfold Part.takeResponse; (try dsimp only); repeat' split
  all_goals simp
@[simp] theorem Part.takeResponse_anu (sent : Bool) (p : Part) :
    (Part.takeResponse sent p).anu = p.anu := by
  unfold Part.takeResponse; (try dsimp only); repeat' split
  all_goals simp
@[simp] theorem Part.takeResponse_lpc (sent : Bool) (p : Part) :
    (Part.takeResponse sent p).lpc = p.lpc := by
  unfold Part.takeResponse; (try dsimp only); repeat' split
  all_goals simp
@[simp] theorem Part.takeResponse_pins (sent : Bool) (p : Part) :
    (Part.takeResponse sent p).pins = p.pins := by
  unfold Part.takeResponse; (try dsimp only); repeat' split
  all_goals simp
@[simp] theorem Part.takeResponse_choices (sent : Bool) (p : Part) :
    (Part.takeResponse sent p).choices = p.choices := by
  unfold Part.takeResponse; (try dsimp only); repeat' split
  all_goals simp
@[simp] theorem Part.boundary_liu (sent : Bool) (p : Part) :
    (Part.boundary sent p).liu = p.liu := by
  unfold Part.boundary; (try dsimp only); repeat' split
  all_goals simp
@[simp] theorem Part.boundary_lpc (sent : Bool) (p : Part) :
    (Part.boundary sent p).lpc = p.lpc := by
  unfold Part.boundary; (try dsimp only); repeat' split
  all_goals simp
@[simp] theorem Part.boundary_pins (sent : Bool) (p : Part) :
    (Part.boundary sent p).pins = p.pins := by
  unfold Part.boundary; (try dsimp only); repeat' split
  all_goals simp
@[simp] theorem Part.dataEndReached_liu (p : Part) :
    (Part.dataEndReached p).liu = p.liu := by
  unfold Part.dataEndReached; (try dsimp only); repeat' split
  all_goals simp
@[simp] theorem Part.dataEndReached_lpc (p : Part) :
    (Part.dataEndReached p).lpc = p.lpc := by
  unfold Part.dataEndReached; (try dsimp only); repeat' split
  all_goals simp
@[simp] theorem Part.dataEndReached_pins (p : Part) :
    (Part.dataEndReached p).pins = p.pins := by
  unfold Part.dataEndReached; (try dsimp only); repeat' split
  all_goals simp
@[simp] theorem Part.judgeEdge_rsq (length : Nat) (p : Part) :
    (Part.judgeEdge length p).rsq = p.rsq := by
  unfold Part.judgeEdge; (try dsimp only); repeat' split
  all_goals simp
@[simp] theorem Part.judgeEdge_pcu (length : Nat) (p : Part) :
    (Part.judgeEdge length p).pcu = p.pcu := by
  unfold Part.judgeEdge; (try dsimp only); repeat' split
  all_goals simp
@[simp] theorem Part.judgeEdge_adu (length : Nat) (p : Part) :
    (Part.judgeEdge length p).adu = p.adu := by
  unfold Part.judgeEdge; (try dsimp only); repeat' split
  all_goals simp
@[simp] theorem Part.judgeEdge_pvw (length : Nat) (p : Part) :
    (Part.judgeEdge length p).pvw = p.pvw := by
  unfold Part.judgeEdge; (try dsimp only); repeat' split
  all_goals simp
@[simp] theorem Part.judgeEdge_liu (length : Nat) (p : Part) :
    (Part.judgeEdge length p).liu = p.liu := by
  unfold Part.judgeEdge; (try dsimp only); repeat' split
  all_goals simp
@[simp] theorem Part.judgeEdge_anu (length : Nat) (p : Part) :
    (Part.judgeEdge length p).anu = p.anu := by
  unfold Part.judgeEdge; (try dsimp only); repeat' split
  all_goals simp
@[simp] theorem Part.judgeEdge_lpc (length : Nat) (p : Part) :
    (Part.judgeEdge length p).lpc = p.lpc := by
  unfold Part.judgeEdge; (try dsimp only); repeat' split
  all_goals simp
@[simp] theorem Part.judgeEdge_pins (length : Nat) (p : Part) :
    (Part.judgeEdge length p).pins = p.pins := by
  unfold Part.judgeEdge; (try dsimp only); repeat' split
  all_goals simp
@[simp] theorem Part.judgeEdge_choices (length : Nat) (p : Part) :
    (Part.judgeEdge length p).choices = p.choices := by
  unfold Part.judgeEdge; (try dsimp only); repeat' split
  all_goals simp
@[simp] theorem Part.edgeAfter_liu (length : Nat) (p : Part) :
    (Part.edgeAfter length p).liu = p.liu := by
  unfold Part.edgeAfter; (try dsimp only); repeat' split
  all_goals simp
@[simp] theorem Part.edgeAfter_lpc (length : Nat) (p : Part) :
    (Part.edgeAfter length p).lpc = p.lpc := by
  unfold Part.edgeAfter; (try dsimp only); repeat' split
  all_goals simp
@[simp] theorem Part.symbolFault_rsq (e : SymbolFault) (p : Part) :
    (Part.symbolFault e p).rsq = p.rsq := by
  unfold Part.symbolFault; (try dsimp only); repeat' split
  all_goals simp
@[simp] theorem Part.symbolFault_pcu (e : SymbolFault) (p : Part) :
    (Part.symbolFault e p).pcu = p.pcu := by
  unfold Part.symbolFault; (try dsimp only); repeat' split
  all_goals simp
@[simp] theorem Part.symbolFault_adu (e : SymbolFault) (p : Part) :
    (Part.symbolFault e p).adu = p.adu := by
  unfold Part.symbolFault; (try dsimp only); repeat' split
  all_goals simp
@[simp] theorem Part.symbolFault_pvw (e : SymbolFault) (p : Part) :
    (Part.symbolFault e p).pvw = p.pvw := by
  unfold Part.symbolFault; (try dsimp only); repeat' split
  all_goals simp
@[simp] theorem Part.symbolFault_liu (e : SymbolFault) (p : Part) :
    (Part.symbolFault e p).liu = p.liu := by
  unfold Part.symbolFault; (try dsimp only); repeat' split
  all_goals simp
@[simp] theorem Part.symbolFault_anu (e : SymbolFault) (p : Part) :
    (Part.symbolFault e p).anu = p.anu := by
  unfold Part.symbolFault; (try dsimp only); repeat' split
  all_goals simp
@[simp] theorem Part.symbolFault_lpc (e : SymbolFault) (p : Part) :
    (Part.symbolFault e p).lpc = p.lpc := by
  unfold Part.symbolFault; (try dsimp only); repeat' split
  all_goals simp
@[simp] theorem Part.symbolFault_choices (e : SymbolFault) (p : Part) :
    (Part.symbolFault e p).choices = p.choices := by
  unfold Part.symbolFault; (try dsimp only); repeat' split
  all_goals simp
@[simp] theorem Part.takeHeld_rsq (p : Part) :
    (Part.takeHeld p).rsq = p.rsq := by
  unfold Part.takeHeld; (try dsimp only); repeat' split
  all_goals simp
@[simp] theorem Part.takeHeld_pcu (p : Part) :
    (Part.takeHeld p).pcu = p.pcu := by
  unfold Part.takeHeld; (try dsimp only); repeat' split
  all_goals simp
@[simp] theorem Part.takeHeld_adu (p : Part) :
    (Part.takeHeld p).adu = p.adu := by
  unfold Part.takeHeld; (try dsimp only); repeat' split
  all_goals simp
@[simp] theorem Part.takeHeld_pvw (p : Part) :
    (Part.takeHeld p).pvw = p.pvw := by
  unfold Part.takeHeld; (try dsimp only); repeat' split
  all_goals simp
@[simp] theorem Part.takeHeld_liu (p : Part) :
    (Part.takeHeld p).liu = p.liu := by
  unfold Part.takeHeld; (try dsimp only); repeat' split
  all_goals simp
@[simp] theorem Part.takeHeld_anu (p : Part) :
    (Part.takeHeld p).anu = p.anu := by
  unfold Part.takeHeld; (try dsimp only); repeat' split
  all_goals simp
@[simp] theorem Part.takeHeld_lpc (p : Part) :
    (Part.takeHeld p).lpc = p.lpc := by
  unfold Part.takeHeld; (try dsimp only); repeat' split
  all_goals simp
@[simp] theorem Part.takeHeld_pins (p : Part) :
    (Part.takeHeld p).pins = p.pins := by
  unfold Part.takeHeld; (try dsimp only); repeat' split
  all_goals simp
@[simp] theorem Part.takeHeld_choices (p : Part) :
    (Part.takeHeld p).choices = p.choices := by
  unfold Part.takeHeld; (try dsimp only); repeat' split
  all_goals simp
@[simp] theorem Part.heldReached_rsq (p : Part) :
    (Part.heldReached p).rsq = p.rsq := by
  unfold Part.heldReached; (try dsimp only); repeat' split
  all_goals simp
@[simp] theorem Part.heldReached_pcu (p : Part) :
    (Part.heldReached p).pcu = p.pcu := by
  unfold Part.heldReached; (try dsimp only); repeat' split
  all_goals simp
@[simp] theorem Part.heldReached_adu (p : Part) :
    (Part.heldReached p).adu = p.adu := by
  unfold Part.heldReached; (try dsimp only); repeat' split
  all_goals simp
@[simp] theorem Part.heldReached_pvw (p : Part) :
    (Part.heldReached p).pvw = p.pvw := by
  unfold Part.heldReached; (try dsimp only); repeat' split
  all_goals simp
@[simp] theorem Part.heldReached_liu (p : Part) :
    (Part.heldReached p).liu = p.liu := by
  unfold Part.heldReached; (try dsimp only); repeat' split
  all_goals simp
@[simp] theorem Part.heldReached_anu (p : Part) :
    (Part.heldReached p).anu = p.anu := by
  unfold Part.heldReached; (try dsimp only); repeat' split
  all_goals simp
@[simp] theorem Part.heldReached_lpc (p : Part) :
    (Part.heldReached p).lpc = p.lpc := by
  unfold Part.heldReached; (try dsimp only); repeat' split
  all_goals simp
@[simp] theorem Part.heldReached_choices (p : Part) :
    (Part.heldReached p).choices = p.choices := by
  unfold Part.heldReached; (try dsimp only); repeat' split
  all_goals simp
@[simp] theorem Part.stuckReached_rsq (p : Part) :
    (Part.stuckReached p).rsq = p.rsq := by
  unfold Part.stuckReached; (try dsimp only); repeat' split
  all_goals simp
@[simp] theorem Part.stuckReached_pcu (p : Part) :
    (Part.stuckReached p).pcu = p.pcu := by
  unfold Part.stuckReached; (try dsimp only); repeat' split
  all_goals simp
@[simp] theorem Part.stuckReached_pvw (p : Part) :
    (Part.stuckReached p).pvw = p.pvw := by
  unfold Part.stuckReached; (try dsimp only); repeat' split
  all_goals simp
@[simp] theorem Part.stuckReached_liu (p : Part) :
    (Part.stuckReached p).liu = p.liu := by
  unfold Part.stuckReached; (try dsimp only); repeat' split
  all_goals simp
@[simp] theorem Part.stuckReached_anu (p : Part) :
    (Part.stuckReached p).anu = p.anu := by
  unfold Part.stuckReached; (try dsimp only); repeat' split
  all_goals simp
@[simp] theorem Part.stuckReached_lpc (p : Part) :
    (Part.stuckReached p).lpc = p.lpc := by
  unfold Part.stuckReached; (try dsimp only); repeat' split
  all_goals simp
@[simp] theorem Part.stuckReached_choices (p : Part) :
    (Part.stuckReached p).choices = p.choices := by
  unfold Part.stuckReached; (try dsimp only); repeat' split
  all_goals simp
@[simp] theorem Part.stuckExpires_rsq (p : Part) :
    (Part.stuckExpires p).rsq = p.rsq := by
  unfold Part.stuckExpires; (try dsimp only); repeat' split
  all_goals simp
@[simp] theorem Part.stuckExpires_pcu (p : Part) :
    (Part.stuckExpires p).pcu = p.pcu := by
  unfold Part.stuckExpires; (try dsimp only); repeat' split
  all_goals simp
@[simp] theorem Part.stuckExpires_pvw (p : Part) :
    (Part.stuckExpires p).pvw = p.pvw := by
  unfold Part.stuckExpires; (try dsimp only); repeat' split
  all_goals simp
@[simp] theorem Part.stuckExpires_fre (p : Part) :
    (Part.stuckExpires p).fre = p.fre := by
  unfold Part.stuckExpires; (try dsimp only); repeat' split
  all_goals simp
@[simp] theorem Part.stuckExpires_lif (p : Part) :
    (Part.stuckExpires p).lif = p.lif := by
  unfold Part.stuckExpires; (try dsimp only); repeat' split
  all_goals simp
@[simp] theorem Part.stuckExpires_liu (p : Part) :
    (Part.stuckExpires p).liu = p.liu := by
  unfold Part.stuckExpires; (try dsimp only); repeat' split
  all_goals simp
@[simp] theorem Part.stuckExpires_anu (p : Part) :
    (Part.stuckExpires p).anu = p.anu := by
  unfold Part.stuckExpires; (try dsimp only); repeat' split
  all_goals simp
@[simp] theorem Part.stuckExpires_lpc (p : Part) :
    (Part.stuckExpires p).lpc = p.lpc := by
  unfold Part.stuckExpires; (try dsimp only); repeat' split
  all_goals simp
@[simp] theorem Part.stuckExpires_pins (p : Part) :
    (Part.stuckExpires p).pins = p.pins := by
  unfold Part.stuckExpires; (try dsimp only); repeat' split
  all_goals simp
@[simp] theorem Part.stuckExpires_choices (p : Part) :
    (Part.stuckExpires p).choices = p.choices := by
  unfold Part.stuckExpires; (try dsimp only); repeat' split
  all_goals simp
@[simp] theorem Part.startAttempt_rsq (p : Part) :
    (Part.startAttempt p).rsq = p.rsq := by
  unfold Part.startAttempt; (try dsimp only); repeat' split
  all_goals simp
@[simp] theorem Part.startAttempt_pcu (p : Part) :
    (Part.startAttempt p).pcu = p.pcu := by
  unfold Part.startAttempt; (try dsimp only); repeat' split
  all_goals simp
@[simp] theorem Part.startAttempt_pvw (p : Part) :
    (Part.startAttempt p).pvw = p.pvw := by
  unfold Part.startAttempt; (try dsimp only); repeat' split
  all_goals simp
@[simp] theorem Part.startAttempt_liu (p : Part) :
    (Part.startAttempt p).liu = p.liu := by
  unfold Part.startAttempt; (try dsimp only); repeat' split
  all_goals simp
@[simp] theorem Part.startAttempt_anu (p : Part) :
    (Part.startAttempt p).anu = p.anu := by
  unfold Part.startAttempt; (try dsimp only); repeat' split
  all_goals simp
@[simp] theorem Part.startAttempt_lpc (p : Part) :
    (Part.startAttempt p).lpc = p.lpc := by
  unfold Part.startAttempt; (try dsimp only); repeat' split
  all_goals simp
@[simp] theorem Part.startAttempt_pins (p : Part) :
    (Part.startAttempt p).pins = p.pins := by
  unfold Part.startAttempt; (try dsimp only); repeat' split
  all_goals simp
@[simp] theorem Part.startAttempt_choices (p : Part) :
    (Part.startAttempt p).choices = p.choices := by
  unfold Part.startAttempt; (try dsimp only); repeat' split
  all_goals simp
@[simp] theorem Part.loseArbitration_rsq (p : Part) :
    (Part.loseArbitration p).rsq = p.rsq := by
  unfold Part.loseArbitration; (try dsimp only); repeat' split
  all_goals simp
@[simp] theorem Part.loseArbitration_pcu (p : Part) :
    (Part.loseArbitration p).pcu = p.pcu := by
  unfold Part.loseArbitration; (try dsimp only); repeat' split
  all_goals simp
@[simp] theorem Part.loseArbitration_pvw (p : Part) :
    (Part.loseArbitration p).pvw = p.pvw := by
  unfold Part.loseArbitration; (try dsimp only); repeat' split
  all_goals simp
@[simp] theorem Part.loseArbitration_liu (p : Part) :
    (Part.loseArbitration p).liu = p.liu := by
  unfold Part.loseArbitration; (try dsimp only); repeat' split
  all_goals simp
@[simp] theorem Part.loseArbitration_anu (p : Part) :
    (Part.loseArbitration p).anu = p.anu := by
  unfold Part.loseArbitration; (try dsimp only); repeat' split
  all_goals simp
@[simp] theorem Part.loseArbitration_lpc (p : Part) :
    (Part.loseArbitration p).lpc = p.lpc := by
  unfold Part.loseArbitration; (try dsimp only); repeat' split
  all_goals simp
@[simp] theorem Part.loseArbitration_choices (p : Part) :
    (Part.loseArbitration p).choices = p.choices := by
  unfold Part.loseArbitration; (try dsimp only); repeat' split
  all_goals simp
@[simp] theorem Part.failSymbol_rsq (p : Part) :
    (Part.failSymbol p).rsq = p.rsq := by
  unfold Part.failSymbol; (try dsimp only); repeat' split
  all_goals simp
@[simp] theorem Part.failSymbol_pcu (p : Part) :
    (Part.failSymbol p).pcu = p.pcu := by
  unfold Part.failSymbol; (try dsimp only); repeat' split
  all_goals simp
@[simp] theorem Part.failSymbol_adu (p : Part) :
    (Part.failSymbol p).adu = p.adu := by
  unfold Part.failSymbol; (try dsimp only); repeat' split
  all_goals simp
@[simp] theorem Part.failSymbol_pvw (p : Part) :
    (Part.failSymbol p).pvw = p.pvw := by
  unfold Part.failSymbol; (try dsimp only); repeat' split
  all_goals simp
@[simp] theorem Part.failSymbol_liu (p : Part) :
    (Part.failSymbol p).liu = p.liu := by
  unfold Part.failSymbol; (try dsimp only); repeat' split
  all_goals simp
@[simp] theorem Part.failSymbol_anu (p : Part) :
    (Part.failSymbol p).anu = p.anu := by
  unfold Part.failSymbol; (try dsimp only); repeat' split
  all_goals simp
@[simp] theorem Part.failSymbol_lpc (p : Part) :
    (Part.failSymbol p).lpc = p.lpc := by
  unfold Part.failSymbol; (try dsimp only); repeat' split
  all_goals simp
@[simp] theorem Part.failSymbol_choices (p : Part) :
    (Part.failSymbol p).choices = p.choices := by
  unfold Part.failSymbol; (try dsimp only); repeat' split
  all_goals simp
@[simp] theorem Part.echoRunReached_rsq (p : Part) :
    (Part.echoRunReached p).rsq = p.rsq := by
  unfold Part.echoRunReached; (try dsimp only); repeat' split
  all_goals simp
@[simp] theorem Part.echoRunReached_pcu (p : Part) :
    (Part.echoRunReached p).pcu = p.pcu := by
  unfold Part.echoRunReached; (try dsimp only); repeat' split
  all_goals simp
@[simp] theorem Part.echoRunReached_pvw (p : Part) :
    (Part.echoRunReached p).pvw = p.pvw := by
  unfold Part.echoRunReached; (try dsimp only); repeat' split
  all_goals simp
@[simp] theorem Part.echoRunReached_fre (p : Part) :
    (Part.echoRunReached p).fre = p.fre := by
  unfold Part.echoRunReached; (try dsimp only); repeat' split
  all_goals simp
@[simp] theorem Part.echoRunReached_liu (p : Part) :
    (Part.echoRunReached p).liu = p.liu := by
  unfold Part.echoRunReached; (try dsimp only); repeat' split
  all_goals simp
@[simp] theorem Part.echoRunReached_anu (p : Part) :
    (Part.echoRunReached p).anu = p.anu := by
  unfold Part.echoRunReached; (try dsimp only); repeat' split
  all_goals simp
@[simp] theorem Part.echoRunReached_lpc (p : Part) :
    (Part.echoRunReached p).lpc = p.lpc := by
  unfold Part.echoRunReached; (try dsimp only); repeat' split
  all_goals simp
@[simp] theorem Part.echoRunReached_pins (p : Part) :
    (Part.echoRunReached p).pins = p.pins := by
  unfold Part.echoRunReached; (try dsimp only); repeat' split
  all_goals simp
@[simp] theorem Part.echoRunReached_choices (p : Part) :
    (Part.echoRunReached p).choices = p.choices := by
  unfold Part.echoRunReached; (try dsimp only); repeat' split
  all_goals simp
@[simp] theorem Part.failEcho_rsq (p : Part) :
    (Part.failEcho p).rsq = p.rsq := by
  unfold Part.failEcho; (try dsimp only); repeat' split
  all_goals simp
@[simp] theorem Part.failEcho_pcu (p : Part) :
    (Part.failEcho p).pcu = p.pcu := by
  unfold Part.failEcho; (try dsimp only); repeat' split
  all_goals simp
@[simp] theorem Part.failEcho_pvw (p : Part) :
    (Part.failEcho p).pvw = p.pvw := by
  unfold Part.failEcho; (try dsimp only); repeat' split
  all_goals simp
@[simp] theorem Part.failEcho_liu (p : Part) :
    (Part.failEcho p).liu = p.liu := by
  unfold Part.failEcho; (try dsimp only); repeat' split
  all_goals simp
@[simp] theorem Part.failEcho_anu (p : Part) :
    (Part.failEcho p).anu = p.anu := by
  unfold Part.failEcho; (try dsimp only); repeat' split
  all_goals simp
@[simp] theorem Part.failEcho_lpc (p : Part) :
    (Part.failEcho p).lpc = p.lpc := by
  unfold Part.failEcho; (try dsimp only); repeat' split
  all_goals simp
@[simp] theorem Part.failEcho_pins (p : Part) :
    (Part.failEcho p).pins = p.pins := by
  unfold Part.failEcho; (try dsimp only); repeat' split
  all_goals simp
@[simp] theorem Part.failEcho_choices (p : Part) :
    (Part.failEcho p).choices = p.choices := by
  unfold Part.failEcho; (try dsimp only); repeat' split
  all_goals simp
@[simp] theorem Part.startResponse_rsq (p : Part) :
    (Part.startResponse p).rsq = p.rsq := by
  unfold Part.startResponse; (try dsimp only); repeat' split
  all_goals simp
@[simp] theorem Part.startResponse_pcu (p : Part) :
    (Part.startResponse p).pcu = p.pcu := by
  unfold Part.startResponse; (try dsimp only); repeat' split
  all_goals simp
@[simp] theorem Part.startResponse_adu (p : Part) :
    (Part.startResponse p).adu = p.adu := by
  unfold Part.startResponse; (try dsimp only); repeat' split
  all_goals simp
@[simp] theorem Part.startResponse_pvw (p : Part) :
    (Part.startResponse p).pvw = p.pvw := by
  unfold Part.startResponse; (try dsimp only); repeat' split
  all_goals simp
@[simp] theorem Part.startResponse_fre (p : Part) :
    (Part.startResponse p).fre = p.fre := by
  unfold Part.startResponse; (try dsimp only); repeat' split
  all_goals simp
@[simp] theorem Part.startResponse_liu (p : Part) :
    (Part.startResponse p).liu = p.liu := by
  unfold Part.startResponse; (try dsimp only); repeat' split
  all_goals simp
@[simp] theorem Part.startResponse_anu (p : Part) :
    (Part.startResponse p).anu = p.anu := by
  unfold Part.startResponse; (try dsimp only); repeat' split
  all_goals simp
@[simp] theorem Part.startResponse_lpc (p : Part) :
    (Part.startResponse p).lpc = p.lpc := by
  unfold Part.startResponse; (try dsimp only); repeat' split
  all_goals simp
@[simp] theorem Part.startResponse_pins (p : Part) :
    (Part.startResponse p).pins = p.pins := by
  unfold Part.startResponse; (try dsimp only); repeat' split
  all_goals simp
@[simp] theorem Part.startResponse_choices (p : Part) :
    (Part.startResponse p).choices = p.choices := by
  unfold Part.startResponse; (try dsimp only); repeat' split
  all_goals simp
@[simp] theorem Part.retryDue_rsq (p : Part) :
    (Part.retryDue p).rsq = p.rsq := by
  unfold Part.retryDue; (try dsimp only); repeat' split
  all_goals simp
@[simp] theorem Part.retryDue_pcu (p : Part) :
    (Part.retryDue p).pcu = p.pcu := by
  unfold Part.retryDue; (try dsimp only); repeat' split
  all_goals simp
@[simp] theorem Part.retryDue_adu (p : Part) :
    (Part.retryDue p).adu = p.adu := by
  unfold Part.retryDue; (try dsimp only); repeat' split
  all_goals simp
@[simp] theorem Part.retryDue_pvw (p : Part) :
    (Part.retryDue p).pvw = p.pvw := by
  unfold Part.retryDue; (try dsimp only); repeat' split
  all_goals simp
@[simp] theorem Part.retryDue_fre (p : Part) :
    (Part.retryDue p).fre = p.fre := by
  unfold Part.retryDue; (try dsimp only); repeat' split
  all_goals simp
@[simp] theorem Part.retryDue_liu (p : Part) :
    (Part.retryDue p).liu = p.liu := by
  unfold Part.retryDue; (try dsimp only); repeat' split
  all_goals simp
@[simp] theorem Part.retryDue_anu (p : Part) :
    (Part.retryDue p).anu = p.anu := by
  unfold Part.retryDue; (try dsimp only); repeat' split
  all_goals simp
@[simp] theorem Part.retryDue_lpc (p : Part) :
    (Part.retryDue p).lpc = p.lpc := by
  unfold Part.retryDue; (try dsimp only); repeat' split
  all_goals simp
@[simp] theorem Part.retryDue_pins (p : Part) :
    (Part.retryDue p).pins = p.pins := by
  unfold Part.retryDue; (try dsimp only); repeat' split
  all_goals simp
@[simp] theorem Part.retryDue_choices (p : Part) :
    (Part.retryDue p).choices = p.choices := by
  unfold Part.retryDue; (try dsimp only); repeat' split
  all_goals simp
@[simp] theorem Part.startRetry_rsq (p : Part) :
    (Part.startRetry p).rsq = p.rsq := by
  unfold Part.startRetry; (try dsimp only); repeat' split
  all_goals simp
@[simp] theorem Part.startRetry_pcu (p : Part) :
    (Part.startRetry p).pcu = p.pcu := by
  unfold Part.startRetry; (try dsimp only); repeat' split
  all_goals simp
@[simp] theorem Part.startRetry_adu (p : Part) :
    (Part.startRetry p).adu = p.adu := by
  unfold Part.startRetry; (try dsimp only); repeat' split
  all_goals simp
@[simp] theorem Part.startRetry_pvw (p : Part) :
    (Part.startRetry p).pvw = p.pvw := by
  unfold Part.startRetry; (try dsimp only); repeat' split
  all_goals simp
@[simp] theorem Part.startRetry_liu (p : Part) :
    (Part.startRetry p).liu = p.liu := by
  unfold Part.startRetry; (try dsimp only); repeat' split
  all_goals simp
@[simp] theorem Part.startRetry_anu (p : Part) :
    (Part.startRetry p).anu = p.anu := by
  unfold Part.startRetry; (try dsimp only); repeat' split
  all_goals simp
@[simp] theorem Part.startRetry_lpc (p : Part) :
    (Part.startRetry p).lpc = p.lpc := by
  unfold Part.startRetry; (try dsimp only); repeat' split
  all_goals simp
@[simp] theorem Part.startRetry_pins (p : Part) :
    (Part.startRetry p).pins = p.pins := by
  unfold Part.startRetry; (try dsimp only); repeat' split
  all_goals simp
@[simp] theorem Part.startRetry_choices (p : Part) :
    (Part.startRetry p).choices = p.choices := by
  unfold Part.startRetry; (try dsimp only); repeat' split
  all_goals simp
@[simp] theorem Part.retryClean_liu (p : Part) :
    (Part.retryClean p).liu = p.liu := by
  unfold Part.retryClean; (try dsimp only); repeat' split
  all_goals simp
@[simp] theorem Part.retryClean_lpc (p : Part) :
    (Part.retryClean p).lpc = p.lpc := by
  unfold Part.retryClean; (try dsimp only); repeat' split
  all_goals simp
@[simp] theorem Part.retryClean_pins (p : Part) :
    (Part.retryClean p).pins = p.pins := by
  unfold Part.retryClean; (try dsimp only); repeat' split
  all_goals simp
@[simp] theorem Part.retryClean_choices (p : Part) :
    (Part.retryClean p).choices = p.choices := by
  unfold Part.retryClean; (try dsimp only); repeat' split
  all_goals simp
@[simp] theorem Part.ownFrameClean_liu (f : Frame) (p : Part) :
    (Part.ownFrameClean f p).liu = p.liu := by
  unfold Part.ownFrameClean; (try dsimp only); repeat' split
  all_goals simp
@[simp] theorem Part.ownFrameClean_lpc (f : Frame) (p : Part) :
    (Part.ownFrameClean f p).lpc = p.lpc := by
  unfold Part.ownFrameClean; (try dsimp only); repeat' split
  all_goals simp
@[simp] theorem Part.ownFrameClean_pins (f : Frame) (p : Part) :
    (Part.ownFrameClean f p).pins = p.pins := by
  unfold Part.ownFrameClean; (try dsimp only); repeat' split
  all_goals simp
@[simp] theorem Part.ownFrameClean_choices (f : Frame) (p : Part) :
    (Part.ownFrameClean f p).choices = p.choices := by
  unfold Part.ownFrameClean; (try dsimp only); repeat' split
  all_goals simp
@[simp] theorem Part.peerFrameHeard_lif (f : Frame) (p : Part) :
    (Part.peerFrameHeard f p).lif = p.lif := by
  unfold Part.peerFrameHeard; (try dsimp only); repeat' split
  all_goals first | (simp; done) | (refine takeUnordered_proj (·.lif) ?_ ?_ _ p <;> intros <;> (repeat' split) <;> simp)
@[simp] theorem Part.peerFrameHeard_liu (f : Frame) (p : Part) :
    (Part.peerFrameHeard f p).liu = p.liu := by
  unfold Part.peerFrameHeard; (try dsimp only); repeat' split
  all_goals first | (simp; done) | (refine takeUnordered_proj (·.liu) ?_ ?_ _ p <;> intros <;> (repeat' split) <;> simp)
@[simp] theorem Part.peerFrameHeard_lpc (f : Frame) (p : Part) :
    (Part.peerFrameHeard f p).lpc = p.lpc := by
  unfold Part.peerFrameHeard; (try dsimp only); repeat' split
  all_goals first | (simp; done) | (refine takeUnordered_proj (·.lpc) ?_ ?_ _ p <;> intros <;> (repeat' split) <;> simp)
@[simp] theorem Part.peerFrameHeard_pins (f : Frame) (p : Part) :
    (Part.peerFrameHeard f p).pins = p.pins := by
  unfold Part.peerFrameHeard; (try dsimp only); repeat' split
  all_goals first | (simp; done) | (refine takeUnordered_proj (·.pins) ?_ ?_ _ p <;> intros <;> (repeat' split) <;> simp)
@[simp] theorem Part.windowEndsClean_liu (p : Part) :
    (Part.windowEndsClean p).liu = p.liu := by
  unfold Part.windowEndsClean; (try dsimp only); repeat' split
  all_goals simp
@[simp] theorem Part.windowEndsClean_lpc (p : Part) :
    (Part.windowEndsClean p).lpc = p.lpc := by
  unfold Part.windowEndsClean; (try dsimp only); repeat' split
  all_goals simp
@[simp] theorem Part.windowEndsClean_pins (p : Part) :
    (Part.windowEndsClean p).pins = p.pins := by
  unfold Part.windowEndsClean; (try dsimp only); repeat' split
  all_goals simp
@[simp] theorem Part.handOn_liu (p : Part) :
    (Part.handOn p).liu = p.liu := by
  unfold Part.handOn; (try dsimp only); repeat' split
  all_goals simp
@[simp] theorem Part.handOn_lpc (p : Part) :
    (Part.handOn p).lpc = p.lpc := by
  unfold Part.handOn; (try dsimp only); repeat' split
  all_goals simp
@[simp] theorem Part.handOn_pins (p : Part) :
    (Part.handOn p).pins = p.pins := by
  unfold Part.handOn; (try dsimp only); repeat' split
  all_goals simp
@[simp] theorem Part.giveReport_lif (r : Option PendingReport) (p : Part) :
    (Part.giveReport r p).lif = p.lif := by
  unfold Part.giveReport; (try dsimp only); repeat' split
  all_goals simp
@[simp] theorem Part.giveReport_liu (r : Option PendingReport) (p : Part) :
    (Part.giveReport r p).liu = p.liu := by
  unfold Part.giveReport; (try dsimp only); repeat' split
  all_goals simp
@[simp] theorem Part.giveReport_lpc (r : Option PendingReport) (p : Part) :
    (Part.giveReport r p).lpc = p.lpc := by
  unfold Part.giveReport; (try dsimp only); repeat' split
  all_goals simp
@[simp] theorem Part.giveReport_pins (r : Option PendingReport) (p : Part) :
    (Part.giveReport r p).pins = p.pins := by
  unfold Part.giveReport; (try dsimp only); repeat' split
  all_goals simp
@[simp] theorem Part.giveReport_choices (r : Option PendingReport) (p : Part) :
    (Part.giveReport r p).choices = p.choices := by
  unfold Part.giveReport; (try dsimp only); repeat' split
  all_goals simp
@[simp] theorem Part.leaveStuck_lif (p : Part) :
    (Part.leaveStuck p).lif = p.lif := by
  unfold Part.leaveStuck; (try dsimp only); repeat' split
  all_goals simp
@[simp] theorem Part.leaveStuck_liu (p : Part) :
    (Part.leaveStuck p).liu = p.liu := by
  unfold Part.leaveStuck; (try dsimp only); repeat' split
  all_goals simp
@[simp] theorem Part.leaveStuck_lpc (p : Part) :
    (Part.leaveStuck p).lpc = p.lpc := by
  unfold Part.leaveStuck; (try dsimp only); repeat' split
  all_goals simp
@[simp] theorem Part.leaveStuck_pins (p : Part) :
    (Part.leaveStuck p).pins = p.pins := by
  unfold Part.leaveStuck; (try dsimp only); repeat' split
  all_goals simp
@[simp] theorem Part.leaveStuck_choices (p : Part) :
    (Part.leaveStuck p).choices = p.choices := by
  unfold Part.leaveStuck; (try dsimp only); repeat' split
  all_goals simp
@[simp] theorem Part.frameEndReached_liu (p : Part) :
    (Part.frameEndReached p).liu = p.liu := by
  unfold Part.frameEndReached; (try dsimp only); repeat' split
  all_goals simp
@[simp] theorem Part.frameEndReached_lpc (p : Part) :
    (Part.frameEndReached p).lpc = p.lpc := by
  unfold Part.frameEndReached; (try dsimp only); repeat' split
  all_goals simp
@[simp] theorem Part.startLoopback_rsq (p : Part) :
    (Part.startLoopback p).rsq = p.rsq := by
  unfold Part.startLoopback; (try dsimp only); repeat' split
  all_goals simp
@[simp] theorem Part.startLoopback_pcu (p : Part) :
    (Part.startLoopback p).pcu = p.pcu := by
  unfold Part.startLoopback; (try dsimp only); repeat' split
  all_goals simp
@[simp] theorem Part.startLoopback_adu (p : Part) :
    (Part.startLoopback p).adu = p.adu := by
  unfold Part.startLoopback; (try dsimp only); repeat' split
  all_goals simp
@[simp] theorem Part.startLoopback_pvw (p : Part) :
    (Part.startLoopback p).pvw = p.pvw := by
  unfold Part.startLoopback; (try dsimp only); repeat' split
  all_goals simp
@[simp] theorem Part.startLoopback_liu (p : Part) :
    (Part.startLoopback p).liu = p.liu := by
  unfold Part.startLoopback; (try dsimp only); repeat' split
  all_goals simp
@[simp] theorem Part.startLoopback_anu (p : Part) :
    (Part.startLoopback p).anu = p.anu := by
  unfold Part.startLoopback; (try dsimp only); repeat' split
  all_goals simp
@[simp] theorem Part.startLoopback_lpc (p : Part) :
    (Part.startLoopback p).lpc = p.lpc := by
  unfold Part.startLoopback; (try dsimp only); repeat' split
  all_goals simp
@[simp] theorem Part.startLoopback_pins (p : Part) :
    (Part.startLoopback p).pins = p.pins := by
  unfold Part.startLoopback; (try dsimp only); repeat' split
  all_goals simp
@[simp] theorem Part.startLoopback_choices (p : Part) :
    (Part.startLoopback p).choices = p.choices := by
  unfold Part.startLoopback; (try dsimp only); repeat' split
  all_goals simp
@[simp] theorem Part.endLoopback_rsq (e : LoopEnd) (p : Part) :
    (Part.endLoopback e p).rsq = p.rsq := by
  unfold Part.endLoopback; (try dsimp only); repeat' split
  all_goals simp
@[simp] theorem Part.endLoopback_pcu (e : LoopEnd) (p : Part) :
    (Part.endLoopback e p).pcu = p.pcu := by
  unfold Part.endLoopback; (try dsimp only); repeat' split
  all_goals simp
@[simp] theorem Part.endLoopback_adu (e : LoopEnd) (p : Part) :
    (Part.endLoopback e p).adu = p.adu := by
  unfold Part.endLoopback; (try dsimp only); repeat' split
  all_goals simp
@[simp] theorem Part.endLoopback_pvw (e : LoopEnd) (p : Part) :
    (Part.endLoopback e p).pvw = p.pvw := by
  unfold Part.endLoopback; (try dsimp only); repeat' split
  all_goals simp
@[simp] theorem Part.endLoopback_fre (e : LoopEnd) (p : Part) :
    (Part.endLoopback e p).fre = p.fre := by
  unfold Part.endLoopback; (try dsimp only); repeat' split
  all_goals simp
@[simp] theorem Part.endLoopback_liu (e : LoopEnd) (p : Part) :
    (Part.endLoopback e p).liu = p.liu := by
  unfold Part.endLoopback; (try dsimp only); repeat' split
  all_goals simp
@[simp] theorem Part.endLoopback_anu (e : LoopEnd) (p : Part) :
    (Part.endLoopback e p).anu = p.anu := by
  unfold Part.endLoopback; (try dsimp only); repeat' split
  all_goals simp
@[simp] theorem Part.endLoopback_lpc (e : LoopEnd) (p : Part) :
    (Part.endLoopback e p).lpc = p.lpc := by
  unfold Part.endLoopback; (try dsimp only); repeat' split
  all_goals simp
@[simp] theorem Part.endLoopback_pins (e : LoopEnd) (p : Part) :
    (Part.endLoopback e p).pins = p.pins := by
  unfold Part.endLoopback; (try dsimp only); repeat' split
  all_goals simp
@[simp] theorem Part.endLoopback_choices (e : LoopEnd) (p : Part) :
    (Part.endLoopback e p).choices = p.choices := by
  unfold Part.endLoopback; (try dsimp only); repeat' split
  all_goals simp

end Sys2Proof.Machine
end

