-- ==== Sys2Proof/Laws/FramesLift.lean ====
section
/-! SUPPORT. Frames of the operations of LIU: the blocks that each leaves as they were. -/

namespace Sys2Proof.Machine

/-- A projection that no report changes is unchanged by a run of reports. -/
theorem Part.takeReports_proj {β : Type} (g : Part → β) (hact : ∀ r p, g (LiuReport.act r p) = g p)
    (hchoose : ∀ p : Part, g p.choose.2 = g p) (reports : List LiuReport) (p : Part) :
    g (p.takeReports reports) = g p := by
  have fold : ∀ (l : List LiuReport) (p : Part), g (l.foldl (fun p r => r.act p) p) = g p := by
    intro l
    induction l with
    | nil => intro p; rfl
    | cons r l ih => intro p; exact (ih _).trans (hact r p)
  unfold Part.takeReports
  split
  · exact takeUnordered_proj g hact hchoose reports p
  · exact fold reports p

@[simp] theorem LiuReport.act_lif (r : LiuReport) (p : Part) :
    (LiuReport.act r p).lif = p.lif := by
  unfold LiuReport.act; (try dsimp only); repeat' split
  all_goals simp
@[simp] theorem LiuReport.act_liu (r : LiuReport) (p : Part) :
    (LiuReport.act r p).liu = p.liu := by
  unfold LiuReport.act; (try dsimp only); repeat' split
  all_goals simp
@[simp] theorem LiuReport.act_lpc (r : LiuReport) (p : Part) :
    (LiuReport.act r p).lpc = p.lpc := by
  unfold LiuReport.act; (try dsimp only); repeat' split
  all_goals simp
@[simp] theorem LiuReport.act_pins (r : LiuReport) (p : Part) :
    (LiuReport.act r p).pins = p.pins := by
  unfold LiuReport.act; (try dsimp only); repeat' split
  all_goals simp
@[simp] theorem LiuReport.act_choices (r : LiuReport) (p : Part) :
    (LiuReport.act r p).choices = p.choices := by
  unfold LiuReport.act; (try dsimp only); repeat' split
  all_goals simp
@[simp] theorem Part.takeReports_lif (reports : List LiuReport) (p : Part) :
    (Part.takeReports reports p).lif = p.lif :=
  Part.takeReports_proj (·.lif) (by intros; simp) (by intros; simp) reports p
@[simp] theorem Part.takeReports_liu (reports : List LiuReport) (p : Part) :
    (Part.takeReports reports p).liu = p.liu :=
  Part.takeReports_proj (·.liu) (by intros; simp) (by intros; simp) reports p
@[simp] theorem Part.takeReports_lpc (reports : List LiuReport) (p : Part) :
    (Part.takeReports reports p).lpc = p.lpc :=
  Part.takeReports_proj (·.lpc) (by intros; simp) (by intros; simp) reports p
@[simp] theorem Part.takeReports_pins (reports : List LiuReport) (p : Part) :
    (Part.takeReports reports p).pins = p.pins :=
  Part.takeReports_proj (·.pins) (by intros; simp) (by intros; simp) reports p
@[simp] theorem Part.evaluateConditions_lif (p : Part) :
    (Part.evaluateConditions p).lif = p.lif := by
  unfold Part.evaluateConditions; (try dsimp only); repeat' split
  all_goals simp
@[simp] theorem Part.evaluateConditions_lpc (p : Part) :
    (Part.evaluateConditions p).lpc = p.lpc := by
  unfold Part.evaluateConditions; (try dsimp only); repeat' split
  all_goals simp
@[simp] theorem Part.evaluateConditions_pins (p : Part) :
    (Part.evaluateConditions p).pins = p.pins := by
  unfold Part.evaluateConditions; (try dsimp only); repeat' split
  all_goals simp
@[simp] theorem Part.acceptTick_lif (kind : TickKind) (d : TickData) (controller : ControllerState) (p : Part) :
    (Part.acceptTick kind d controller p).lif = p.lif := by
  unfold Part.acceptTick; (try dsimp only); repeat' split
  all_goals simp
@[simp] theorem Part.acceptTick_lpc (kind : TickKind) (d : TickData) (controller : ControllerState) (p : Part) :
    (Part.acceptTick kind d controller p).lpc = p.lpc := by
  unfold Part.acceptTick; (try dsimp only); repeat' split
  all_goals simp
@[simp] theorem Part.acceptTick_pins (kind : TickKind) (d : TickData) (controller : ControllerState) (p : Part) :
    (Part.acceptTick kind d controller p).pins = p.pins := by
  unfold Part.acceptTick; (try dsimp only); repeat' split
  all_goals simp
@[simp] theorem Part.heartbeatExpires_lif (p : Part) :
    (Part.heartbeatExpires p).lif = p.lif := by
  unfold Part.heartbeatExpires; (try dsimp only); repeat' split
  all_goals simp
@[simp] theorem Part.heartbeatExpires_lpc (p : Part) :
    (Part.heartbeatExpires p).lpc = p.lpc := by
  unfold Part.heartbeatExpires; (try dsimp only); repeat' split
  all_goals simp
@[simp] theorem Part.heartbeatExpires_pins (p : Part) :
    (Part.heartbeatExpires p).pins = p.pins := by
  unfold Part.heartbeatExpires; (try dsimp only); repeat' split
  all_goals simp
@[simp] theorem Part.commitSupervision_rsq (p : Part) :
    (Part.commitSupervision p).rsq = p.rsq := by
  unfold Part.commitSupervision; (try dsimp only); repeat' split
  all_goals simp
@[simp] theorem Part.commitSupervision_pcu (p : Part) :
    (Part.commitSupervision p).pcu = p.pcu := by
  unfold Part.commitSupervision; (try dsimp only); repeat' split
  all_goals simp
@[simp] theorem Part.commitSupervision_adu (p : Part) :
    (Part.commitSupervision p).adu = p.adu := by
  unfold Part.commitSupervision; (try dsimp only); repeat' split
  all_goals simp
@[simp] theorem Part.commitSupervision_pvw (p : Part) :
    (Part.commitSupervision p).pvw = p.pvw := by
  unfold Part.commitSupervision; (try dsimp only); repeat' split
  all_goals simp
@[simp] theorem Part.commitSupervision_fre (p : Part) :
    (Part.commitSupervision p).fre = p.fre := by
  unfold Part.commitSupervision; (try dsimp only); repeat' split
  all_goals simp
@[simp] theorem Part.commitSupervision_lif (p : Part) :
    (Part.commitSupervision p).lif = p.lif := by
  unfold Part.commitSupervision; (try dsimp only); repeat' split
  all_goals simp
@[simp] theorem Part.commitSupervision_anu (p : Part) :
    (Part.commitSupervision p).anu = p.anu := by
  unfold Part.commitSupervision; (try dsimp only); repeat' split
  all_goals simp
@[simp] theorem Part.commitSupervision_lpc (p : Part) :
    (Part.commitSupervision p).lpc = p.lpc := by
  unfold Part.commitSupervision; (try dsimp only); repeat' split
  all_goals simp
@[simp] theorem Part.commitSupervision_pins (p : Part) :
    (Part.commitSupervision p).pins = p.pins := by
  unfold Part.commitSupervision; (try dsimp only); repeat' split
  all_goals simp
@[simp] theorem Part.commitSupervision_choices (p : Part) :
    (Part.commitSupervision p).choices = p.choices := by
  unfold Part.commitSupervision; (try dsimp only); repeat' split
  all_goals simp
@[simp] theorem Part.encoderMoves_lif (d : Dir) (p : Part) :
    (Part.encoderMoves d p).lif = p.lif := by
  unfold Part.encoderMoves; (try dsimp only); repeat' split
  all_goals simp
@[simp] theorem Part.encoderMoves_lpc (d : Dir) (p : Part) :
    (Part.encoderMoves d p).lpc = p.lpc := by
  unfold Part.encoderMoves; (try dsimp only); repeat' split
  all_goals simp
@[simp] theorem Part.encoderMoves_pins (d : Dir) (p : Part) :
    (Part.encoderMoves d p).pins = p.pins := by
  unfold Part.encoderMoves; (try dsimp only); repeat' split
  all_goals simp
@[simp] theorem Part.encoderSkips_lif (p : Part) :
    (Part.encoderSkips p).lif = p.lif := by
  unfold Part.encoderSkips; (try dsimp only); repeat' split
  all_goals simp
@[simp] theorem Part.encoderSkips_lpc (p : Part) :
    (Part.encoderSkips p).lpc = p.lpc := by
  unfold Part.encoderSkips; (try dsimp only); repeat' split
  all_goals simp
@[simp] theorem Part.encoderSkips_pins (p : Part) :
    (Part.encoderSkips p).pins = p.pins := by
  unfold Part.encoderSkips; (try dsimp only); repeat' split
  all_goals simp
@[simp] theorem Part.encoderSkips_choices (p : Part) :
    (Part.encoderSkips p).choices = p.choices := by
  unfold Part.encoderSkips; (try dsimp only); repeat' split
  all_goals simp
@[simp] theorem Part.sampleEncoder_lif (p : Part) :
    (Part.sampleEncoder p).lif = p.lif := by
  unfold Part.sampleEncoder; (try dsimp only); repeat' split
  all_goals simp
@[simp] theorem Part.sampleEncoder_lpc (p : Part) :
    (Part.sampleEncoder p).lpc = p.lpc := by
  unfold Part.sampleEncoder; (try dsimp only); repeat' split
  all_goals simp
@[simp] theorem Part.sampleEncoder_pins (p : Part) :
    (Part.sampleEncoder p).pins = p.pins := by
  unfold Part.sampleEncoder; (try dsimp only); repeat' split
  all_goals simp
@[simp] theorem Part.sampleInput_rsq (i : Input) (level : Bool) (p : Part) :
    (Part.sampleInput i level p).rsq = p.rsq := by
  unfold Part.sampleInput; (try dsimp only); repeat' split
  all_goals simp
@[simp] theorem Part.sampleInput_pcu (i : Input) (level : Bool) (p : Part) :
    (Part.sampleInput i level p).pcu = p.pcu := by
  unfold Part.sampleInput; (try dsimp only); repeat' split
  all_goals simp
@[simp] theorem Part.sampleInput_adu (i : Input) (level : Bool) (p : Part) :
    (Part.sampleInput i level p).adu = p.adu := by
  unfold Part.sampleInput; (try dsimp only); repeat' split
  all_goals simp
@[simp] theorem Part.sampleInput_pvw (i : Input) (level : Bool) (p : Part) :
    (Part.sampleInput i level p).pvw = p.pvw := by
  unfold Part.sampleInput; (try dsimp only); repeat' split
  all_goals simp
@[simp] theorem Part.sampleInput_fre (i : Input) (level : Bool) (p : Part) :
    (Part.sampleInput i level p).fre = p.fre := by
  unfold Part.sampleInput; (try dsimp only); repeat' split
  all_goals simp
@[simp] theorem Part.sampleInput_lif (i : Input) (level : Bool) (p : Part) :
    (Part.sampleInput i level p).lif = p.lif := by
  unfold Part.sampleInput; (try dsimp only); repeat' split
  all_goals simp
@[simp] theorem Part.sampleInput_anu (i : Input) (level : Bool) (p : Part) :
    (Part.sampleInput i level p).anu = p.anu := by
  unfold Part.sampleInput; (try dsimp only); repeat' split
  all_goals simp
@[simp] theorem Part.sampleInput_lpc (i : Input) (level : Bool) (p : Part) :
    (Part.sampleInput i level p).lpc = p.lpc := by
  unfold Part.sampleInput; (try dsimp only); repeat' split
  all_goals simp
@[simp] theorem Part.sampleInput_pins (i : Input) (level : Bool) (p : Part) :
    (Part.sampleInput i level p).pins = p.pins := by
  unfold Part.sampleInput; (try dsimp only); repeat' split
  all_goals simp
@[simp] theorem Part.sampleInput_choices (i : Input) (level : Bool) (p : Part) :
    (Part.sampleInput i level p).choices = p.choices := by
  unfold Part.sampleInput; (try dsimp only); repeat' split
  all_goals simp
/-- A change of the mains: the conditions re-evaluated, and in BLOCKED the mark of R31 perhaps set. -/
theorem Part.mainsChanges_cases (p : Part) :
    p.mainsChanges = p.evaluateConditions
      ∨ p.mainsChanges = p.evaluateConditions.mapRsq fun r => { r with cancelCame := true } := by
  unfold Part.mainsChanges; dsimp only; split
  · exact .inr rfl
  · exact .inl rfl
@[simp] theorem Part.mainsChanges_lif (p : Part) :
    (Part.mainsChanges p).lif = p.lif := by
  obtain h | h := p.mainsChanges_cases <;> simp [h]
@[simp] theorem Part.mainsChanges_lpc (p : Part) :
    (Part.mainsChanges p).lpc = p.lpc := by
  obtain h | h := p.mainsChanges_cases <;> simp [h]
@[simp] theorem Part.mainsChanges_pins (p : Part) :
    (Part.mainsChanges p).pins = p.pins := by
  obtain h | h := p.mainsChanges_cases <;> simp [h]
@[simp] theorem Part.debounceExpires_lif (i : Input) (p : Part) :
    (Part.debounceExpires i p).lif = p.lif := by
  unfold Part.debounceExpires; (try dsimp only); repeat' split
  all_goals simp
@[simp] theorem Part.debounceExpires_lpc (i : Input) (p : Part) :
    (Part.debounceExpires i p).lpc = p.lpc := by
  unfold Part.debounceExpires; (try dsimp only); repeat' split
  all_goals simp
@[simp] theorem Part.debounceExpires_pins (i : Input) (p : Part) :
    (Part.debounceExpires i p).pins = p.pins := by
  unfold Part.debounceExpires; (try dsimp only); repeat' split
  all_goals simp

end Sys2Proof.Machine
end

