-- ==== Sys2Proof/Laws/FramesPort.lean ====
section
/-! SUPPORT. Frames of the operations of LPC and of the timers: the blocks that each leaves as they were. -/

namespace Sys2Proof.Machine

@[simp] theorem Part.clock_rsq (bytes : List Byte) (bits : Nat) (p : Part) :
    (Part.clock bytes bits p).rsq = p.rsq := by
  unfold Part.clock; (try dsimp only); repeat' split
  all_goals simp
@[simp] theorem Part.clock_pcu (bytes : List Byte) (bits : Nat) (p : Part) :
    (Part.clock bytes bits p).pcu = p.pcu := by
  unfold Part.clock; (try dsimp only); repeat' split
  all_goals simp
@[simp] theorem Part.clock_adu (bytes : List Byte) (bits : Nat) (p : Part) :
    (Part.clock bytes bits p).adu = p.adu := by
  unfold Part.clock; (try dsimp only); repeat' split
  all_goals simp
@[simp] theorem Part.clock_pvw (bytes : List Byte) (bits : Nat) (p : Part) :
    (Part.clock bytes bits p).pvw = p.pvw := by
  unfold Part.clock; (try dsimp only); repeat' split
  all_goals simp
@[simp] theorem Part.clock_fre (bytes : List Byte) (bits : Nat) (p : Part) :
    (Part.clock bytes bits p).fre = p.fre := by
  unfold Part.clock; (try dsimp only); repeat' split
  all_goals simp
@[simp] theorem Part.clock_lif (bytes : List Byte) (bits : Nat) (p : Part) :
    (Part.clock bytes bits p).lif = p.lif := by
  unfold Part.clock; (try dsimp only); repeat' split
  all_goals simp
@[simp] theorem Part.clock_liu (bytes : List Byte) (bits : Nat) (p : Part) :
    (Part.clock bytes bits p).liu = p.liu := by
  unfold Part.clock; (try dsimp only); repeat' split
  all_goals simp
@[simp] theorem Part.clock_anu (bytes : List Byte) (bits : Nat) (p : Part) :
    (Part.clock bytes bits p).anu = p.anu := by
  unfold Part.clock; (try dsimp only); repeat' split
  all_goals simp
@[simp] theorem Part.clock_pins (bytes : List Byte) (bits : Nat) (p : Part) :
    (Part.clock bytes bits p).pins = p.pins := by
  unfold Part.clock; (try dsimp only); repeat' split
  all_goals simp
@[simp] theorem Part.clock_choices (bytes : List Byte) (bits : Nat) (p : Part) :
    (Part.clock bytes bits p).choices = p.choices := by
  unfold Part.clock; (try dsimp only); repeat' split
  all_goals simp
@[simp] theorem Part.release_rsq (p : Part) :
    (Part.release p).rsq = p.rsq := by
  unfold Part.release; (try dsimp only); repeat' split
  all_goals simp
@[simp] theorem Part.release_pcu (p : Part) :
    (Part.release p).pcu = p.pcu := by
  unfold Part.release; (try dsimp only); repeat' split
  all_goals simp
@[simp] theorem Part.release_adu (p : Part) :
    (Part.release p).adu = p.adu := by
  unfold Part.release; (try dsimp only); repeat' split
  all_goals simp
@[simp] theorem Part.release_pvw (p : Part) :
    (Part.release p).pvw = p.pvw := by
  unfold Part.release; (try dsimp only); repeat' split
  all_goals simp
@[simp] theorem Part.release_fre (p : Part) :
    (Part.release p).fre = p.fre := by
  unfold Part.release; (try dsimp only); repeat' split
  all_goals simp
@[simp] theorem Part.release_lif (p : Part) :
    (Part.release p).lif = p.lif := by
  unfold Part.release; (try dsimp only); repeat' split
  all_goals simp
@[simp] theorem Part.release_liu (p : Part) :
    (Part.release p).liu = p.liu := by
  unfold Part.release; (try dsimp only); repeat' split
  all_goals simp
@[simp] theorem Part.release_anu (p : Part) :
    (Part.release p).anu = p.anu := by
  unfold Part.release; (try dsimp only); repeat' split
  all_goals simp
@[simp] theorem Part.release_pins (p : Part) :
    (Part.release p).pins = p.pins := by
  unfold Part.release; (try dsimp only); repeat' split
  all_goals simp
@[simp] theorem Part.release_choices (p : Part) :
    (Part.release p).choices = p.choices := by
  unfold Part.release; (try dsimp only); repeat' split
  all_goals simp
@[simp] theorem Part.setResult_rsq (r : CommandResult) (p : Part) :
    (Part.setResult r p).rsq = p.rsq := by
  unfold Part.setResult; (try dsimp only); repeat' split
  all_goals simp
@[simp] theorem Part.setResult_pcu (r : CommandResult) (p : Part) :
    (Part.setResult r p).pcu = p.pcu := by
  unfold Part.setResult; (try dsimp only); repeat' split
  all_goals simp
@[simp] theorem Part.setResult_adu (r : CommandResult) (p : Part) :
    (Part.setResult r p).adu = p.adu := by
  unfold Part.setResult; (try dsimp only); repeat' split
  all_goals simp
@[simp] theorem Part.setResult_pvw (r : CommandResult) (p : Part) :
    (Part.setResult r p).pvw = p.pvw := by
  unfold Part.setResult; (try dsimp only); repeat' split
  all_goals simp
@[simp] theorem Part.setResult_fre (r : CommandResult) (p : Part) :
    (Part.setResult r p).fre = p.fre := by
  unfold Part.setResult; (try dsimp only); repeat' split
  all_goals simp
@[simp] theorem Part.setResult_lif (r : CommandResult) (p : Part) :
    (Part.setResult r p).lif = p.lif := by
  unfold Part.setResult; (try dsimp only); repeat' split
  all_goals simp
@[simp] theorem Part.setResult_liu (r : CommandResult) (p : Part) :
    (Part.setResult r p).liu = p.liu := by
  unfold Part.setResult; (try dsimp only); repeat' split
  all_goals simp
@[simp] theorem Part.setResult_anu (r : CommandResult) (p : Part) :
    (Part.setResult r p).anu = p.anu := by
  unfold Part.setResult; (try dsimp only); repeat' split
  all_goals simp
@[simp] theorem Part.setResult_pins (r : CommandResult) (p : Part) :
    (Part.setResult r p).pins = p.pins := by
  unfold Part.setResult; (try dsimp only); repeat' split
  all_goals simp
@[simp] theorem Part.setResult_choices (r : CommandResult) (p : Part) :
    (Part.setResult r p).choices = p.choices := by
  unfold Part.setResult; (try dsimp only); repeat' split
  all_goals simp
@[simp] theorem Part.refuseTransaction_rsq (r : CommandResult) (p : Part) :
    (Part.refuseTransaction r p).rsq = p.rsq := by
  unfold Part.refuseTransaction; (try dsimp only); repeat' split
  all_goals simp
@[simp] theorem Part.refuseTransaction_pcu (r : CommandResult) (p : Part) :
    (Part.refuseTransaction r p).pcu = p.pcu := by
  unfold Part.refuseTransaction; (try dsimp only); repeat' split
  all_goals simp
@[simp] theorem Part.refuseTransaction_adu (r : CommandResult) (p : Part) :
    (Part.refuseTransaction r p).adu = p.adu := by
  unfold Part.refuseTransaction; (try dsimp only); repeat' split
  all_goals simp
@[simp] theorem Part.refuseTransaction_pvw (r : CommandResult) (p : Part) :
    (Part.refuseTransaction r p).pvw = p.pvw := by
  unfold Part.refuseTransaction; (try dsimp only); repeat' split
  all_goals simp
@[simp] theorem Part.refuseTransaction_fre (r : CommandResult) (p : Part) :
    (Part.refuseTransaction r p).fre = p.fre := by
  unfold Part.refuseTransaction; (try dsimp only); repeat' split
  all_goals simp
@[simp] theorem Part.refuseTransaction_lif (r : CommandResult) (p : Part) :
    (Part.refuseTransaction r p).lif = p.lif := by
  unfold Part.refuseTransaction; (try dsimp only); repeat' split
  all_goals simp
@[simp] theorem Part.refuseTransaction_liu (r : CommandResult) (p : Part) :
    (Part.refuseTransaction r p).liu = p.liu := by
  unfold Part.refuseTransaction; (try dsimp only); repeat' split
  all_goals simp
@[simp] theorem Part.refuseTransaction_anu (r : CommandResult) (p : Part) :
    (Part.refuseTransaction r p).anu = p.anu := by
  unfold Part.refuseTransaction; (try dsimp only); repeat' split
  all_goals simp
@[simp] theorem Part.refuseTransaction_pins (r : CommandResult) (p : Part) :
    (Part.refuseTransaction r p).pins = p.pins := by
  unfold Part.refuseTransaction; (try dsimp only); repeat' split
  all_goals simp
@[simp] theorem Part.refuseTransaction_choices (r : CommandResult) (p : Part) :
    (Part.refuseTransaction r p).choices = p.choices := by
  unfold Part.refuseTransaction; (try dsimp only); repeat' split
  all_goals simp
@[simp] theorem Part.missTransaction_rsq (p : Part) :
    (Part.missTransaction p).rsq = p.rsq := by
  unfold Part.missTransaction; (try dsimp only); repeat' split
  all_goals simp
@[simp] theorem Part.missTransaction_pcu (p : Part) :
    (Part.missTransaction p).pcu = p.pcu := by
  unfold Part.missTransaction; (try dsimp only); repeat' split
  all_goals simp
@[simp] theorem Part.missTransaction_adu (p : Part) :
    (Part.missTransaction p).adu = p.adu := by
  unfold Part.missTransaction; (try dsimp only); repeat' split
  all_goals simp
@[simp] theorem Part.missTransaction_pvw (p : Part) :
    (Part.missTransaction p).pvw = p.pvw := by
  unfold Part.missTransaction; (try dsimp only); repeat' split
  all_goals simp
@[simp] theorem Part.missTransaction_fre (p : Part) :
    (Part.missTransaction p).fre = p.fre := by
  unfold Part.missTransaction; (try dsimp only); repeat' split
  all_goals simp
@[simp] theorem Part.missTransaction_lif (p : Part) :
    (Part.missTransaction p).lif = p.lif := by
  unfold Part.missTransaction; (try dsimp only); repeat' split
  all_goals simp
@[simp] theorem Part.missTransaction_liu (p : Part) :
    (Part.missTransaction p).liu = p.liu := by
  unfold Part.missTransaction; (try dsimp only); repeat' split
  all_goals simp
@[simp] theorem Part.missTransaction_anu (p : Part) :
    (Part.missTransaction p).anu = p.anu := by
  unfold Part.missTransaction; (try dsimp only); repeat' split
  all_goals simp
@[simp] theorem Part.missTransaction_choices (p : Part) :
    (Part.missTransaction p).choices = p.choices := by
  unfold Part.missTransaction; (try dsimp only); repeat' split
  all_goals simp
@[simp] theorem Part.takeLoad_rsq (staged : List Byte) (p : Part) :
    (Part.takeLoad staged p).rsq = p.rsq := by
  unfold Part.takeLoad; (try dsimp only); repeat' split
  all_goals simp
@[simp] theorem Part.takeLoad_pcu (staged : List Byte) (p : Part) :
    (Part.takeLoad staged p).pcu = p.pcu := by
  unfold Part.takeLoad; (try dsimp only); repeat' split
  all_goals simp
@[simp] theorem Part.takeLoad_adu (staged : List Byte) (p : Part) :
    (Part.takeLoad staged p).adu = p.adu := by
  unfold Part.takeLoad; (try dsimp only); repeat' split
  all_goals simp
@[simp] theorem Part.takeLoad_pvw (staged : List Byte) (p : Part) :
    (Part.takeLoad staged p).pvw = p.pvw := by
  unfold Part.takeLoad; (try dsimp only); repeat' split
  all_goals simp
@[simp] theorem Part.takeLoad_fre (staged : List Byte) (p : Part) :
    (Part.takeLoad staged p).fre = p.fre := by
  unfold Part.takeLoad; (try dsimp only); repeat' split
  all_goals simp
@[simp] theorem Part.takeLoad_lif (staged : List Byte) (p : Part) :
    (Part.takeLoad staged p).lif = p.lif := by
  unfold Part.takeLoad; (try dsimp only); repeat' split
  all_goals simp
@[simp] theorem Part.takeLoad_liu (staged : List Byte) (p : Part) :
    (Part.takeLoad staged p).liu = p.liu := by
  unfold Part.takeLoad; (try dsimp only); repeat' split
  all_goals simp
@[simp] theorem Part.takeLoad_anu (staged : List Byte) (p : Part) :
    (Part.takeLoad staged p).anu = p.anu := by
  unfold Part.takeLoad; (try dsimp only); repeat' split
  all_goals simp
@[simp] theorem Part.takeLoad_pins (staged : List Byte) (p : Part) :
    (Part.takeLoad staged p).pins = p.pins := by
  unfold Part.takeLoad; (try dsimp only); repeat' split
  all_goals simp
@[simp] theorem Part.takeLoad_choices (staged : List Byte) (p : Part) :
    (Part.takeLoad staged p).choices = p.choices := by
  unfold Part.takeLoad; (try dsimp only); repeat' split
  all_goals simp
@[simp] theorem Part.goIntoService_adu (p : Part) :
    (Part.goIntoService p).adu = p.adu := by
  unfold Part.goIntoService; (try dsimp only); repeat' split
  all_goals simp
@[simp] theorem Part.goIntoService_lif (p : Part) :
    (Part.goIntoService p).lif = p.lif := by
  unfold Part.goIntoService; (try dsimp only); repeat' split
  all_goals simp
@[simp] theorem Part.goIntoService_pins (p : Part) :
    (Part.goIntoService p).pins = p.pins := by
  unfold Part.goIntoService; (try dsimp only); repeat' split
  all_goals simp
@[simp] theorem Part.goIntoService_choices (p : Part) :
    (Part.goIntoService p).choices = p.choices := by
  unfold Part.goIntoService; (try dsimp only); repeat' split
  all_goals simp
@[simp] theorem Part.takeCommit_adu (p : Part) :
    (Part.takeCommit p).adu = p.adu := by
  unfold Part.takeCommit; (try dsimp only); repeat' split
  all_goals simp
@[simp] theorem Part.takeCommit_lif (p : Part) :
    (Part.takeCommit p).lif = p.lif := by
  unfold Part.takeCommit; (try dsimp only); repeat' split
  all_goals simp
@[simp] theorem Part.takeCommit_pins (p : Part) :
    (Part.takeCommit p).pins = p.pins := by
  unfold Part.takeCommit; (try dsimp only); repeat' split
  all_goals simp
@[simp] theorem Part.takeCommit_choices (p : Part) :
    (Part.takeCommit p).choices = p.choices := by
  unfold Part.takeCommit; (try dsimp only); repeat' split
  all_goals simp
@[simp] theorem Part.takeLoopback_rsq (p : Part) :
    (Part.takeLoopback p).rsq = p.rsq := by
  unfold Part.takeLoopback; (try dsimp only); repeat' split
  all_goals simp
@[simp] theorem Part.takeLoopback_pcu (p : Part) :
    (Part.takeLoopback p).pcu = p.pcu := by
  unfold Part.takeLoopback; (try dsimp only); repeat' split
  all_goals simp
@[simp] theorem Part.takeLoopback_adu (p : Part) :
    (Part.takeLoopback p).adu = p.adu := by
  unfold Part.takeLoopback; (try dsimp only); repeat' split
  all_goals simp
@[simp] theorem Part.takeLoopback_pvw (p : Part) :
    (Part.takeLoopback p).pvw = p.pvw := by
  unfold Part.takeLoopback; (try dsimp only); repeat' split
  all_goals simp
@[simp] theorem Part.takeLoopback_liu (p : Part) :
    (Part.takeLoopback p).liu = p.liu := by
  unfold Part.takeLoopback; (try dsimp only); repeat' split
  all_goals simp
@[simp] theorem Part.takeLoopback_anu (p : Part) :
    (Part.takeLoopback p).anu = p.anu := by
  unfold Part.takeLoopback; (try dsimp only); repeat' split
  all_goals simp
@[simp] theorem Part.takeLoopback_pins (p : Part) :
    (Part.takeLoopback p).pins = p.pins := by
  unfold Part.takeLoopback; (try dsimp only); repeat' split
  all_goals simp
@[simp] theorem Part.takeLoopback_choices (p : Part) :
    (Part.takeLoopback p).choices = p.choices := by
  unfold Part.takeLoopback; (try dsimp only); repeat' split
  all_goals simp
@[simp] theorem Part.takeResume_adu (p : Part) :
    (Part.takeResume p).adu = p.adu := by
  unfold Part.takeResume; (try dsimp only); repeat' split
  all_goals simp
@[simp] theorem Part.takeResume_pvw (p : Part) :
    (Part.takeResume p).pvw = p.pvw := by
  unfold Part.takeResume; (try dsimp only); repeat' split
  all_goals simp
@[simp] theorem Part.takeResume_lif (p : Part) :
    (Part.takeResume p).lif = p.lif := by
  unfold Part.takeResume; (try dsimp only); repeat' split
  all_goals simp
@[simp] theorem Part.takeResume_liu (p : Part) :
    (Part.takeResume p).liu = p.liu := by
  unfold Part.takeResume; (try dsimp only); repeat' split
  all_goals simp
@[simp] theorem Part.takeResume_pins (p : Part) :
    (Part.takeResume p).pins = p.pins := by
  unfold Part.takeResume; (try dsimp only); repeat' split
  all_goals simp
@[simp] theorem Part.verifyExpires_lif (p : Part) :
    (Part.verifyExpires p).lif = p.lif := by
  unfold Part.verifyExpires; (try dsimp only); repeat' split
  all_goals simp
@[simp] theorem Part.verifyExpires_liu (p : Part) :
    (Part.verifyExpires p).liu = p.liu := by
  unfold Part.verifyExpires; (try dsimp only); repeat' split
  all_goals simp
@[simp] theorem Part.verifyExpires_lpc (p : Part) :
    (Part.verifyExpires p).lpc = p.lpc := by
  unfold Part.verifyExpires; (try dsimp only); repeat' split
  all_goals simp
@[simp] theorem Part.verifyExpires_pins (p : Part) :
    (Part.verifyExpires p).pins = p.pins := by
  unfold Part.verifyExpires; (try dsimp only); repeat' split
  all_goals simp
@[simp] theorem Part.verifyExpires_choices (p : Part) :
    (Part.verifyExpires p).choices = p.choices := by
  unfold Part.verifyExpires; (try dsimp only); repeat' split
  all_goals simp
@[simp] theorem Part.gateExpires_adu (p : Part) :
    (Part.gateExpires p).adu = p.adu := by
  unfold Part.gateExpires; (try dsimp only); repeat' split
  all_goals simp
@[simp] theorem Part.gateExpires_pvw (p : Part) :
    (Part.gateExpires p).pvw = p.pvw := by
  unfold Part.gateExpires; (try dsimp only); repeat' split
  all_goals simp
@[simp] theorem Part.gateExpires_lif (p : Part) :
    (Part.gateExpires p).lif = p.lif := by
  unfold Part.gateExpires; (try dsimp only); repeat' split
  all_goals simp
@[simp] theorem Part.gateExpires_liu (p : Part) :
    (Part.gateExpires p).liu = p.liu := by
  unfold Part.gateExpires; (try dsimp only); repeat' split
  all_goals simp
@[simp] theorem Part.gateExpires_lpc (p : Part) :
    (Part.gateExpires p).lpc = p.lpc := by
  unfold Part.gateExpires; (try dsimp only); repeat' split
  all_goals simp
@[simp] theorem Part.gateExpires_pins (p : Part) :
    (Part.gateExpires p).pins = p.pins := by
  unfold Part.gateExpires; (try dsimp only); repeat' split
  all_goals simp
@[simp] theorem Part.gateExpires_choices (p : Part) :
    (Part.gateExpires p).choices = p.choices := by
  unfold Part.gateExpires; (try dsimp only); repeat' split
  all_goals simp
@[simp] theorem Part.probeWindowEnds_lif (p : Part) :
    (Part.probeWindowEnds p).lif = p.lif := by
  unfold Part.probeWindowEnds; (try dsimp only); repeat' split
  all_goals simp
@[simp] theorem Part.probeWindowEnds_liu (p : Part) :
    (Part.probeWindowEnds p).liu = p.liu := by
  unfold Part.probeWindowEnds; (try dsimp only); repeat' split
  all_goals simp
@[simp] theorem Part.probeWindowEnds_lpc (p : Part) :
    (Part.probeWindowEnds p).lpc = p.lpc := by
  unfold Part.probeWindowEnds; (try dsimp only); repeat' split
  all_goals simp
@[simp] theorem Part.probeWindowEnds_pins (p : Part) :
    (Part.probeWindowEnds p).pins = p.pins := by
  unfold Part.probeWindowEnds; (try dsimp only); repeat' split
  all_goals simp
@[simp] theorem Part.probeWindowEnds_choices (p : Part) :
    (Part.probeWindowEnds p).choices = p.choices := by
  unfold Part.probeWindowEnds; (try dsimp only); repeat' split
  all_goals simp
@[simp] theorem Part.brakeExpires_pvw (p : Part) :
    (Part.brakeExpires p).pvw = p.pvw := by
  unfold Part.brakeExpires; (try dsimp only); repeat' split
  all_goals simp
@[simp] theorem Part.brakeExpires_lif (p : Part) :
    (Part.brakeExpires p).lif = p.lif := by
  unfold Part.brakeExpires; (try dsimp only); repeat' split
  all_goals simp
@[simp] theorem Part.brakeExpires_liu (p : Part) :
    (Part.brakeExpires p).liu = p.liu := by
  unfold Part.brakeExpires; (try dsimp only); repeat' split
  all_goals simp
@[simp] theorem Part.brakeExpires_lpc (p : Part) :
    (Part.brakeExpires p).lpc = p.lpc := by
  unfold Part.brakeExpires; (try dsimp only); repeat' split
  all_goals simp
@[simp] theorem Part.brakeExpires_pins (p : Part) :
    (Part.brakeExpires p).pins = p.pins := by
  unfold Part.brakeExpires; (try dsimp only); repeat' split
  all_goals simp
@[simp] theorem Part.brakeExpires_choices (p : Part) :
    (Part.brakeExpires p).choices = p.choices := by
  unfold Part.brakeExpires; (try dsimp only); repeat' split
  all_goals simp
@[simp] theorem Part.progressWindowEnds_pvw (p : Part) :
    (Part.progressWindowEnds p).pvw = p.pvw := by
  unfold Part.progressWindowEnds; (try dsimp only); repeat' split
  all_goals simp
@[simp] theorem Part.progressWindowEnds_lif (p : Part) :
    (Part.progressWindowEnds p).lif = p.lif := by
  unfold Part.progressWindowEnds; (try dsimp only); repeat' split
  all_goals simp
@[simp] theorem Part.progressWindowEnds_liu (p : Part) :
    (Part.progressWindowEnds p).liu = p.liu := by
  unfold Part.progressWindowEnds; (try dsimp only); repeat' split
  all_goals simp
@[simp] theorem Part.progressWindowEnds_lpc (p : Part) :
    (Part.progressWindowEnds p).lpc = p.lpc := by
  unfold Part.progressWindowEnds; (try dsimp only); repeat' split
  all_goals simp
@[simp] theorem Part.progressWindowEnds_pins (p : Part) :
    (Part.progressWindowEnds p).pins = p.pins := by
  unfold Part.progressWindowEnds; (try dsimp only); repeat' split
  all_goals simp
@[simp] theorem Part.progressWindowEnds_choices (p : Part) :
    (Part.progressWindowEnds p).choices = p.choices := by
  unfold Part.progressWindowEnds; (try dsimp only); repeat' split
  all_goals simp
@[simp] theorem Part.speedWindowEnds_pcu (p : Part) :
    (Part.speedWindowEnds p).pcu = p.pcu := by
  unfold Part.speedWindowEnds; (try dsimp only); repeat' split
  all_goals simp
@[simp] theorem Part.speedWindowEnds_adu (p : Part) :
    (Part.speedWindowEnds p).adu = p.adu := by
  unfold Part.speedWindowEnds; (try dsimp only); repeat' split
  all_goals simp
@[simp] theorem Part.speedWindowEnds_pvw (p : Part) :
    (Part.speedWindowEnds p).pvw = p.pvw := by
  unfold Part.speedWindowEnds; (try dsimp only); repeat' split
  all_goals simp
@[simp] theorem Part.speedWindowEnds_fre (p : Part) :
    (Part.speedWindowEnds p).fre = p.fre := by
  unfold Part.speedWindowEnds; (try dsimp only); repeat' split
  all_goals simp
@[simp] theorem Part.speedWindowEnds_lif (p : Part) :
    (Part.speedWindowEnds p).lif = p.lif := by
  unfold Part.speedWindowEnds; (try dsimp only); repeat' split
  all_goals simp
@[simp] theorem Part.speedWindowEnds_liu (p : Part) :
    (Part.speedWindowEnds p).liu = p.liu := by
  unfold Part.speedWindowEnds; (try dsimp only); repeat' split
  all_goals simp
@[simp] theorem Part.speedWindowEnds_anu (p : Part) :
    (Part.speedWindowEnds p).anu = p.anu := by
  unfold Part.speedWindowEnds; (try dsimp only); repeat' split
  all_goals simp
@[simp] theorem Part.speedWindowEnds_lpc (p : Part) :
    (Part.speedWindowEnds p).lpc = p.lpc := by
  unfold Part.speedWindowEnds; (try dsimp only); repeat' split
  all_goals simp
@[simp] theorem Part.speedWindowEnds_pins (p : Part) :
    (Part.speedWindowEnds p).pins = p.pins := by
  unfold Part.speedWindowEnds; (try dsimp only); repeat' split
  all_goals simp
@[simp] theorem Part.speedWindowEnds_choices (p : Part) :
    (Part.speedWindowEnds p).choices = p.choices := by
  unfold Part.speedWindowEnds; (try dsimp only); repeat' split
  all_goals simp
@[simp] theorem Part.levelExpires_pvw (p : Part) :
    (Part.levelExpires p).pvw = p.pvw := by
  unfold Part.levelExpires; (try dsimp only); repeat' split
  all_goals simp
@[simp] theorem Part.levelExpires_lif (p : Part) :
    (Part.levelExpires p).lif = p.lif := by
  unfold Part.levelExpires; (try dsimp only); repeat' split
  all_goals simp
@[simp] theorem Part.levelExpires_liu (p : Part) :
    (Part.levelExpires p).liu = p.liu := by
  unfold Part.levelExpires; (try dsimp only); repeat' split
  all_goals simp
@[simp] theorem Part.levelExpires_lpc (p : Part) :
    (Part.levelExpires p).lpc = p.lpc := by
  unfold Part.levelExpires; (try dsimp only); repeat' split
  all_goals simp
@[simp] theorem Part.levelExpires_pins (p : Part) :
    (Part.levelExpires p).pins = p.pins := by
  unfold Part.levelExpires; (try dsimp only); repeat' split
  all_goals simp
@[simp] theorem Part.levelExpires_choices (p : Part) :
    (Part.levelExpires p).choices = p.choices := by
  unfold Part.levelExpires; (try dsimp only); repeat' split
  all_goals simp
@[simp] theorem Part.standstillExpires_pvw (p : Part) :
    (Part.standstillExpires p).pvw = p.pvw := by
  unfold Part.standstillExpires; (try dsimp only); repeat' split
  all_goals simp
@[simp] theorem Part.standstillExpires_lif (p : Part) :
    (Part.standstillExpires p).lif = p.lif := by
  unfold Part.standstillExpires; (try dsimp only); repeat' split
  all_goals simp
@[simp] theorem Part.standstillExpires_liu (p : Part) :
    (Part.standstillExpires p).liu = p.liu := by
  unfold Part.standstillExpires; (try dsimp only); repeat' split
  all_goals simp
@[simp] theorem Part.standstillExpires_lpc (p : Part) :
    (Part.standstillExpires p).lpc = p.lpc := by
  unfold Part.standstillExpires; (try dsimp only); repeat' split
  all_goals simp
@[simp] theorem Part.standstillExpires_pins (p : Part) :
    (Part.standstillExpires p).pins = p.pins := by
  unfold Part.standstillExpires; (try dsimp only); repeat' split
  all_goals simp
@[simp] theorem Part.standstillExpires_choices (p : Part) :
    (Part.standstillExpires p).choices = p.choices := by
  unfold Part.standstillExpires; (try dsimp only); repeat' split
  all_goals simp
@[simp] theorem Part.doorExpires_pvw (p : Part) :
    (Part.doorExpires p).pvw = p.pvw := by
  unfold Part.doorExpires; (try dsimp only); repeat' split
  all_goals simp
@[simp] theorem Part.doorExpires_lif (p : Part) :
    (Part.doorExpires p).lif = p.lif := by
  unfold Part.doorExpires; (try dsimp only); repeat' split
  all_goals simp
@[simp] theorem Part.doorExpires_liu (p : Part) :
    (Part.doorExpires p).liu = p.liu := by
  unfold Part.doorExpires; (try dsimp only); repeat' split
  all_goals simp
@[simp] theorem Part.doorExpires_lpc (p : Part) :
    (Part.doorExpires p).lpc = p.lpc := by
  unfold Part.doorExpires; (try dsimp only); repeat' split
  all_goals simp
@[simp] theorem Part.doorExpires_pins (p : Part) :
    (Part.doorExpires p).pins = p.pins := by
  unfold Part.doorExpires; (try dsimp only); repeat' split
  all_goals simp
@[simp] theorem Part.doorExpires_choices (p : Part) :
    (Part.doorExpires p).choices = p.choices := by
  unfold Part.doorExpires; (try dsimp only); repeat' split
  all_goals simp
@[simp] theorem Part.waitSecondPasses_lif (p : Part) :
    (Part.waitSecondPasses p).lif = p.lif := by
  unfold Part.waitSecondPasses; (try dsimp only); repeat' split
  all_goals simp
@[simp] theorem Part.waitSecondPasses_liu (p : Part) :
    (Part.waitSecondPasses p).liu = p.liu := by
  unfold Part.waitSecondPasses; (try dsimp only); repeat' split
  all_goals simp
@[simp] theorem Part.waitSecondPasses_lpc (p : Part) :
    (Part.waitSecondPasses p).lpc = p.lpc := by
  unfold Part.waitSecondPasses; (try dsimp only); repeat' split
  all_goals simp
@[simp] theorem Part.waitSecondPasses_pins (p : Part) :
    (Part.waitSecondPasses p).pins = p.pins := by
  unfold Part.waitSecondPasses; (try dsimp only); repeat' split
  all_goals simp
@[simp] theorem Part.waitSecondPasses_choices (p : Part) :
    (Part.waitSecondPasses p).choices = p.choices := by
  unfold Part.waitSecondPasses; (try dsimp only); repeat' split
  all_goals simp
@[simp] theorem Part.retryExpires_pvw (p : Part) :
    (Part.retryExpires p).pvw = p.pvw := by
  unfold Part.retryExpires; (try dsimp only); repeat' split
  all_goals simp
@[simp] theorem Part.retryExpires_lif (p : Part) :
    (Part.retryExpires p).lif = p.lif := by
  unfold Part.retryExpires; (try dsimp only); repeat' split
  all_goals simp
@[simp] theorem Part.retryExpires_liu (p : Part) :
    (Part.retryExpires p).liu = p.liu := by
  unfold Part.retryExpires; (try dsimp only); repeat' split
  all_goals simp
@[simp] theorem Part.retryExpires_lpc (p : Part) :
    (Part.retryExpires p).lpc = p.lpc := by
  unfold Part.retryExpires; (try dsimp only); repeat' split
  all_goals simp
@[simp] theorem Part.retryExpires_pins (p : Part) :
    (Part.retryExpires p).pins = p.pins := by
  unfold Part.retryExpires; (try dsimp only); repeat' split
  all_goals simp
@[simp] theorem Part.retryExpires_choices (p : Part) :
    (Part.retryExpires p).choices = p.choices := by
  unfold Part.retryExpires; (try dsimp only); repeat' split
  all_goals simp
@[simp] theorem Part.deferralExpires_pvw (p : Part) :
    (Part.deferralExpires p).pvw = p.pvw := by
  unfold Part.deferralExpires; (try dsimp only); repeat' split
  all_goals simp
@[simp] theorem Part.deferralExpires_lif (p : Part) :
    (Part.deferralExpires p).lif = p.lif := by
  unfold Part.deferralExpires; (try dsimp only); repeat' split
  all_goals simp
@[simp] theorem Part.deferralExpires_liu (p : Part) :
    (Part.deferralExpires p).liu = p.liu := by
  unfold Part.deferralExpires; (try dsimp only); repeat' split
  all_goals simp
@[simp] theorem Part.deferralExpires_lpc (p : Part) :
    (Part.deferralExpires p).lpc = p.lpc := by
  unfold Part.deferralExpires; (try dsimp only); repeat' split
  all_goals simp
@[simp] theorem Part.deferralExpires_pins (p : Part) :
    (Part.deferralExpires p).pins = p.pins := by
  unfold Part.deferralExpires; (try dsimp only); repeat' split
  all_goals simp
@[simp] theorem Part.deferralExpires_choices (p : Part) :
    (Part.deferralExpires p).choices = p.choices := by
  unfold Part.deferralExpires; (try dsimp only); repeat' split
  all_goals simp
@[simp] theorem Part.presenceExpires_rsq (p : Part) :
    (Part.presenceExpires p).rsq = p.rsq := by
  unfold Part.presenceExpires; (try dsimp only); repeat' split
  all_goals simp
@[simp] theorem Part.presenceExpires_pcu (p : Part) :
    (Part.presenceExpires p).pcu = p.pcu := by
  unfold Part.presenceExpires; (try dsimp only); repeat' split
  all_goals simp
@[simp] theorem Part.presenceExpires_adu (p : Part) :
    (Part.presenceExpires p).adu = p.adu := by
  unfold Part.presenceExpires; (try dsimp only); repeat' split
  all_goals simp
@[simp] theorem Part.presenceExpires_pvw (p : Part) :
    (Part.presenceExpires p).pvw = p.pvw := by
  unfold Part.presenceExpires; (try dsimp only); repeat' split
  all_goals simp
@[simp] theorem Part.presenceExpires_lif (p : Part) :
    (Part.presenceExpires p).lif = p.lif := by
  unfold Part.presenceExpires; (try dsimp only); repeat' split
  all_goals simp
@[simp] theorem Part.presenceExpires_liu (p : Part) :
    (Part.presenceExpires p).liu = p.liu := by
  unfold Part.presenceExpires; (try dsimp only); repeat' split
  all_goals simp
@[simp] theorem Part.presenceExpires_anu (p : Part) :
    (Part.presenceExpires p).anu = p.anu := by
  unfold Part.presenceExpires; (try dsimp only); repeat' split
  all_goals simp
@[simp] theorem Part.presenceExpires_lpc (p : Part) :
    (Part.presenceExpires p).lpc = p.lpc := by
  unfold Part.presenceExpires; (try dsimp only); repeat' split
  all_goals simp
@[simp] theorem Part.presenceExpires_pins (p : Part) :
    (Part.presenceExpires p).pins = p.pins := by
  unfold Part.presenceExpires; (try dsimp only); repeat' split
  all_goals simp
@[simp] theorem Part.presenceExpires_choices (p : Part) :
    (Part.presenceExpires p).choices = p.choices := by
  unfold Part.presenceExpires; (try dsimp only); repeat' split
  all_goals simp

end Sys2Proof.Machine
end

