-- ==== Sys2Proof/Laws/Offers.lean ====
section
/-! SUPPORT. What offers and removals leave of the frame engine's record: everything but the queue and the offer held
against the entry in flight (R91, R92). -/

namespace Sys2Proof.Machine

@[simp] theorem Fre.hold_phase (h : HeldOffer) (r : Fre) : (r.hold h).phase = r.phase := rfl
@[simp] theorem Fre.removeKind_phase (k : FrameKind) (r : Fre) : (r.removeKind k).phase = r.phase := by
  unfold Fre.removeKind; split <;> rfl
@[simp] theorem Fre.put_phase (x : Frame) (r : Fre) : (r.put x).phase = r.phase := by
  unfold Fre.put; split <;> rfl
@[simp] theorem Fre.offer_phase (x : Frame) (r : Fre) : (r.offer x).phase = r.phase := by
  unfold Fre.offer; split <;> simp
@[simp] theorem Fre.hold_rx (h : HeldOffer) (r : Fre) : (r.hold h).rx = r.rx := rfl
@[simp] theorem Fre.removeKind_rx (k : FrameKind) (r : Fre) : (r.removeKind k).rx = r.rx := by
  unfold Fre.removeKind; split <;> rfl
@[simp] theorem Fre.put_rx (x : Frame) (r : Fre) : (r.put x).rx = r.rx := by
  unfold Fre.put; split <;> rfl
@[simp] theorem Fre.offer_rx (x : Frame) (r : Fre) : (r.offer x).rx = r.rx := by
  unfold Fre.offer; split <;> simp
@[simp] theorem Fre.hold_role (h : HeldOffer) (r : Fre) : (r.hold h).role = r.role := rfl
@[simp] theorem Fre.removeKind_role (k : FrameKind) (r : Fre) : (r.removeKind k).role = r.role := by
  unfold Fre.removeKind; split <;> rfl
@[simp] theorem Fre.put_role (x : Frame) (r : Fre) : (r.put x).role = r.role := by
  unfold Fre.put; split <;> rfl
@[simp] theorem Fre.offer_role (x : Frame) (r : Fre) : (r.offer x).role = r.role := by
  unfold Fre.offer; split <;> simp
@[simp] theorem Fre.hold_response (h : HeldOffer) (r : Fre) : (r.hold h).response = r.response := rfl
@[simp] theorem Fre.removeKind_response (k : FrameKind) (r : Fre) : (r.removeKind k).response = r.response := by
  unfold Fre.removeKind; split <;> rfl
@[simp] theorem Fre.put_response (x : Frame) (r : Fre) : (r.put x).response = r.response := by
  unfold Fre.put; split <;> rfl
@[simp] theorem Fre.offer_response (x : Frame) (r : Fre) : (r.offer x).response = r.response := by
  unfold Fre.offer; split <;> simp
@[simp] theorem Fre.hold_listed (h : HeldOffer) (r : Fre) : (r.hold h).listed = r.listed := rfl
@[simp] theorem Fre.removeKind_listed (k : FrameKind) (r : Fre) : (r.removeKind k).listed = r.listed := by
  unfold Fre.removeKind; split <;> rfl
@[simp] theorem Fre.put_listed (x : Frame) (r : Fre) : (r.put x).listed = r.listed := by
  unfold Fre.put; split <;> rfl
@[simp] theorem Fre.offer_listed (x : Frame) (r : Fre) : (r.offer x).listed = r.listed := by
  unfold Fre.offer; split <;> simp
@[simp] theorem Fre.hold_lostKind (h : HeldOffer) (r : Fre) : (r.hold h).lostKind = r.lostKind := rfl
@[simp] theorem Fre.removeKind_lostKind (k : FrameKind) (r : Fre) : (r.removeKind k).lostKind = r.lostKind := by
  unfold Fre.removeKind; split <;> rfl
@[simp] theorem Fre.put_lostKind (x : Frame) (r : Fre) : (r.put x).lostKind = r.lostKind := by
  unfold Fre.put; split <;> rfl
@[simp] theorem Fre.offer_lostKind (x : Frame) (r : Fre) : (r.offer x).lostKind = r.lostKind := by
  unfold Fre.offer; split <;> simp
@[simp] theorem Fre.hold_report (h : HeldOffer) (r : Fre) : (r.hold h).report = r.report := rfl
@[simp] theorem Fre.removeKind_report (k : FrameKind) (r : Fre) : (r.removeKind k).report = r.report := by
  unfold Fre.removeKind; split <;> rfl
@[simp] theorem Fre.put_report (x : Frame) (r : Fre) : (r.put x).report = r.report := by
  unfold Fre.put; split <;> rfl
@[simp] theorem Fre.offer_report (x : Frame) (r : Fre) : (r.offer x).report = r.report := by
  unfold Fre.offer; split <;> simp
@[simp] theorem Fre.hold_valid (h : HeldOffer) (r : Fre) : (r.hold h).valid = r.valid := rfl
@[simp] theorem Fre.removeKind_valid (k : FrameKind) (r : Fre) : (r.removeKind k).valid = r.valid := by
  unfold Fre.removeKind; split <;> rfl
@[simp] theorem Fre.put_valid (x : Frame) (r : Fre) : (r.put x).valid = r.valid := by
  unfold Fre.put; split <;> rfl
@[simp] theorem Fre.offer_valid (x : Frame) (r : Fre) : (r.offer x).valid = r.valid := by
  unfold Fre.offer; split <;> simp
@[simp] theorem Fre.hold_inResponse (h : HeldOffer) (r : Fre) : (r.hold h).inResponse = r.inResponse := rfl
@[simp] theorem Fre.removeKind_inResponse (k : FrameKind) (r : Fre) : (r.removeKind k).inResponse = r.inResponse := by
  unfold Fre.removeKind; split <;> rfl
@[simp] theorem Fre.put_inResponse (x : Frame) (r : Fre) : (r.put x).inResponse = r.inResponse := by
  unfold Fre.put; split <;> rfl
@[simp] theorem Fre.offer_inResponse (x : Frame) (r : Fre) : (r.offer x).inResponse = r.inResponse := by
  unfold Fre.offer; split <;> simp
@[simp] theorem Fre.hold_windowAbandoned (h : HeldOffer) (r : Fre) : (r.hold h).windowAbandoned = r.windowAbandoned := rfl
@[simp] theorem Fre.removeKind_windowAbandoned (k : FrameKind) (r : Fre) : (r.removeKind k).windowAbandoned = r.windowAbandoned := by
  unfold Fre.removeKind; split <;> rfl
@[simp] theorem Fre.put_windowAbandoned (x : Frame) (r : Fre) : (r.put x).windowAbandoned = r.windowAbandoned := by
  unfold Fre.put; split <;> rfl
@[simp] theorem Fre.offer_windowAbandoned (x : Frame) (r : Fre) : (r.offer x).windowAbandoned = r.windowAbandoned := by
  unfold Fre.offer; split <;> simp
@[simp] theorem Fre.hold_list (h : HeldOffer) (r : Fre) : (r.hold h).list = r.list := rfl
@[simp] theorem Fre.removeKind_list (k : FrameKind) (r : Fre) : (r.removeKind k).list = r.list := by
  unfold Fre.removeKind; split <;> rfl
@[simp] theorem Fre.put_list (x : Frame) (r : Fre) : (r.put x).list = r.list := by
  unfold Fre.put; split <;> rfl
@[simp] theorem Fre.offer_list (x : Frame) (r : Fre) : (r.offer x).list = r.list := by
  unfold Fre.offer; split <;> simp
@[simp] theorem Fre.hold_claimant (h : HeldOffer) (r : Fre) : (r.hold h).claimant = r.claimant := rfl
@[simp] theorem Fre.removeKind_claimant (k : FrameKind) (r : Fre) : (r.removeKind k).claimant = r.claimant := by
  unfold Fre.removeKind; split <;> rfl
@[simp] theorem Fre.put_claimant (x : Frame) (r : Fre) : (r.put x).claimant = r.claimant := by
  unfold Fre.put; split <;> rfl
@[simp] theorem Fre.offer_claimant (x : Frame) (r : Fre) : (r.offer x).claimant = r.claimant := by
  unfold Fre.offer; split <;> simp
@[simp] theorem Fre.hold_duplicate (h : HeldOffer) (r : Fre) : (r.hold h).duplicate = r.duplicate := rfl
@[simp] theorem Fre.removeKind_duplicate (k : FrameKind) (r : Fre) : (r.removeKind k).duplicate = r.duplicate := by
  unfold Fre.removeKind; split <;> rfl
@[simp] theorem Fre.put_duplicate (x : Frame) (r : Fre) : (r.put x).duplicate = r.duplicate := by
  unfold Fre.put; split <;> rfl
@[simp] theorem Fre.offer_duplicate (x : Frame) (r : Fre) : (r.offer x).duplicate = r.duplicate := by
  unfold Fre.offer; split <;> simp
@[simp] theorem Fre.hold_presenceTimer (h : HeldOffer) (r : Fre) : (r.hold h).presenceTimer = r.presenceTimer := rfl
@[simp] theorem Fre.removeKind_presenceTimer (k : FrameKind) (r : Fre) : (r.removeKind k).presenceTimer = r.presenceTimer := by
  unfold Fre.removeKind; split <;> rfl
@[simp] theorem Fre.put_presenceTimer (x : Frame) (r : Fre) : (r.put x).presenceTimer = r.presenceTimer := by
  unfold Fre.put; split <;> rfl
@[simp] theorem Fre.offer_presenceTimer (x : Frame) (r : Fre) : (r.offer x).presenceTimer = r.presenceTimer := by
  unfold Fre.offer; split <;> simp
@[simp] theorem Fre.hold_counters (h : HeldOffer) (r : Fre) : (r.hold h).counters = r.counters := rfl
@[simp] theorem Fre.removeKind_counters (k : FrameKind) (r : Fre) : (r.removeKind k).counters = r.counters := by
  unfold Fre.removeKind; split <;> rfl
@[simp] theorem Fre.put_counters (x : Frame) (r : Fre) : (r.put x).counters = r.counters := by
  unfold Fre.put; split <;> rfl
@[simp] theorem Fre.offer_counters (x : Frame) (r : Fre) : (r.offer x).counters = r.counters := by
  unfold Fre.offer; split <;> simp

/-! ## The attempt that a duplicate spoils (R74, R105) -/

/-- All that spoiling a lost attempt can do: nothing, or an error attempt of the kind that was lost. -/
theorem Fre.spoilLost_cases (r : Fre) :
    (r.lostKind = none ∧ r.spoilLost = r) ∨ ∃ k, r.lostKind = some k ∧ r.spoilLost = r.errorAttemptOf k none := by
  unfold Fre.spoilLost
  cases h : r.lostKind with
  | none => exact .inl ⟨rfl, rfl⟩
  | some k => exact .inr ⟨k, rfl, rfl⟩

@[simp] theorem Fre.spoilLost_of_none (r : Fre) (h : r.lostKind = none) : r.spoilLost = r := by
  simp [Fre.spoilLost, h]
@[simp] theorem Fre.spoilLost_duplicate (r : Fre) : r.spoilLost.duplicate = r.duplicate := by
  unfold Fre.spoilLost; split <;> rfl
@[simp] theorem Fre.spoilLost_counters (r : Fre) : r.spoilLost.counters = r.counters := by
  unfold Fre.spoilLost; split <;> rfl
@[simp] theorem Fre.spoilLost_list (r : Fre) : r.spoilLost.list = r.list := by
  unfold Fre.spoilLost; split <;> rfl
@[simp] theorem Fre.spoilLost_phase (r : Fre) : r.spoilLost.phase = r.phase := by
  unfold Fre.spoilLost; split <;> rfl
@[simp] theorem Fre.spoilLost_role (r : Fre) : r.spoilLost.role = r.role := by
  unfold Fre.spoilLost; split <;> rfl

end Sys2Proof.Machine
end

