-- ==== Sys2Proof/Laws/Port.lean ====
section
/-! SUPPORT. What a whole transaction of the lift port does, once for every command: the port closed, with what LP_DO
carried, and the command taken or refused for its framing (R147, R148). -/

namespace Sys2Proof.Machine

/-! ## The part once a transaction has been taken -/

@[simp] theorem Part.settled_pcu (p : Part) : p.settled.pcu = p.pcu := rfl
@[simp] theorem Part.settled_adu (p : Part) : p.settled.adu = p.adu := rfl
@[simp] theorem Part.settled_pvw (p : Part) : p.settled.pvw = p.pvw := rfl
@[simp] theorem Part.settled_fre (p : Part) : p.settled.fre = p.fre := rfl
@[simp] theorem Part.settled_lif (p : Part) : p.settled.lif = p.lif := rfl
@[simp] theorem Part.settled_liu (p : Part) : p.settled.liu = p.liu := rfl
@[simp] theorem Part.settled_anu (p : Part) : p.settled.anu = p.anu := rfl
@[simp] theorem Part.settled_lpc (p : Part) : p.settled.lpc = p.lpc := rfl
@[simp] theorem Part.settled_pins (p : Part) : p.settled.pins = p.pins := rfl
@[simp] theorem Part.settled_choices (p : Part) : p.settled.choices = p.choices := rfl
@[simp] theorem Part.settled_state (p : Part) : p.settled.rsq.state = p.rsq.state := rfl
@[simp] theorem Part.settled_cancelCame (p : Part) : p.settled.rsq.cancelCame = false := rfl

/-! ## The bytes of a transaction -/

/-- The bits of a zero byte are zeros. -/
theorem take_bitsOfByte_zero (k : Fin 8) : (bitsOfByte 0#8).take k.val = List.replicate k.val false := by
  revert k; decide

/-- Operand bytes: counted, answered with 0x00, and staged as far as the store reaches. -/
theorem Lpc.foldl_operands (status : List Byte) (viewed : Nat → List Byte) (bytes : List Byte) (l : Lpc)
    (hp : l.phase = .operands) (hs : l.staging.length ≤ 35) :
    bytes.foldl (fun l b => l.clockByte status viewed b) l =
      { l with byteCount := l.byteCount + bytes.length, dout := l.dout ++ List.replicate bytes.length 0
               staging := (l.staging ++ bytes).take 35 } := by
  induction bytes generalizing l with
  | nil => cases l; simp_all
  | cons b bytes ih =>
    rw [List.foldl_cons, ih]
    · by_cases h : l.staging.length < 35
      · simp [clockByte, hp, nextOut, Config.stagingLength, List.replicate_succ, h]; omega
      · simp [clockByte, hp, nextOut, Config.stagingLength, List.replicate_succ,
          show l.staging.length = 35 by omega]
        omega
    · simp [clockByte, hp]
    · by_cases h : l.staging.length < 35 <;> simp [clockByte, hp, Config.stagingLength, h] <;> omega

/-- Record bytes: those the record still holds, then 0x00. -/
theorem Lpc.foldl_readout (status : List Byte) (viewed : Nat → List Byte) (bytes : List Byte) (l : Lpc)
    (hp : l.phase = .readout) :
    bytes.foldl (fun l b => l.clockByte status viewed b) l =
      { l with byteCount := l.byteCount + bytes.length
               dout := l.dout ++ (l.snapshot ++ List.replicate bytes.length 0).take bytes.length
               snapshot := l.snapshot.drop bytes.length } := by
  induction bytes generalizing l with
  | nil => cases l; simp
  | cons b bytes ih =>
    rw [List.foldl_cons, ih]
    · cases hs : l.snapshot with
      | nil =>
        simp [clockByte, hp, nextOut, hs, List.replicate_succ]
        omega
      | cons x xs =>
        simp [clockByte, hp, nextOut, hs, List.take_append]
        refine ⟨by omega, ?_⟩
        congr 1; omega
    · simp [clockByte, hp]

/-- Bytes after an unknown command byte: counted, answered with 0x00. -/
theorem Lpc.foldl_ignore (status : List Byte) (viewed : Nat → List Byte) (bytes : List Byte) (l : Lpc)
    (hp : l.phase = .ignore) :
    bytes.foldl (fun l b => l.clockByte status viewed b) l =
      { l with byteCount := l.byteCount + bytes.length, dout := l.dout ++ List.replicate bytes.length 0 } := by
  induction bytes generalizing l with
  | nil => cases l; simp
  | cons b bytes ih =>
    rw [List.foldl_cons, ih]
    · simp [clockByte, hp, nextOut, List.replicate_succ]; omega
    · simp [clockByte, hp]

/-- The command byte of a transaction. -/
theorem Lpc.clockByte_select (status : List Byte) (viewed : Nat → List Byte) (b : Byte) (l : Lpc) :
    l.select.clockByte status viewed b =
      { l.select with
        byteCount := 1, dout := [0], phase := (PortCommand.ofCode b).phaseAfter
        snapshot := if PortCommand.ofCode b = .status then status else [] } := by
  simp [clockByte, select, nextOut]

/-- The end of every transaction: the model's mark of R31 is clear (assumption 44). -/
theorem Part.mapRsq_instantOver (p : Part) : p.mapRsq Rsq.instantOver = p.settled := rfl

/-- A modifying command with its whole transaction (R148). -/
theorem Part.modify_ready (c : PortCommand) (hc : c.modifying = true) (t : Tail) (take : List Byte → Part → Part)
    (p : Part) (h : p.lpc.awaitRelease = false) :
    p.modify c t take = Part.settled (
      if c.countFits (t.bytes.length + 1) ∧ t.bits.val = 0 then
        take (t.bytes.take 35)
          (p.mapLpc (Lpc.closed (List.replicate (t.bytes.length + 1) 0) (List.replicate t.bits.val false)))
      else
        (p.mapLpc (Lpc.closed (List.replicate (t.bytes.length + 1) 0) (List.replicate t.bits.val false))).refuseTransaction
          .framing) := by
  have e : PortCommand.ofCode c.code = c ∧ c.phaseAfter = .operands ∧ c ≠ .status := by
    cases c <;> simp_all [PortCommand.modifying] <;> decide
  simp only [modify, transaction, mapRsq_instantOver, h, clock, release, mapLpc, List.foldl_cons, Lpc.clockByte_select, e]
  rw [Lpc.foldl_operands _ _ _ _ rfl (by simp [Lpc.select])]
  simp [Lpc.select, Lpc.clockBits, Lpc.nextOut, Lpc.closed, take_bitsOfByte_zero, List.replicate_succ, Nat.add_comm 1]

/-- A STATUS read with its whole transaction (R156). -/
theorem Part.readOut_status (t : Tail) (p : Part) (h : p.lpc.awaitRelease = false) :
    p.readOut .status t =
      (p.mapLpc (Lpc.closed (0 :: (p.statusRecord ++ List.replicate t.bytes.length 0).take t.bytes.length)
        ((bitsOfByte (byteAt p.statusRecord t.bytes.length)).take t.bits.val))).settled := by
  have e : PortCommand.ofCode PortCommand.status.code = .status := by decide
  simp only [readOut, transaction, mapRsq_instantOver, h, clock, release, mapLpc, List.foldl_cons, Lpc.clockByte_select, e]
  rw [Lpc.foldl_readout _ _ _ _ (by simp [PortCommand.phaseAfter])]
  simp [Lpc.select, Lpc.clockBits, Lpc.nextOut, Lpc.closed, PortCommand.phaseAfter, byteAt, List.head?_drop, List.getD]

/-- A VIEW read with its whole transaction (R157). -/
theorem Part.readOut_view (index : Byte) (rest : List Byte) (bits : Fin 8) (p : Part) (h : p.lpc.awaitRelease = false) :
    p.readOut .view ⟨index :: rest, bits⟩ =
      (p.mapLpc (Lpc.closed (0 :: 0 :: (p.viewRecord index.toNat ++ List.replicate rest.length 0).take rest.length)
        ((bitsOfByte (byteAt (p.viewRecord index.toNat) rest.length)).take bits.val))).settled := by
  have e : PortCommand.ofCode PortCommand.view.code = .view := by decide
  simp only [readOut, transaction, mapRsq_instantOver, h, clock, release, mapLpc, List.foldl_cons, Lpc.clockByte_select, e]
  have i : ∀ l : Lpc, l.phase = .command → l.byteCount = 1 →
      l.clockByte p.statusRecord (fun i => p.viewRecord i) index =
        { l with byteCount := 2, dout := l.dout ++ [0], phase := .readout, snapshot := p.viewRecord index.toNat } := by
    intro l h1 h2; simp [Lpc.clockByte, h1, h2, Lpc.nextOut]
  rw [i _ (by simp [PortCommand.phaseAfter]) (by simp), Lpc.foldl_readout _ _ _ _ (by simp)]
  simp [Lpc.select, Lpc.clockBits, Lpc.nextOut, Lpc.closed, byteAt, List.head?_drop, List.getD]

/-- A VIEW released before its index byte is complete (R157). -/
theorem Part.readOut_view_nil (bits : Fin 8) (p : Part) (h : p.lpc.awaitRelease = false) :
    p.readOut .view ⟨[], bits⟩ = (p.mapLpc (Lpc.closed [0] (List.replicate bits.val false))).settled := by
  have e : PortCommand.ofCode PortCommand.view.code = .view := by decide
  simp only [readOut, transaction, mapRsq_instantOver, h, clock, release, mapLpc, List.foldl_cons, List.foldl_nil, Lpc.clockByte_select, e]
  simp [Lpc.select, Lpc.clockBits, Lpc.nextOut, Lpc.closed, PortCommand.phaseAfter, take_bitsOfByte_zero]

/-- A transaction with an unknown command code (R148). -/
theorem Part.transaction_unknown (code : Byte) (hc : knownCodes.contains code = false) (t : Tail) (p : Part)
    (finish : Part → Part) (h : p.lpc.awaitRelease = false) :
    p.transaction (code :: t.bytes) t.bits.val (fun _ p => finish p) =
      (finish (p.mapLpc (Lpc.closed (List.replicate (t.bytes.length + 1) 0) (List.replicate t.bits.val false)))).settled := by
  have e : PortCommand.ofCode code = .unknown := by
    revert code; decide
  simp only [transaction, mapRsq_instantOver, h, clock, release, mapLpc, List.foldl_cons, Lpc.clockByte_select, e]
  rw [Lpc.foldl_ignore _ _ _ _ (by simp [PortCommand.phaseAfter])]
  simp [Lpc.select, Lpc.clockBits, Lpc.nextOut, Lpc.closed, PortCommand.phaseAfter, take_bitsOfByte_zero,
    List.replicate_succ]

/-- Everything a RESUME can do (R31): it is accepted and enters WATCH; it falls together with the cancel condition, which leaves
the sequencer in WATCH with one of the two results; or it is refused. -/
theorem Part.takeResume_cases (p : Part) :
    (p.resumeAccepted = true ∧ p.takeResume = p.enterWatch.setResult .done)
      ∨ (p.resumeAccepted = false ∧ p.resumeMeetsCancel = true ∧ ∃ result, (result = .done ∨ result = .resumeRefused)
          ∧ p.takeResume = ({ p with choices := p.choices + 1 } : Part).setResult result)
      ∨ (p.resumeAccepted = false ∧ p.resumeMeetsCancel = false ∧ p.takeResume = p.setResult .resumeRefused) := by
  unfold Part.takeResume
  cases ha : p.resumeAccepted <;> cases hm : p.resumeMeetsCancel <;> simp [choose]
  by_cases h : Config.eventOrder p.choices % 2 = 0 <;> simp [h]

end Sys2Proof.Machine
end

