-- ==== Sys2Proof/Laws/Traffic.lean ====
section
/-! SUPPORT. What an error attempt, and the giving up of the traffic in progress, can do, once for every failure that brings
them (R96, R100, R103, R104). -/

namespace Sys2Proof.Machine

/-! ## An entry of the queue in order -/

/-- In a queue in order two entries of one kind are one entry (R91). -/
theorem entry_unique {queue : List Entry} (h : queue.Pairwise fun a b => a.frame.kind.rank < b.frame.kind.rank)
    {a b : Entry} (ha : a ∈ queue) (hb : b ∈ queue) (hk : a.frame.kind = b.frame.kind) : a = b := by
  induction queue with
  | nil => cases ha
  | cons x xs ih =>
    rw [List.pairwise_cons] at h
    rcases List.mem_cons.mp ha with rfl | ha <;> rcases List.mem_cons.mp hb with rfl | hb
    · rfl
    · have := h.1 b hb; rw [hk] at this; exact absurd this (lt_irrefl _)
    · have := h.1 a ‹_›; rw [hk] at this; exact absurd this (lt_irrefl _)
    · exact ih h.2 ‹_› ‹_›

/-- Dropping a kind, its counts raised or not, leaves the same queue. -/
@[simp] theorem dropKind_raiseAttempts (k : FrameKind) (queue : List Entry) :
    dropKind k (raiseAttempts k queue) = dropKind k queue := by
  induction queue with
  | nil => rfl
  | cons x xs ih =>
    simp only [dropKind, raiseAttempts, List.map_cons, List.filter_cons] at ih ⊢
    by_cases h : x.frame.kind = k <;> simp [h, ih]

/-- An entry's attempts are spent exactly when its count, raised, comes to 8 (R96). -/
theorem attemptsSpent_raise {queue : List Entry} (h : queue.Pairwise fun a b => a.frame.kind.rank < b.frame.kind.rank)
    {e : Entry} {k : FrameKind} (he : e ∈ queue) (hk : e.frame.kind = k) :
    attemptsSpent k (raiseAttempts k queue) = true ↔ 8 ≤ e.attempts + 1 := by
  simp only [attemptsSpent, raiseAttempts, List.any_map, List.any_eq_true, Config.attemptLimit]
  constructor
  · rintro ⟨x, hx, hp⟩
    by_cases hxk : x.frame.kind = k
    · rw [entry_unique h he hx (hk.trans hxk.symm)]; simpa [hxk] using hp
    · simp [hxk] at hp
  · exact fun ha => ⟨e, he, by simpa [hk] using ha⟩

/-! ## An edge of the filtered line -/

/-- The line state after the filtered line turns driven: IDLE has become BUSY, and every other state stands (R115). -/
theorem Part.lineTurnsDriven_lineState (p : Part) {x : LineState} (hi : x ≠ .idle) (hb : x ≠ .busy) :
    p.lineTurnsDriven.lif.lineState = x ↔ p.lif.lineState = x := by
  unfold lineTurnsDriven
  split
  · rfl
  · by_cases h : p.lif.lineState = .idle
    · simp [mapLif, h, hi.symm, hb.symm]
    · simp [mapLif, h]

/-- The filtered line, released, turns driven (R110, R115). -/
theorem Part.lineTurnsDriven_lif {p : Part} (hf : p.lif.filtered = false) :
    p.lineTurnsDriven.lif =
      { p.lif with
        integrator := 6, filtered := true, samples := 0, idleBefore := !p.lif.traffic, traffic := true
        tx := p.lif.tx.map Tx.edgeSeen, lineState := if p.lif.lineState = .idle then .busy else p.lif.lineState } := by
  simp only [lineTurnsDriven, hf, Bool.false_eq_true, if_false]
  rfl

/-! ## The end of an attempt -/

/-- An error attempt of the sender or the claimant (R96, R104, R118), whatever beside the queue's account of it is as before. -/
theorem Part.attemptFailsAs_of {q p : Part} (hf : q.fre.queue = p.fre.errorAttempt.queue)
    (hi : q.fre.inFlight = none) (hr : q.fre.report = p.fre.errorAttempt.report)
    (hl : q.lif.retry = if p.lif.retry = .sending then .failed else p.lif.retry) : q.attemptFailsAs p := by
  refine ⟨hi, hl, fun hx => ?_, fun hq x e hx he hk => ?_⟩
  · simp [hf, hr, Fre.errorAttempt, hx]
  · have hs := attemptsSpent_raise hq he hk
    have e8 : p.fre.errorAttempt = p.fre.errorAttemptOf x.kind x.held := by simp [Fre.errorAttempt, hx]
    rw [hf, hr, e8]
    unfold Fre.errorAttemptOf
    simp only [dropKind_raiseAttempts]
    by_cases h8 : 8 ≤ e.attempts + 1
    · simp only [hs.mpr h8, h8, if_true]
      exact ⟨fun h => absurd h8 (by omega), fun _ => rfl, trivial⟩
    · simp only [show attemptsSpent x.kind (raiseAttempts x.kind p.fre.queue) = false from by
          rw [← Bool.not_eq_true, hs]; exact h8,
        h8, if_false, Bool.false_eq_true]
      exact ⟨fun _ => rfl, fun h => absurd h (by trivial), trivial⟩

/-- Counting an error moves the counters alone (R107). -/
theorem Fre.countError_eq (k : Option ErrorKind) (r : Fre) :
    r.countError k = { r with counters := (r.countError k).counters } := by
  cases k <;> rfl

/-- An error attempt moves the queue, the entry in flight and the report owed. -/
theorem Fre.errorAttempt_eq (r : Fre) :
    r.errorAttempt = { r with queue := r.errorAttempt.queue, inFlight := none, report := r.errorAttempt.report } := by
  unfold errorAttempt errorAttemptOf; split
  · rfl
  · rename_i h; cases r; simp_all

theorem Fre.errorAttempt_inFlight (r : Fre) : r.errorAttempt.inFlight = none := by
  unfold errorAttempt; split
  · rfl
  · assumption

/-- The traffic in progress is given up, on a line that is neither HELD nor STUCK (R100, R103). -/
theorem Part.abandon_givesUpAs (k : Option ErrorKind) (mark : Bool) {p : Part} (hh : p.lif.lineState ≠ .held)
    (hs : p.lif.lineState ≠ .stuck) :
    (p.abandon k mark).givesUpAs mark p
      ∧ (p.abandon k mark).fre.counters = (p.fre.countError k).counters
      ∧ (p.abandon k mark).lif = { p.lif with tx := (p.abandon k mark).lif.tx, retry := (p.abandon k mark).lif.retry }
      ∧ (p.abandon k mark).sameOutside [.fre, .lif] p := by
  have hsil : p.lif.silent = false := by simp [Lif.silent, hh, hs]
  have hm : p.mayMark = (p.adu.isHolder && !p.fre.isSender && !p.fre.duplicate && p.lif.lineState != .lost) := by
    simp [mayMark, hsil]
  obtain ⟨c, hc⟩ : ∃ c, c = (p.fre.countError k).counters := ⟨_, rfl⟩
  have hk : p.fre.countError k = { p.fre with counters := c } := by rw [hc]; exact Fre.countError_eq ..
  have he : ({ p.fre with counters := c } : Fre).errorAttempt = { p.fre.errorAttempt with counters := c } := by
    unfold Fre.errorAttempt; dsimp only; split <;> rfl
  rw [← hc]
  unfold abandon
  simp only [mapFre, hk, hm]
  by_cases hr : p.fre.role = .sender ∨ p.fre.role = .claimant
  · have hi : p.fre.isSender = true := by simpa [Fre.isSender] using hr
    have hi' : ({ p.fre with counters := c } : Fre).isSender = true := hi
    simp only [hi, hi', if_true, attemptFails, mapFre, mapLif, he, Bool.not_true, Bool.and_false, Bool.false_and,
      Bool.false_eq_true, if_false]
    refine ⟨⟨?_, fun _ => ⟨?_, ?_⟩, fun h1 h2 => ?_⟩, ?_, ?_, ?_⟩
    · rw [Fre.errorAttempt_eq]; rfl
    · exact attemptFailsAs_of rfl (Fre.errorAttempt_inFlight _) rfl rfl
    · rfl
    · simp_all
    · rfl
    · trivial
    · simp [sameOutside]
  · have hi : p.fre.isSender = false := by simpa [Fre.isSender] using hr
    have hi' : ({ p.fre with counters := c } : Fre).isSender = false := hi
    simp only [hi', Bool.false_eq_true, if_false, mapLif]
    refine ⟨⟨rfl, fun h => absurd h hr, fun _ _ => ⟨rfl, rfl, rfl, rfl, ?_⟩⟩, rfl, trivial, by simp [sameOutside]⟩
    simp [hi, errorMark, markTx, lu, Config.samplesPerLU, and_assoc]

end Sys2Proof.Machine
end

