-- ==== Sys2Proof/Tests/Slice0.lean ====
section
/-! SUPPORT. Small tests: the well-formedness checks with an ill-formed term for each, the worked examples and tables of the
manual, and for every obligation with hypotheses a state and operands that meet them. -/

namespace Sys2Proof.Tests

open Sys2Proof Sys2Proof.Machine

-- The tests are checked one after another: checked side by side, each waiting one keeps a thread of its own.
set_option Elab.async false

/-! ## Small states -/

/-- The image of node 4 in section 9.8, with an overspeed limit of 250 and its check byte right. -/
def image4 : List Byte :=
  [0x04, 0x00, 0x24, 0x00, 0x0A, 0x24, 0x01, 0x5E, 0x01, 0x90, 0x05, 0xDC, 0x07, 0x6C, 0x46, 0x00, 0x96, 0x4B, 0x14, 0x28]
    ++ [0x00, 0x32, 0x05, 0x32, 0x64, 0x14, 0x3C, 0x00, 0xFA, 0x0F, 0x03]
    ++ [0x00, 0x00, 0x01, 0x20, 0xD0, 0x01, 0x41, 0xA0, 0x01] ++ List.replicate 9 0
    ++ [0x01, 0x05, 0x00, 0xFF, 0x02, 0x03, 0x04, 0x05, 0x22]

/-- The same with the overspeed limit of 120 that section 9.8 begins with; its check byte is not read before offset 27. -/
def image4Slow : List Byte := writeBytes 27 [0x00, 0x78] image4

/-- A state of a part with no command waiting. -/
def st (p : Part) : State := { part := p, pending := [], announced := [] }

/-- The part with an image in its buffer, before commit. -/
def loaded (image : List Byte) : Part :=
  { State.reset.part with lpc := { State.reset.part.lpc with image := image } }

/-- Node 4 in service, its mains healthy, in a rescue state. -/
def served (s : RescueState) : Part :=
  { loaded image4 with
    rsq := { Rsq.reset with state := s }
    pvw := { Pvw.reset with sEff := some 36 }
    fre := { Fre.reset with presenceTimer := .running 250000 }
    liu := { Liu.reset .initial with
             heartbeat := .healthy, heartbeatTimer := .running 0, mains := .sampled true, cancel := true }
    lpc := { (loaded image4).lpc with committed := true } }

/-- The part after a command, or before it where the command is refused. -/
def after (s : State) (c : Instr) : Part :=
  match exec c s with
  | .next t => t.part
  | .fault _ | .refused _ => s.part

/-! ## Well-formedness: each check refuses an ill-formed command -/

theorem test_unknownCommand_of_a_known_code_refused :
    exec (.unknownCommand 0x0A ⟨[], 0⟩) State.reset = .refused .notAnEvent := rfl
theorem test_symbolError_of_a_bit_length_refused :
    exec (.lineSymbolError (.driven 10)) State.reset = .refused .notAnEvent := rfl
theorem test_symbolError_at_a_legal_edge_refused :
    exec (.lineSymbolError (.edge 7)) State.reset = .refused .notAnEvent := rfl
theorem test_edge_before_the_data_end_refused :
    exec (.edgeAfterDataEnd 11) State.reset = .refused .notAnEvent := rfl
theorem test_edge_at_the_frame_end_refused :
    exec (.edgeAfterDataEnd 24) State.reset = .refused .notAnEvent := rfl
theorem test_driven_phase_of_no_length_refused :
    exec (.classifiedSymbol 0) State.reset = .refused .notAnEvent := rfl
theorem test_directory_entry_of_five_bytes_refused :
    exec (.voiceDirectoryReadDone [0, 0, 0, 0, 0]) State.reset = .refused .notAnEvent := rfl
theorem test_refill_of_nine_bytes_refused :
    exec (.voiceRefillReadDone (List.replicate 9 0)) State.reset = .refused .notAnEvent := rfl

/-! ## The manual's worked examples and tables -/

/-- R1: the reference value. -/
theorem test_check_byte_reference :
    crc [0x31, 0x32, 0x33, 0x34, 0x35, 0x36, 0x37, 0x38, 0x39] = 0xF4 := by decide +kernel

/-- Section 10.2: the Release LANDED of node 9. -/
theorem test_release_of_node_9 : (Frame.release .landed 9).encode = [0x12, 0x09, 0x42] := by decide +kernel

/-- The table of R40, with the second row's lift. -/
def motorLift (speed efficiency : Nat) : Settings :=
  { Settings.ofImage image4 with creepSpeed := speed, efficiency := efficiency }

theorem test_motor_table :
    (motorLift 150 70).motor 50 = 106 ∧ (motorLift 150 70).motor 220 = 463 ∧ (motorLift 300 40).motor 500 = 3680
      ∧ (motorLift 300 40).motor 8300 = 61068 := by decide +kernel

/-- The table of R143. -/
theorem test_duty_table :
    sampleDuty 7 0x80 = 128 ∧ sampleDuty 7 0xFF = 255 ∧ sampleDuty 7 0x00 = 0 ∧ sampleDuty 3 0xFF = 182
      ∧ sampleDuty 3 0x00 = 74 ∧ sampleDuty 5 0xE4 = 199 ∧ sampleDuty 5 0x1C = 57 := by decide +kernel

/-- The lift of node 5 in section 2.9. -/
def lift5 : Settings :=
  { Settings.ofImage image4 with
    node := 5, storeLimit := 60, drawCeiling := 40
    landings := [{ level := 0, eligible := true }, { level := 8400, eligible := true },
                 { level := 21600, eligible := false }] }

/-- The inputs of its plan. -/
def inputs5 : PlanInputs :=
  { position := 12150, valid := true, load := some 180, sEff := 60, lastReleased := 2, waitSeconds := 0, refusals := 0 }

/-- Section 2.9: the plan of worked case 1. -/
theorem test_worked_plan_against :
    (lift5.makePlan inputs5).key = some 0x7172F5 ∧ (lift5.makePlan inputs5).draw = 25
      ∧ (lift5.makePlan inputs5).basis = .against ∧ (lift5.makePlan inputs5).timeEstimate = 45
      ∧ (lift5.makePlan inputs5).blockCause = .none := by decide +kernel

/-- Section 2.9: the key moves with the turn, the refusals and the wait class. -/
theorem test_worked_key_moves :
    composeKey true 0 23 5 9 0 = 0x717BF5 ∧ composeKey true 0 23 5 9 1 = 0x717BE5
      ∧ composeKey true 60 23 5 9 1 = 0x617BE5 := by decide +kernel

/-- Section 2.9: the three probe outcomes. -/
theorem test_worked_probe_outcomes :
    let plan := lift5.makePlan inputs5
    lift5.probeReplan plan 25 12170 (.observed .up) = .proceed 25 none
      ∧ lift5.probeReplan plan 25 12150 (.observed .down) = .proceed 15 none
      ∧ lift5.probeReplan plan 25 12150 .balanced = .proceed 18 (some (.down, { index := 2, level := 8400 })) := by
  decide +kernel

/-- Section 2.10: the plan of worked case 2 is beyond its S_eff of 30. -/
theorem test_worked_plan_infeasible :
    let lift12 : Settings :=
      { lift5 with
        node := 12, carMass := 1200, counterMass := 1600, balanceBand := 100, creepSpeed := 50, efficiency := 60
        baseDraw := 300, frictionDraw := 500, fixedTime := 60, halfWidth := 100
        landings := [{ level := 0, eligible := true }, { level := 29000, eligible := false },
                     { level := 59500, eligible := false }] }
    let plan := lift12.makePlan { inputs5 with position := 58000, load := none, sEff := 30, lastReleased := 15 }
    plan.key = some 0x7FFCFC ∧ plan.draw = 40 ∧ plan.basis = .unknown ∧ plan.blockCause = .infeasible := by
  decide +kernel

/-- Section 9.8, steps 4 and 7 to 10: the validation of the image as written, and as mended. -/
theorem test_worked_commit_refusal :
    validateImage image4Slow = some 27 ∧ validateImage (writeBytes 57 [0x00] image4) = some 57
      ∧ validateImage image4 = none := by decide +kernel

/-- Section 9.8, step 4: the refused COMMIT leaves the part in START. -/
theorem test_commit_of_slow_image :
    (after (st (loaded image4Slow)) (.commit ⟨[], 0⟩)).lpc.failOffset = some 27
      ∧ (after (st (loaded image4Slow)) (.commit ⟨[], 0⟩)).lpc.lastResult = .invalid
      ∧ (after (st (loaded image4Slow)) (.commit ⟨[], 0⟩)).rsq.state = .start := by decide +kernel

/-- Section 9.8, step 5: select is released inside the second data byte. -/
theorem test_load_released_inside_a_byte :
    (after (st (loaded image4Slow)) (.load ⟨[27, 0x00], 3⟩)).lpc.lastResult = .framing
      ∧ (after (st (loaded image4Slow)) (.load ⟨[27, 0x00], 3⟩)).lpc.portErrors = 1
      ∧ (after (st (loaded image4Slow)) (.load ⟨[27, 0x00], 3⟩)).lpc.image = image4Slow := by decide +kernel

/-- Section 9.8, steps 6 and 8. -/
theorem test_load_within_and_beyond_the_buffer :
    (after (st (loaded image4Slow)) (.load ⟨[27, 0x00, 0xFA], 0⟩)).lpc.image = image4
      ∧ (after (st (loaded image4)) (.load ⟨[57, 0, 0], 0⟩)).lpc.lastResult = .range := by decide +kernel

/-- Section 9.8, step 1: a tick sent too early. -/
theorem test_tick_before_commit :
    (after (st (loaded image4)) (.tickA ⟨[0, 0, 0, 0], 0⟩)).lpc.lastResult = .wrongState := by decide +kernel

/-- The table of R110, at the ends of its ranges, on a line in traffic and on an idle one. -/
theorem test_symbol_classes :
    classify false 3 = some .one ∧ classify false 4 = some .zero ∧ classify false 6 = some .zero
      ∧ classify false 7 = some .symbolError ∧ classify false 10 = some .framingError
      ∧ classify false 15 = some .symbolError ∧ classify false 40 = none ∧ classify true 9 = some .symbolError
      ∧ classify true 10 = some .opening ∧ classify true 14 = some .opening ∧ classify true 15 = some .symbolError := by
  decide +kernel

/-- Section 3.11: a claim of 25 fits a list of 14 and 20 within 60, and no more than that. -/
theorem test_worked_claim_fits :
    rollCallSum [(1, 14), (9, 20)] = 34
      ∧ ({ served .wait with pvw := { Pvw.reset with sEff := some 60 } } : Part).claimFits 25 [(1, 14), (9, 20)] = true
      ∧ ({ served .wait with pvw := { Pvw.reset with sEff := some 60 } } : Part).claimFits 27 [(1, 14), (9, 20)] = false :=
  by decide +kernel

/-- R126: the upward cycle. -/
theorem test_encoder_cycle :
    encoderMeaning (false, false) (true, false) = .step .up ∧ encoderMeaning (false, true) (false, false) = .step .up
      ∧ encoderMeaning (true, false) (false, false) = .step .down
      ∧ encoderMeaning (true, false) (false, true) = .illegal := by decide +kernel

/-! ## Witnesses: the hypotheses of each obligation are met, clause by clause at the ends of their ranges -/

theorem witness_EveryEventCompletes :
    (Instr.edgeAfterDataEnd 12).wellFormed = true ∧ (Instr.edgeAfterDataEnd 23).wellFormed = true
      ∧ (Instr.lineSymbolError (.driven 9)).wellFormed = true ∧ (Instr.lineSymbolError (.driven 39)).wellFormed = true
      ∧ (Instr.classifiedSymbol 1).wellFormed = true ∧ (Instr.classifiedSymbol 0).wellFormed = false
      ∧ (Instr.edgeAfterDataEnd 24).wellFormed = false := by decide

theorem witness_LowResetHoldsEveryBlock :
    (after State.reset (.resetInput true false)).pins.resetLow = true
      ∧ (Instr.encoderStep .up).wellFormed = true := by decide +kernel

theorem witness_ResetsRestoreEveryBlock :
    (after State.reset (.resetInput true true)).pins.resetLow = true ∧ State.reset.portReady
      ∧ State.reset.part.pins.resetLow = false ∧ (⟨[], 1⟩ : Tail) ≠ ⟨[], 0⟩ ∧ (⟨[0], 0⟩ : Tail) ≠ ⟨[], 0⟩
      ∧ State.working (st (after State.reset (.powerOn true)))
      ∧ (after State.reset (.powerOn true)).lpc.awaitRelease = true :=
  ⟨rfl, ⟨rfl, rfl⟩, rfl, by decide, by decide, rfl, rfl⟩

theorem witness_ErrorsOfTheBusFormCounted :
    State.reset.portReady ∧ (⟨[0], 0⟩ : Tail).bytes ≠ [] ∧ (⟨[], 1⟩ : Tail).bits ≠ 0
      ∧ (⟨[0, 0, 0], 0⟩ : Tail).bytes.length ≠ 4 ∧ (⟨[0, 0, 0, 0], 7⟩ : Tail).bits ≠ 0
      ∧ (⟨[0], 0⟩ : Tail).bytes.length < 2 ∧ 33 < (⟨List.replicate 34 0, 0⟩ : Tail).bytes.length
      ∧ (0x0E : Byte) ∉ [0x0A, 0x0B, 0x0C, 0x0D, 0x31, 0x32, 0x60, 0x50, 0x51] :=
  ⟨⟨rfl, rfl⟩, by decide⟩

theorem witness_LoadWritesWholeOrNotAtAll :
    ((st (loaded image4)).portReady ∧ (loaded image4).lpc.image.length = 58 ∧ (loaded image4).lpc.committed = false
        ∧ ¬ 58 < (57 : Byte).toNat + 1 ∧ 58 < (58 : Byte).toNat + 1 ∧ (26 : Byte).toNat + 32 ≤ 58)
      ∧ (st (served .watch)).portReady ∧ (served .watch).lpc.committed = true :=
  ⟨⟨⟨rfl, rfl⟩, by decide +kernel⟩, ⟨rfl, rfl⟩, rfl⟩

theorem witness_CommitRefusalNamesFirstFailure :
    ((st (served .watch)).portReady ∧ (served .watch).lpc.committed = true)
      ∧ (st (loaded image4Slow)).portReady ∧ (loaded image4Slow).lpc.committed = false
      ∧ validateImage image4Slow ≠ none := ⟨⟨⟨rfl, rfl⟩, rfl⟩, ⟨rfl, rfl⟩, rfl, by decide +kernel⟩

/-- The loaded part with the mains debounced present. -/
def loadedWithMains : Part := { loaded image4 with liu := { (loaded image4).liu with mains := .sampled true } }

theorem witness_CommitBringsIntoService :
    ∀ p ∈ [loaded image4, loadedWithMains],
      (st p).working ∧ p.lpc.awaitRelease = false ∧ p.lpc.committed = false ∧ p.lpc.image = image4
        ∧ p.rsq.state = .start ∧ p.liu.lockout = false ∧ p.liu.controller = none := by
  simp [st, loaded, loadedWithMains, State.working, State.reset, Part.reset, Pins.initial, Lpc.reset, Rsq.reset, Liu.reset]

theorem witness_CommitBringsIntoService_image : validateImage image4 = none := test_worked_commit_refusal.2.2

/-- A part in service that took its last tick of kind A. -/
def tickedA : Part := { served .watch with liu := { (served .watch).liu with lastKind := some .a } }

theorem witness_TickNotAccepted :
    ((st (loaded image4)).portReady ∧ (loaded image4).lpc.committed = false)
      ∧ ((st tickedA).portReady ∧ tickedA.lpc.committed = true ∧ tickedA.liu.lastKind = some .a
        ∧ (byteAt [0, 0, 0, 3] 3).toNat ≤ 3 ∧ 3 < (byteAt [0, 0, 0, 4] 3).toNat) :=
  ⟨⟨⟨rfl, rfl⟩, rfl⟩, ⟨rfl, rfl⟩, by decide +kernel⟩

/-- A part in VERIFY over a stalled lift. -/
def stalledVerify : Part := { served .verify with liu := { (served .verify).liu with stall := true, cancel := false } }

theorem witness_AcceptedTickLatched :
    (st tickedA).portReady ∧ tickedA.lpc.committed = true ∧ tickedA.liu.lastKind ≠ some .b
      ∧ ControllerState.ofCode (byteAt [0xEA, 0x60, 0xFF, 3] 3).toNat = some .service
      ∧ fieldAt2 [0xEA, 0x60, 0xFF, 3] 0 = 60000
      ∧ tickedA.liu.stall = false ∧ (after (st tickedA) (.tickB ⟨[0, 0, 0, 2], 0⟩)).liu.stall = true
      ∧ stalledVerify.liu.stall = true ∧ (after (st stalledVerify) (.tickA ⟨[0, 0, 0, 0], 0⟩)).liu.stall = false
      ∧ (served .probe).rsq.state ∈ [RescueState.probe, .level, .doors, .halted] :=
  ⟨⟨rfl, rfl⟩, by decide +kernel⟩

/-- A part whose heartbeat has expired, its mains present, waiting for a tick. -/
def unsupervised (s : RescueState) (a : AdmissionState) : Part :=
  { tickedA with
    rsq := { Rsq.reset with state := s, cause := if s == .blocked then .position else .none }
    adu := { Adu.reset with state := a }
    liu := { tickedA.liu with
             heartbeat := .expired, heartbeatTimer := .stopped, stall := true, cancel := false
             positionValid := s == .wait } }

theorem witness_AcceptedTickLatched_later_states :
    (∀ s ∈ [RescueState.parked, .blocked, .wait, .warn, .landed, .creep], ∀ a ∈ [AdmissionState.none, .queued, .claiming],
      (st (unsupervised s a)).portReady ∧ (unsupervised s a).lpc.committed = true
        ∧ (unsupervised s a).liu.lastKind ≠ some .b ∧ (unsupervised s a).lineAvailable = true
        ∧ (unsupervised s a).liu.cancel = false ∧ (unsupervised s a).liu.mains.level = true
        ∧ (unsupervised s a).adu.isHolder = false)
      ∧ ControllerState.ofCode (byteAt [0x20, 0xD0, 60, 0] 3).toNat = some .running
      ∧ ControllerState.ofCode (byteAt [0xEA, 0x61, 60, 2] 3).toNat = some .stalled
      ∧ 60000 < fieldAt2 [0xEA, 0x61, 60, 2] 0 ∧ fieldAt2 [0x20, 0xD0, 60, 0] 0 ≤ 60000
      ∧ (unsupervised .wait .queued).liu.positionValid = true ∧ (unsupervised .blocked .none).liu.positionValid = false
      ∧ (unsupervised .blocked .none).rsq.cause = .position := by
  unfold State.portReady State.working; decide +kernel

/-- Blocked with INFEASIBLE at a valid position: a latched load, or a flag, that changes clears it, and one that stands does not. -/
theorem witness_AcceptedTickLatched_infeasible :
    let p := { unsupervised .blocked .none with
      rsq := { Rsq.reset with state := .blocked, cause := .infeasible }
      liu := { (unsupervised .blocked .none).liu with positionValid := true, load := some 600 } }
    (st p).portReady ∧ p.lpc.committed = true ∧ p.liu.lastKind ≠ some .b ∧ p.adu.state ≠ .defer
      ∧ ControllerState.ofCode (byteAt [0x20, 0xD0, 61, 2] 3).toNat = some .stalled
      ∧ loadOfByte (byteAt [0x20, 0xD0, 61, 2] 2).toNat ≠ p.liu.load ∧ loadOfByte (byteAt [0x20, 0xD0, 60, 2] 2).toNat = p.liu.load
      ∧ 60000 < fieldAt2 [0xEA, 0x61, 60, 2] 0 := by
  unfold State.portReady State.working; decide +kernel

/-- A tick in WATCH over a stall indication that stands, in VERIFY over one that stands or is withdrawn, and in WARN with the cancel
condition newly holding. -/
theorem witness_AcceptedTickLatched_unchanged_and_ended :
    let watching := { tickedA with liu := { tickedA.liu with stall := true } }
    let verifying (s : Bool) := { stalledVerify with liu := { stalledVerify.liu with lastKind := some .a, stall := s } }
    let warned : Part := { unsupervised .warn .holder with anu := { Anu.reset with movingOwed := true } }
    (∀ p ∈ [watching, verifying true, verifying false, warned],
      (st p).portReady ∧ p.lpc.committed = true ∧ p.liu.lastKind ≠ some .b)
      ∧ watching.rsq.state = .watch ∧ (after (st watching) (.tickB ⟨[0, 0, 0, 2], 0⟩)).liu.stall = true
      ∧ (verifying true).rsq.state = .verify ∧ (verifying true).adu.isHolder = false ∧ (verifying true).liu.cancel = false
      ∧ (after (st (verifying true)) (.tickB ⟨[0, 0, 0, 2], 0⟩)).liu.stall = true
      ∧ (after (st (verifying true)) (.tickB ⟨[0, 0, 0, 0], 0⟩)).liu.stall = false
      ∧ (verifying false).liu.stall = false ∧ (after (st (verifying false)) (.tickB ⟨[0, 0, 0, 0], 0⟩)).liu.cancel = true
      ∧ warned.rsq.state = .warn ∧ warned.lineAvailable = true ∧ warned.liu.cancel = false
      ∧ (after (st warned) (.tickB ⟨[0, 0, 0, 0], 0⟩)).liu.cancel = true := by
  unfold State.portReady State.working; decide +kernel

/-- R19, R66: the tick that ends WARN leaves Release ABANDONED and then the Presence of WATCH in the queue. -/
theorem test_tick_ends_warn_with_release :
    (after (st (unsupervised .warn .holder)) (.tickB ⟨[0, 0, 0, 0], 0⟩)).fre.queue.map (·.frame) =
      [.release .abandoned 4,
        .presence 4 { code := 1, storeLimit := 36, draw := none, key := none, mismatch := false, solo := false }] := by
  decide +kernel

/-- A part in HALTED with its chain closed and its mains back. -/
def halted : Part := { served .halted with liu := { (served .halted).liu with chain := .sampled true } }

theorem witness_ResumeFollowsItsTable :
    (∀ p ∈ [served .blocked, served .landed, halted], (st p).portReady ∧ p.lpc.committed = true ∧ p.admissionFits
        ∧ p.liu.cancel = true) ∧ halted.liu.chain.level = true
      ∧ (st (served .wait)).portReady ∧ (st (served .halted)).portReady ∧ (served .halted).liu.chain.level = false := by
  unfold State.portReady State.working Part.admissionFits; decide +kernel

/-- R31: the cancel condition ends BLOCKED, and a RESUME in that same instant falls together with it; a sample period later it
does not. -/
theorem witness_ResumeFollowsItsTable_together :
    let p := { served .blocked with
      liu := { (served .blocked).liu with cancel := false, mains := { level := false, candidate := true, timer := .running 0 } } }
    let q := after (st p) (.debounceExpiry .mains)
    (st q).portReady ∧ q.rsq.state = .watch ∧ q.rsq.cancelCame = true ∧ q.elapse.rsq.cancelCame = false
      ∧ (st (served .watch)).portReady ∧ (served .watch).rsq.cancelCame = false := by
  unfold State.portReady State.working; decide +kernel

/-- R31, R155: a tick that makes the cancel condition hold ends BLOCKED, and a RESUME after it, a later transaction of the same
port, is refused in WATCH. -/
theorem test_resume_after_a_cancelling_tick_refused :
    let p := { unsupervised .blocked .none with
      rsq := { Rsq.reset with state := .blocked, cause := .line }
      liu := { (unsupervised .blocked .none).liu with lockout := true, stall := false } }
    let q := after (st p) (.tickB ⟨[0xEA, 0x61, 255, 0], 0⟩)
    q.rsq.state = .watch ∧ q.rsq.cancelCame = false ∧ q.liu.cancel = true := by decide +kernel

/-- R31, R147, R148: a STATUS read between the mains that end BLOCKED and the RESUME: the RESUME is later, and is refused in WATCH. -/
theorem test_resume_after_another_transaction_refused :
    let p := { served .watch with rsq := { (served .watch).rsq with cancelCame := true } }
    let q := after (st p) (.status ⟨[], 0⟩)
    (st p).portReady ∧ q.rsq.state = .watch ∧ q.rsq.cancelCame = false
      ∧ (after (st q) (.resume ⟨[], 0⟩)).lpc.lastResult = .resumeRefused := by
  unfold State.portReady State.working; decide +kernel

theorem witness_StatusReadsSnapshot : State.reset.portReady := ⟨rfl, rfl⟩

/-- A record of node 9. -/
def record9 : PeerRecord := { PeerRecord.blank 9 with sEcho := some 36, age := 3 }

/-- A part in service whose view holds node 9. -/
def viewing (r : PeerRecord) : Part := { served .watch with pvw := { (served .watch).pvw with records := [r] } }

theorem witness_ViewReadsPeerRecord :
    (st (viewing record9)).portReady ∧ (viewing record9).pvw.records.length ≤ (1 : Byte).toNat ∧ 14 < (15 : Byte).toNat
      ∧ (0 : Byte).toNat ≤ 14 ∧ (viewing record9).pvw.records[(0 : Byte).toNat]? = some record9 :=
  ⟨⟨rfl, rfl⟩, by decide +kernel⟩

/-- A loopback test under way. -/
def looping : Part := after (st (loaded image4)) (.loopback ⟨[], 0⟩)

theorem witness_LoopbackTestStartsAndEnds :
    ((st (loaded image4)).portReady ∧ (loaded image4).lpc.committed = false ∧ (loaded image4).lif.loopRun = none)
      ∧ (st (served .watch)).portReady ∧ (served .watch).lpc.committed = true
      ∧ (st looping).portReady ∧ looping.lpc.committed = false
      ∧ looping.lif.loopRun = some { sent := loopbackFrame image4, rx := .empty }
      ∧ (loopbackFrame image4).length = 6
      ∧ byteAt (loopbackFrame image4) 5 = crc ((loopbackFrame image4).take 5) := by
  unfold State.portReady State.working; decide +kernel

theorem witness_HeartbeatExpires :
    ∀ r ∈ [RescueState.watch, .warn], (st (served r)).inService
      ∧ (st (served r)).expires .heartbeatExpiry (served r).liu.heartbeatTimer
      ∧ (served r).liu.stall = false ∧ (served r).liu.lockout = false := by
  unfold State.inService State.working State.expires; decide +kernel

/-- R124: a tick is accepted at the sample at which the heartbeat timer's expiry has been queued. -/
theorem witness_HeartbeatExpires_tick_first :
    let s : State := { st tickedA with announced := [.heartbeatExpiry] }
    s.portReady ∧ tickedA.lpc.committed = true ∧ (byteAt [0x20, 0xD0, 60, 0] 3).toNat ≤ 3 ∧ tickedA.liu.lastKind ≠ some .b
      ∧ tickedA.liu.heartbeatTimer = .running 0 ∧ 0 < tickedA.settings.heartbeatTime ∧ .heartbeatExpiry ∈ s.announced := by
  unfold State.portReady State.working; decide +kernel

/-- R124: the tick is taken first and the expiry has no effect; without the tick it makes the heartbeat EXPIRED. -/
theorem test_tick_before_the_queued_heartbeat_expiry :
    let s : State := { st tickedA with announced := [.heartbeatExpiry] }
    (after { s with part := after s (.tickB ⟨[0x20, 0xD0, 60, 0], 0⟩) } .heartbeatExpiry).liu.heartbeat = .healthy
      ∧ (after s .heartbeatExpiry).liu.heartbeat = .expired := by decide +kernel

theorem witness_EncoderStepCounts :
    (st (served .level)).working ∧ (served .level).rsq.state ≠ .probe ∧ (served .level).rsq.state ≠ .creep
      ∧ (served .level).liu.encoder = (false, false) ∧ pairUp (false, false) = (true, false)
      ∧ pairDown (false, false) = (false, true) := by
  unfold State.working; decide +kernel

/-- A part in service whose position is valid. -/
def positioned (s : RescueState) : Part := { served s with liu := { (served s).liu with positionValid := true } }

theorem witness_IllegalTransitionInvalidates :
    (st (positioned .wait)).inService ∧ (positioned .wait).liu.positionValid = true
      ∧ (st (positioned .creep)).inService ∧ (positioned .creep).rsq.state ≠ .wait
      ∧ (positioned .creep).rsq.state ≠ .blocked := by
  unfold State.inService State.working; decide +kernel

theorem witness_IllegalTransitionInvalidates_waiting_claim_and_block :
    let blocked := { positioned .blocked with rsq := { Rsq.reset with state := .blocked, cause := .infeasible } }
    (positioned .wait).adu.isHolder = false ∧ (st blocked).inService ∧ blocked.rsq.cause = .infeasible
      ∧ blocked.liu.positionValid = true ∧ blocked.adu.state ≠ .defer ∧ (served .wait).liu.positionValid = false := by
  unfold State.inService State.working; decide +kernel

theorem witness_PinSampleMovesCandidate :
    State.reset.working ∧ (State.reset.part.liu.input .chain).candidate = false
      ∧ .debounceExpiry .chain ∈ ({ State.reset with announced := [.debounceExpiry .chain] } : State).announced :=
  ⟨rfl, rfl, by decide +kernel⟩

/-- A part in service one of whose inputs is about to move from a level. -/
def moving (s : RescueState) (i : Input) (level : Bool) : Part :=
  { served s with
    rsq := { (served s).rsq with brakeSeen := true }
    liu := (served s).liu.setInput i { level := level, candidate := !level, timer := .running 0 } }

theorem witness_DebouncedLevelChanges :
    (∀ s ∈ [RescueState.probe, .creep, .level, .blocked, .parked, .doors, .landed, .halted, .wait, .warn],
      ∀ i ∈ [Input.chain, .doorZone, .doorsOpen, .brakeFeedback], ∀ level ∈ [true, false],
        (st (moving s i level)).inService
          ∧ (st (moving s i level)).expires (.debounceExpiry i) ((moving s i level).liu.input i).timer
          ∧ ((moving s i level).liu.input i).level = level ∧ ((moving s i level).liu.input i).candidate = !level
          ∧ (moving s i level).rsq.brakeSeen = true) := by
  unfold State.inService State.working State.expires; decide +kernel

/-- R130: the pin changes at the sample at which its stability timer's expiry has been queued: the level stands. -/
theorem test_pin_change_before_the_queued_debounce_expiry :
    let s : State := { st (moving .watch .chain true) with announced := [.debounceExpiry .chain] }
    (after { s with part := after s (.inputPinChange .chain true) } (.debounceExpiry .chain)).liu.chain.level = true
      ∧ (after s (.debounceExpiry .chain)).liu.chain.level = false := by decide +kernel

theorem witness_DebouncedLevelChanges_unchanged_and_landing :
    let same := { served .wait with liu := (served .wait).liu.setInput .chain { (served .wait).liu.chain with timer := .running 0 } }
    let open_ := { moving .doors .doorsOpen false with liu := { (moving .doors .doorsOpen false).liu with cancel := false } }
    (same.liu.input .chain).candidate = (same.liu.input .chain).level
      ∧ (st same).expires (.debounceExpiry .chain) (same.liu.input .chain).timer
      ∧ open_.liu.cancel = false ∧ (open_.liu.input .doorsOpen).candidate = true ∧ open_.rsq.state = .doors := by
  unfold State.expires; decide +kernel

/-- R29, R66: doors found open leave Release LANDED and then the Presence with code 7 in the queue. -/
theorem test_doors_open_lands_with_release :
    let p := { moving .doors .doorsOpen false with
      adu := { Adu.reset with state := .holder, heldDraw := 15, admittedDraw := 15 }
      liu := { (moving .doors .doorsOpen false).liu with cancel := false } }
    (after (st p) (.debounceExpiry .doorsOpen)).rsq.state = .landed
      ∧ (after (st p) (.debounceExpiry .doorsOpen)).fre.queue.map (·.frame) =
        [.release .landed 4,
          .presence 4 { code := 7, storeLimit := 36, draw := none, key := none, mismatch := false, solo := false }] := by
  decide +kernel

/-- A part whose mains are about to come back, in a state that the cancel condition ends, or about to fail in WATCH. -/
def mainsMoving (s : RescueState) (a : AdmissionState) (level : Bool) : Part :=
  { served s with
    adu := { Adu.reset with state := a }
    liu := { (served s).liu with
             stall := !level, cancel := level, mains := { level := level, candidate := !level, timer := .running 0 } } }

theorem witness_DebouncedLevelChanges_mains_chain_and_zone :
    (∀ s ∈ [RescueState.parked, .blocked, .landed, .wait, .warn, .verify], ∀ a ∈ [AdmissionState.none, .defer, .claiming, .holder],
      (st (mainsMoving s a false)).inService
        ∧ (st (mainsMoving s a false)).expires (.debounceExpiry .mains) ((mainsMoving s a false).liu.input .mains).timer
        ∧ (mainsMoving s a false).liu.stall = true ∧ (mainsMoving s a false).liu.cancel = false
        ∧ (s ∉ [RescueState.blocked, .wait] → (after (st (mainsMoving s a false)) (.debounceExpiry .mains)).liu.cancel = true
            ∧ (after (st (mainsMoving s a false)) (.debounceExpiry .mains)).liu.stall = false))
      ∧ (mainsMoving .watch .none true).liu.stall = false
      ∧ (after (st (mainsMoving .watch .none true)) (.debounceExpiry .mains)).liu.stall = true
      ∧ ((moving .wait .chain true).liu.input .chain).level = true ∧ (moving .warn .chain true).rsq.state = .warn
      ∧ (let p := { moving .blocked .chain false with rsq := { Rsq.reset with state := .blocked, cause := .chain } }
         p.rsq.cause = .chain ∧ (p.liu.input .chain).candidate = true ∧ p.adu.state = .none ∧ p.lineAvailable = true)
      ∧ ((moving .creep .doorZone true).liu.input .doorZone).candidate ≠ ((moving .creep .doorZone true).liu.input .doorZone).level
      ∧ (served .wait).liu.heartbeat ≠ .unsupervised := by
  unfold State.inService State.working State.expires; decide +kernel

/-- A part in VERIFY with its timer about to expire: the car at a position, its load, the line, the chain. -/
def verifying (position : Nat) (load : Option Nat) (line : LineState) (chain : Bool) : Part :=
  { stalledVerify with
    rsq := { Rsq.reset with state := .verify, verifyTimer := .running 0 }
    lif := { Lif.reset with lineState := line }
    liu := { stalledVerify.liu with position := position, positionValid := true, load := load, chain := .sampled chain } }

/-- The worked entrance of chapter 1: node 4 between 8400 and 16800 with a load of 600 kg plans 15 units, key 0x70C4F4. -/
theorem test_worked_plan_of_node_4 :
    let p := verifying 9000 (some 600) .idle true
    (p.settings.makePlan p.planInputs).key = some 0x70C4F4 ∧ (p.settings.makePlan p.planInputs).draw = 15
      ∧ (p.settings.makePlan p.planInputs).kind = .motion := by decide +kernel

theorem witness_VerifyDecidesTheCase :
    (∀ p ∈ [verifying 9000 (some 600) .idle true, verifying 9000 (some 600) .lost true,
        verifying 9000 (some 600) .idle false, verifying 8400 none .lost true],
      (st p).inService ∧ p.rsq.state = .verify ∧ (st p).expires .verifyTimerExpiry p.rsq.verifyTimer ∧ p.adu.state = .none
        ∧ ¬ (p.liu.doorZone.level = true ∧ p.liu.doorsOpen.level = true))
      ∧ (verifying 9000 (some 600) .idle true).lineAvailable = true
      ∧ (verifying 9000 (some 600) .lost true).lineAvailable = false
      ∧ (verifying 9000 (some 600) .lost true).settings.soloAllowance
          < ((verifying 9000 (some 600) .lost true).settings.makePlan (verifying 9000 (some 600) .lost true).planInputs).draw
      ∧ (verifying 9000 (some 600) .idle false).liu.chain.level = false := by
  unfold State.inService State.working State.expires; decide +kernel

theorem witness_VerifyDecidesTheCase_by_cause :
    let zone := { verifying 8400 none .idle true with
      liu := { (verifying 8400 none .idle true).liu with doorZone := .sampled true, doorsOpen := .sampled true } }
    let lostCount := { verifying 9000 none .idle true with
      liu := { (verifying 9000 none .idle true).liu with positionValid := false } }
    let short := { verifying 9000 (some 600) .idle true with pvw := { Pvw.reset with sEff := some 14 } }
    let alone := verifying 8400 (some 600) .lost true
    (zone.liu.doorZone.level = true ∧ zone.liu.doorsOpen.level = true)
      ∧ (lostCount.settings.makePlan lostCount.planInputs).blockCause = .position
      ∧ (short.settings.makePlan short.planInputs).blockCause = .infeasible
      ∧ (alone.settings.makePlan alone.planInputs).draw ≤ alone.settings.soloAllowance
      ∧ deferralAnswer (some 0x70C4F4) [{ record9 with stateCode := 5, key := some 0x70C4F3 }] = true
      ∧ deferralAnswer (some 0x70C4F4) [{ record9 with stateCode := 5, key := some 0x70C4F4 }] = false := by
  decide +kernel

/-- Without the line and within the solo allowance: on a zone plan to DOORS, on a motion plan to WARN (R16). -/
theorem witness_VerifyDecidesTheCase_solo :
    let alone (position : Nat) := { verifying position (some 600) .lost true with
      lpc := { (verifying position (some 600) .lost true).lpc with image := writeBytes 3 [0x00, 0x0F] image4 } }
    (∀ position ∈ [8400, 9000], (st (alone position)).inService ∧ (alone position).adu.state = .none
        ∧ (alone position).lineAvailable = false
        ∧ ((alone position).settings.makePlan (alone position).planInputs).draw ≤ (alone position).settings.soloAllowance
        ∧ ((alone position).settings.makePlan (alone position).planInputs).blockCause = .none)
      ∧ (after (st (alone 8400)) .verifyTimerExpiry).rsq.state = .doors
      ∧ (after (st (alone 9000)) .verifyTimerExpiry).rsq.state = .warn
      ∧ (after (st (alone 9000)) .verifyTimerExpiry).rsq.gateTimer = .running 750000 := by
  unfold State.inService State.working; decide +kernel

/-- A holder in a state of an admitted rescue. -/
def holding (s : RescueState) : Part :=
  { positioned s with
    adu := { Adu.reset with state := .holder, heldDraw := 15, admittedDraw := 15 }
    pcu := { Pcu.reset with
             plan := (Settings.ofImage image4).makePlan
               { inputs5 with position := 9000, load := some 600, sEff := 36, lastReleased := 15 } }
    rsq := { Rsq.reset with
             state := s, gateTimer := .running 0, brakeTimer := .running 0, levelTimer := .running 0
             standstillTimer := .running 0, doorTimer := .running 0, progressTimer := .running 0
             speedTimer := .running 0, probePulses := 19 } }

theorem witness_ProbeRaceEnds :
    (st (holding .probe)).inService ∧ (holding .probe).rsq.state = .probe ∧ (holding .probe).admissionFits
      ∧ (holding .probe).settings.probeTravel ≤ (holding .probe).rsq.probePulses + 1
      ∧ (served .probe).rsq.probePulses + 1 < (served .probe).settings.probeTravel := by
  unfold State.inService State.working Part.admissionFits; decide +kernel

/-- A race whose window counter is about to reach its limit, or that has been begun again, at a sample at which the clock has queued
the end of the window. -/
def racing (left : Nat) : State :=
  { st { holding .probe with rsq := { (holding .probe).rsq with probeTick := .running left } } with
    announced := [.probeWindowExpiry] }

theorem witness_ProbeRaceEnds_queued_end :
    ∀ left ∈ [0, 1, 2500], (racing left).inService ∧ (racing left).part.rsq.state = .probe ∧ (racing left).part.admissionFits
      ∧ (racing left).part.rsq.probeTick = .running left ∧ .probeWindowExpiry ∈ (racing left).announced := by
  unfold State.inService State.working Part.admissionFits; decide +kernel

/-- R20: the window's end belongs to the race in which it was reached. -/
theorem test_queued_window_end_and_a_race_begun_again :
    (after (racing 0) .probeWindowExpiry).rsq.state ≠ .probe ∧ (after (racing 2500) .probeWindowExpiry).rsq.state = .probe := by
  decide +kernel

theorem witness_ProbeReplanTable :
    let plan := lift5.makePlan inputs5
    plan.direction = some .down ∧ lift5.candidate 12170 .up = none
      ∧ ({ lift5 with landings := [{ level := 21600, eligible := true }] } : Settings).candidate 12170 .up
        = some { index := 1, level := 21600 }
      ∧ plan.basis = .against ∧ lift5.motor lift5.balanceBand ≤ plan.motorDraw ∧ plan.motorDraw < lift5.motor 221 := by
  decide +kernel

/-- A part in CREEP just below its target, in the door zone. -/
def arriving : Part :=
  { holding .creep with
    liu := { (holding .creep).liu with position := 8476, doorZone := .sampled true } }

theorem witness_CreepStepSupervised :
    (st (holding .creep)).inService ∧ (holding .creep).rsq.state = .creep
      ∧ (holding .creep).pcu.plan.direction = some .down
      ∧ (st arriving).inService ∧ arriving.rsq.state = .creep
      ∧ ({ arriving with liu := { arriving.liu with position := 8475 } } : Part).creepFailures = [CreepEnd.arrival]
      ∧ arriving.creepFailures = []
      ∧ ({ arriving with liu := { arriving.liu with position := 8324 } } : Part).creepFailures
        = [CreepEnd.failure .overrun] := by
  unfold State.inService State.working; decide +kernel

theorem witness_CreepWindowsAndStateTimersExpire :
    ∀ s ∈ [RescueState.warn, .creep, .level, .doors],
      (st (holding s)).inService ∧ (holding s).rsq.state = s
        ∧ (∀ e ∈ [((holding s).rsq.gateTimer, Instr.gateFallbackExpiry), ((holding s).rsq.brakeTimer, .brakeTimerExpiry),
            ((holding s).rsq.progressTimer, .progressWindowEnd), ((holding s).rsq.speedTimer, .speedWindowEnd),
            ((holding s).rsq.levelTimer, .levelTimerExpiry), ((holding s).rsq.standstillTimer, .standstillExpiry),
            ((holding s).rsq.doorTimer, .doorTimerExpiry)], (st (holding s)).expires e.2 e.1)
        ∧ (holding s).rsq.voiceUnavailable = false ∧ (holding s).rsq.brakeSeen = false
        ∧ (holding s).rsq.progressNet < (holding s).settings.minProgress := by
  unfold State.inService State.working State.expires; decide +kernel

theorem witness_CreepWindowsAndStateTimersExpire_other_clauses :
    let p := { holding .creep with
      rsq := { (holding .creep).rsq with voiceUnavailable := true, brakeSeen := true, progressNet := 60 } }
    p.rsq.voiceUnavailable = true ∧ p.rsq.brakeSeen = true ∧ (p.settings.minProgress : Int) ≤ p.rsq.progressNet := by
  decide +kernel

theorem witness_PlanFollowsItsSteps :
    inputs5.valid = true ∧ lift5.zoneLanding 12150 = none ∧ inputs5.load = some 180
      ∧ lift5.candidate 12150 .up = none ∧ lift5.candidate 12150 .down = some { index := 2, level := 8400 }
      ∧ lift5.zoneLanding 8475 = some { index := 2, level := 8400 } ∧ lift5.zoneLanding 8476 = none := by decide +kernel

/-- R37, R38: halfway between the landings at 0 and 8400 the nearest candidate is the lower one, just above it the upper; the
third landing is not eligible. -/
theorem witness_PlanFollowsItsSteps_landings :
    lift5.candidate 4200 .down = some { index := 1, level := 0 } ∧ lift5.candidate 4200 .up = some { index := 2, level := 8400 }
      ∧ lift5.eitherCandidate 4200 = some (.down, { index := 1, level := 0 })
      ∧ lift5.eitherCandidate 4201 = some (.up, { index := 2, level := 8400 })
      ∧ lift5.candidate 76 .up = some { index := 2, level := 8400 } ∧ lift5.candidate 75 .down = none
      ∧ lift5.eitherCandidate 12150 = some (.down, { index := 2, level := 8400 })
      ∧ (lift5.makePlan { inputs5 with position := 4201, load := none }).direction = some .up := by decide +kernel

/-- A part in WAIT with an admission state, its plan made, its timers about to expire, after 59 s of waiting. -/
def waiting (s : AdmissionState) (line : LineState) : Part :=
  { positioned .wait with
    lif := { Lif.reset with lineState := line }
    adu := { Adu.reset with state := s, retryTimer := .running 0, deferralTimer := .running 0, stuckTimer := .running 0 }
    pcu := { (holding .wait).pcu with waitTimer := .running 0, waitSeconds := 59 } }

theorem witness_WaitSecondCounts :
    ∀ a ∈ [AdmissionState.queued, .claiming, .defer, .none],
      (st (waiting a .idle)).working ∧ (st (waiting a .idle)).expires .waitSecondsTimerExpiry (waiting a .idle).pcu.waitTimer
        ∧ min 7 ((waiting a .idle).pcu.waitSeconds / 60) ≠ min 7 (((waiting a .idle).pcu.waitSeconds + 1) / 60)
        ∧ (waiting a .idle).rsq.state = .wait ∧ (waiting a .idle).pcu.plan.key ≠ none
        ∧ (waiting a .idle).pvw.deferral = false := by
  unfold State.working State.expires; decide +kernel

theorem witness_WaitSecondCounts_other_clauses :
    let p := { waiting .defer .idle with
      pvw := { (waiting .defer .idle).pvw with
               deferral := true, records := [{ record9 with stateCode := 5, key := some 0x70C4F3 }] } }
    p.adu.state = .defer ∧ p.pvw.deferral = true ∧ p.lineAvailable = true
      ∧ deferralAnswer (some (composeKey p.pcu.plan.occupied 60 p.pcu.plan.timeUnits p.settings.node p.pvw.lastReleased
          p.pcu.refusals)) p.pvw.records = false
      ∧ min 7 ((58 + 1) / 60) = min 7 (58 / 60) ∧ min 65535 (65535 + 1) = 65535 := by
  decide +kernel

theorem witness_AdmissionAndLineTimersExpire :
    (∀ a ∈ [AdmissionState.queued, .defer], ∀ l ∈ [LineState.idle, .lost, .stuck],
      (st (waiting a l)).inService ∧ (waiting a l).rsq.state = .wait
        ∧ (waiting a l).pcu.plan.key = some 0x70C4F4
        ∧ (∀ e ∈ [((waiting a l).adu.retryTimer, Instr.retryTimerExpiry), ((waiting a l).adu.deferralTimer, .deferralLimitExpiry),
            ((waiting a l).adu.stuckTimer, .lineStuckTimerExpiry)], (st (waiting a l)).expires e.2 e.1)
        ∧ (waiting a l).settings.soloAllowance < (waiting a l).pcu.plan.draw)
      ∧ (waiting .defer .idle).lineAvailable = true ∧ (waiting .defer .lost).lineAvailable = false := by
  unfold State.inService State.working State.expires; decide +kernel

theorem witness_AdmissionAndLineTimersExpire_solo_and_kept :
    let p := { waiting .defer .lost with lpc := { (waiting .defer .lost).lpc with image := writeBytes 3 [0x00, 0x0F] image4 } }
    p.lineAvailable = false ∧ p.pcu.plan.draw ≤ p.settings.soloAllowance ∧ p.pcu.plan.kind = .motion
      ∧ deferralAnswer (some 0x70C4F4) [{ record9 with stateCode := 5, key := some 0x70C4F3 }] = true
      ∧ (p.settings.makePlan { p.planInputs with position := 8400 }).kind = .zone
      ∧ (p.settings.makePlan { p.planInputs with position := 8400 }).draw ≤ p.settings.soloAllowance
      ∧ p.liu.doorsOpen.level = false := by
  decide +kernel

theorem witness_RecordsAge :
    (∀ age ∈ [3, 29], ∀ clock ∈ [249999, 250000],
      (st (viewing { record9 with age := age, ageClock := clock })).working
        ∧ (viewing { record9 with age := age, ageClock := clock }).recordsFit
        ∧ recordOf 9 (viewing { record9 with age := age, ageClock := clock }).pvw.records
          = some { record9 with age := age, ageClock := clock }
        ∧ (viewing record9).adu.state ≠ .defer)
      ∧ ({ record9 with age := 0 } : PeerRecord).age ≠ 3 ∧ record9.age ≠ 29 := by
  unfold State.working Part.recordsFit; decide +kernel

/-- A waiting part whose view holds node 9 with an S echo of 30 and node 12 with one of 10, whose record is about to become
stale, after 59 s of waiting with a claim of 15 units. -/
def ageing (s : AdmissionState) (limit : Nat) (records : List PeerRecord) : Part :=
  { waiting s .idle with pvw := { (waiting s .idle).pvw with sEff := some limit, records := records, deferral := true } }

/-- The record whose fourth second is complete. -/
def leaving : PeerRecord := { record9 with sEcho := some 12, stateCode := 5, key := some 0x70C4F3, ageClock := 250000 }

/-- Node 12, fresh, with an S echo of 14. -/
def other : PeerRecord := { PeerRecord.blank 12 with sEcho := some 14 }

/-- The same part blocked with INFEASIBLE. -/
def infeasible : Part :=
  { ageing .none 12 [leaving, other] with rsq := { Rsq.reset with state := .blocked, cause := .infeasible } }

theorem witness_RecordsAge_limit_and_deferral :
    (∀ s ∈ [AdmissionState.queued, .claiming, .defer], ∀ p, p = ageing s 12 [leaving, other] →
      (st p).working ∧ p.lpc.committed = true ∧ p.recordsFit ∧ recordOf 9 p.pvw.records = some leaving
        ∧ p.rsq.state = .wait ∧ p.adu.isHolder = false ∧ p.pvw.sEff = some 12 ∧ 14 < p.pcu.plan.draw)
      ∧ (leaving.age = 3 ∧ 250000 ≤ leaving.ageClock)
      ∧ (infeasible.adu.state ≠ .defer ∧ infeasible.rsq.cause = .infeasible ∧ infeasible.rsq.state = .blocked)
      ∧ (let p := ageing .defer 36 [leaving]
         p.pcu.plan.draw ≤ 36 ∧ p.pvw.deferral = true ∧ deferralAnswer p.pcu.plan.key [leaving] = true
           ∧ deferralAnswer p.pcu.plan.key [{ leaving with age := 4 }] = false) := by
  simp only [forall_eq]
  unfold State.working Part.recordsFit; decide +kernel

/-- With node 9's record stale S_eff is the 14 of node 12, a new value beyond which the claim of 15 lies; without node 12 it is
the node's own 36. -/
theorem witness_RecordsAge_new_limit :
    (∀ p ∈ [ageing .queued 12 [leaving, other], ageing .claiming 12 [leaving, other], ageing .defer 12 [leaving, other], infeasible],
      (p.recordReachesStale 9).pvw.sEff = some 14)
      ∧ ((ageing .defer 36 [leaving]).recordReachesStale 9).pvw.sEff = some 36 := by
  refine ⟨?_, ?_⟩
  · simp only [List.forall_mem_cons, List.not_mem_nil, false_implies, implies_true, and_true]
    refine ⟨?_, ?_, ?_, ?_⟩ <;>
      (rw [Part.recordReachesStale_sEff (r := leaving) (by decide +kernel) (by decide +kernel)]; decide +kernel)
  · rw [Part.recordReachesStale_sEff (r := leaving) (by decide +kernel) (by decide +kernel)]; decide +kernel

/-- A part in service in a frame whose data end has passed, with a valid frame. -/
def hearing (f : Frame) : Part :=
  { viewing record9 with
    lif := { Lif.reset with samples := 48, traffic := true, lineState := .busy }
    fre := { (served .watch).fre with phase := .frame, role := .receiver, valid := some f } }

theorem witness_PeerFrameUpdatesRecord :
    ∀ f ∈ [Frame.release .landed 9, .adjust 9 7,
        .presence 9 { code := 5, storeLimit := 30, draw := none, key := none, mismatch := false, solo := false }],
      ((st (hearing f)).working ∧ (hearing f).lif.loopRun = none) ∧ (hearing f).lpc.committed = true
        ∧ (hearing f).recordsFit ∧ (hearing f).rsq.state ≠ .wait ∧ (hearing f).rsq.state ≠ .blocked
        ∧ (hearing f).adu.state = .none ∧ (hearing f).lif.traffic = true ∧ (hearing f).lif.filtered = false
        ∧ 48 ≤ (hearing f).lif.samples ∧ (hearing f).lif.lineState = .busy ∧ (hearing f).fre.phase = .frame
        ∧ (hearing f).fre.role = .receiver ∧ (hearing f).fre.valid = some f ∧ (hearing f).fre.report = none
        ∧ (hearing f).lif.retry = .none ∧ f.kind ≠ .claim
        ∧ f.node ≠ (hearing f).settings.node := by
  unfold State.working Part.recordsFit; decide +kernel

/-- The same with a claim waiting: a PRESENCE with an S below the draw of 15, or at it, and a RELEASE or an ADJUST, of a node that
the view holds fresh and that has not released last. -/
theorem witness_PeerFrameUpdatesRecord_waiting :
    (∀ a ∈ [AdmissionState.defer, .queued, .claiming, .none],
      ∀ f ∈ [Frame.release .landed 9, .adjust 9 7,
        .presence 9 { code := 5, storeLimit := 14, draw := none, key := none, mismatch := false, solo := false },
        .presence 9 { code := 5, storeLimit := 15, draw := none, key := none, mismatch := false, solo := false }],
      ∀ p, p = { waiting a .busy with pvw := (hearing f).pvw, lif := (hearing f).lif, fre := (hearing f).fre } →
      (p.pins.resetLow = false ∧ p.lif.loopRun = none) ∧ p.lpc.committed = true ∧ p.recordsFit ∧ p.fre.inFlight = none
        ∧ p.fre.valid = some f ∧ p.fre.report = none ∧ p.lif.retry = .none ∧ p.rsq.state = .wait ∧ p.adu.isHolder = false
        ∧ isStale f.node p.pvw.records = false ∧ f.node ≠ p.pvw.lastReleased ∧ p.pcu.plan.key = some 0x70C4F4
        ∧ p.pcu.plan.draw = 15 ∧ p.settings.soloAllowance < 15
        ∧ p.pvw.deferral = deferralAnswer p.pcu.plan.key p.pvw.records)
      ∧ (Frame.release .landed 9).kind = .release ∧ (Frame.adjust 9 7).kind = .adjust
      ∧ ({ (hearing (.adjust 9 7)).lif with lineState := .idle } : Lif).lineState ≠ .lost := by
  simp only [forall_eq]
  unfold Part.recordsFit; decide +kernel

/-- A listener at the frame end of node 5's window: clean over a list, or spoiled. -/
def judging (phase : ReceivePhase) (list : List (Node × Nat)) : Part :=
  { viewing record9 with
    pvw := { (viewing record9).pvw with claim := some (5, 12) }
    lif := { Lif.reset with samples := 48, traffic := true, lineState := .busy }
    fre := { Fre.reset with
             phase := phase, role := .listener, list := list, claimant := some (5, 12)
             windowAbandoned := phase == .discard } }

theorem witness_PeerFrameUpdatesRecord_window :
    (∀ p ∈ [judging .window [(1, 14), (9, 10)], judging .window [(1, 14), (9, 11)], judging .discard [(1, 14)]],
      ((st p).working ∧ p.lif.loopRun = none) ∧ p.lpc.committed = true ∧ p.recordsFit ∧ p.rsq.state ≠ .wait
        ∧ p.rsq.state ≠ .blocked ∧ p.adu.state = .none ∧ p.lif.traffic = true ∧ p.lif.filtered = false
        ∧ 48 ≤ p.lif.samples ∧ p.lif.lineState = .busy ∧ p.fre.report = none ∧ p.lif.retry = .none
        ∧ (5 : Node) ≠ p.settings.node ∧ p.fre.role = .listener ∧ p.fre.claimant = some (5, 12)
        ∧ p.pvw.claim = some (5, 12) ∧ p.fre.inResponse = false
        ∧ (p.fre.list.Pairwise (fun a b => a.1.toNat < b.1.toNat) ∧ ∀ e ∈ p.fre.list, e.1 ≠ 5))
      ∧ 12 + ([((1 : Node), 14), (9, 10)].map (·.2)).sum = (judging .window []).pvw.sEff.getD 0
      ∧ 12 + ([((1 : Node), 14), (9, 11)].map (·.2)).sum = (judging .window []).pvw.sEff.getD 0 + 1
      ∧ (judging .discard []).fre.windowAbandoned = true := by
  unfold State.working Part.recordsFit; decide +kernel

/-- A queue of a Claim and a Presence. -/
def queue : List Entry :=
  [{ frame := .claim 0x70C4F4 15, attempts := 7 },
    { frame := .presence 4 { code := 5, storeLimit := 36, draw := none, key := some 0x70C4F4, mismatch := false,
                             solo := false }, attempts := 0 }]

theorem witness_OfferKeepsOneEntryPerKind :
    queue.Pairwise (fun a b => a.frame.kind.rank < b.frame.kind.rank)
      ∧ ({ Fre.reset with queue := queue } : Fre).inFlight = none
      ∧ (Frame.release .landed 4).kind = .release
      ∧ ({ Fre.reset with inFlight := some { kind := .adjust, held := none } } : Fre).inFlight
          = some { kind := (Frame.adjust 4 7).kind, held := none }
      ∧ (Frame.adjust 4 7).kind ≠ .release := by decide +kernel

/-- The Claim of the queue in flight, beside what is offered: a RELEASE, its own kind, another kind. -/
theorem witness_OfferKeepsOneEntryPerKind_in_flight :
    let flying : Fre := { Fre.reset with queue := queue, inFlight := some { kind := .claim, held := none } }
    queue.Pairwise (fun a b => a.frame.kind.rank < b.frame.kind.rank)
      ∧ flying.inFlight = some { kind := .claim, held := none } ∧ (Frame.claim 0x70C4F3 15).kind = .claim
      ∧ (Frame.adjust 4 7).kind ≠ .claim ∧ (Frame.release .abandoned 4).kind = .release := by decide +kernel

/-- R92: a RELEASE offered while the Claim is in flight joins the queue at once, and the Claim leaves it when its attempt ends. -/
theorem test_release_offered_over_a_claim_in_flight :
    let flying : Fre := { Fre.reset with queue := queue, inFlight := some { kind := .claim, held := none } }
    (flying.offer (.release .abandoned 4)).queue.map (·.frame.kind) = [.release, .claim, .presence]
      ∧ (flying.offer (.release .abandoned 4)).inFlight = some { kind := .claim, held := some .remove }
      ∧ (applyHeld .claim (some .remove) queue).map (·.frame.kind) = [.presence] := by decide +kernel

theorem witness_SentFramePassesItsTests :
    (Frame.claim 0xFFFFFF 255).inRange = true ∧ (Frame.adjust 15 1).inRange = true
      ∧ (Frame.release .replan 0).inRange = true := by decide +kernel

theorem witness_PlanKeyFields : (lift5.makePlan inputs5).key = some 0x7172F5 := test_worked_plan_against.1

theorem witness_PlanKeyFields_recomputed :
    (waiting .queued .idle).rekeyedPlan.key = some 0x70C4F4 ∧ 3 ≤ (waiting .queued .idle).pcu.plan.timeUnits
      ∧ (waiting .queued .idle).pcu.plan.timeUnits ≤ 255 ∧ 5 ≤ (waiting .queued .idle).settings.fixedTime := by decide +kernel

theorem witness_PortRecordsLayout :
    (served .wait).pcu.plan.draw < 65536 ∧ (served .wait).pvw.sEff.getD 0 < 65536 ∧ (served .wait).liu.position < 65536
      ∧ record9.sEcho.getD 0 < 65536 := by decide +kernel

theorem witness_CheckByteIsPolynomialRemainder : validateImage image4 = none := test_worked_commit_refusal.2.2

theorem witness_PresenceTimerOffers :
    ∀ s ∈ [RescueState.watch, .parked], (st (served s)).inService
      ∧ (st (served s)).expires .presenceTimerExpiry (served s).fre.presenceTimer
      ∧ (served s).rsq.state.presenceCode ≠ none := by
  unfold State.inService State.working State.expires; decide +kernel

/-- A part in WAIT, a Claim first in its queue, the line idle. -/
def claiming : Part := { waiting .queued .idle with fre := { Fre.reset with queue := queue } }

theorem witness_AttemptStartsOnIdleLine :
    (st claiming).working ∧ claiming.fre.queue = queue ∧ claiming.fre.duplicate = false ∧ claiming.fre.inFlight = none
      ∧ claiming.fre.phase = .idle ∧ claiming.lif.lineState = .idle ∧ claiming.lif.filtered = false
      ∧ claiming.lif.traffic = false ∧ 96 ≤ claiming.lif.samples ∧ claiming.lif.loopRun = none
      ∧ ({ claiming with lif := { claiming.lif with samples := 95 } } : Part).lif.samples < 96 := by
  unfold State.working; decide +kernel

/-- A part sending a frame or a response, some bits of it begun. -/
def sending (source : TxSource) (bits : List Bool) (begun : Nat) : Part :=
  { claiming with
    fre := { claiming.fre with role := .sender, inFlight := some { kind := .claim, held := none } }
    lif := { claiming.lif with
             lineState := .sending, traffic := true
             tx := some { source := source, bits := bits, begun := begun, driving := true, driveAge := 0, shown := false
                          releaseDue := some 8, edgeDue := some 32 } } }

theorem witness_ArbitrationIsLost :
    ∀ source ∈ [TxSource.frame, .response], ∀ begun ∈ [1, 8, 9, 16],
      ∀ tx, (sending source (List.replicate 16 true) begun).lif.tx = some tx →
        (st (sending source (List.replicate 16 true) begun)).working ∧ tx.source = source ∧ 0 < tx.begun
          ∧ tx.bits.getD (tx.begun - 1) false = true
          ∧ (sending source (List.replicate 16 true) begun).lif.lineState = .sending
          ∧ (sending source (List.replicate 16 true) begun).fre.inFlight = some { kind := .claim, held := none } := by
  simp [sending, State.working, st, claiming, waiting, positioned, served, loaded, State.reset, Part.reset, Pins.initial]

theorem witness_FailedAttemptCounted :
    let p := sending .frame [true, false] 1
    (st p).working ∧ p.queueFits ∧ p.fre.role = .sender ∧ p.fre.inFlight = some { kind := .claim, held := none }
      ∧ { frame := .claim 0x70C4F4 15, attempts := 7 } ∈ p.fre.queue ∧ p.lif.lineState = .sending ∧ p.lif.echoRun ≤ 2
      ∧ p.pins.lineOther = false ∧ (p.lif.tx.map (·.driving)) = some true ∧ (p.lif.tx.map (·.source)) = some .frame
      ∧ ({ p with lif := { p.lif with echoRun := 2 } } : Part).lif.echoRun = 2 := by
  unfold State.working Part.queueFits; decide +kernel

theorem witness_FailedAttemptCounted_first_attempt :
    let p := { sending .frame [true, false] 1 with
      fre := { (sending .frame [true, false] 1).fre with inFlight := some { kind := .presence, held := none } } }
    (∃ e ∈ p.fre.queue, e.frame.kind = .presence ∧ e.attempts + 1 < 8) ∧ (∃ e ∈ queue, 8 ≤ e.attempts + 1) := by
  decide +kernel

theorem witness_FailedAttemptCounted_other_node_and_mark :
    (∃ p : Part, p.pins.lineOther = true ∧ p.lif.tx ≠ none)
      ∧ (let p := sending .mark [] 0
         (st p).working ∧ (p.lif.tx.map (·.source)) = some .mark ∧ (p.lif.tx.map (·.driving)) = some true
           ∧ p.pins.lineOther = false ∧ p.lif.filtered = false ∧ p.lif.echoRun < 2) :=
  ⟨⟨{ sending .frame [true] 1 with pins := { (sending .frame [true] 1).pins with lineOther := true } }, by decide +kernel⟩, by
    unfold State.working; decide +kernel⟩

/-- A responder whose first drive the line has not shown, the released phase at 18 LU. -/
def unheard (filtered : Bool) : Part :=
  { holding .warn with
    fre := { Fre.reset with phase := .window, role := .responder, response := some (4, 15) }
    lif := { Lif.reset with
             filtered := filtered, samples := 72, traffic := true, lineState := .busy
             tx := some { responseTx (bitsOfBytes (responseBytes 4 15)) with driveAge := 8, shown := filtered } } }

theorem witness_FailedAttemptCounted_response :
    ∀ filtered ∈ [true, false],
      (st (unheard filtered)).working ∧ (unheard filtered).lif.tx ≠ none
        ∧ ((unheard filtered).lif.tx.map (·.source)) = some .response ∧ ((unheard filtered).lif.tx.map (·.driving)) = some true
        ∧ (unheard filtered).pins.lineOther = false ∧ (unheard filtered).lif.echoRun < 2
        ∧ (unheard filtered).fre.phase = .window ∧ (unheard filtered).fre.role = .responder
        ∧ (unheard filtered).lif.lineState = .busy ∧ (unheard filtered).lif.filtered = filtered := by
  unfold State.working; decide +kernel

/-- R111, R114: after the echo failure of a response the released phase is measured on, from the end of the last driven phase. -/
theorem test_response_echo_failure_measured_on :
    (after (st (unheard false)) .echoFailure).lif.samples = 72 ∧ (unheard false).sampleLine.1 = [.echoFailure]
      ∧ (unheard false).sampleLine.2.lif.samples = 73 := by decide +kernel

/-- A part receiving, its filtered line at a level. -/
def receiving (filtered : Bool) (line : LineState) (phase : ReceivePhase) (role : Role) : Part :=
  { served .watch with
    lif := { Lif.reset with filtered := filtered, samples := 28, traffic := true, lineState := line }
    fre := { Fre.reset with phase := phase, role := role } }

theorem witness_SymbolErrorDiscards :
    (∀ line ∈ [LineState.busy, .lost], ∀ phase ∈ [ReceivePhase.frame, .window], ∀ role ∈ [Role.receiver, .listener, .responder],
      ∀ filtered ∈ [true, false],
        ((st (receiving filtered line phase role)).working ∧ (receiving filtered line phase role).lif.loopRun = none)
          ∧ (receiving filtered line phase role).lif.traffic = true ∧ (receiving filtered line phase role).lif.tx = none
          ∧ (receiving filtered line phase role).lif.idleBefore = false)
      ∧ (SymbolFault.driven 7).wellFormed = true ∧ (SymbolFault.edge 1).wellFormed = true := by
  unfold State.working; decide +kernel

/-- A part that is the sender of its frame, the claimant of its window, or a holder in a peer's, its entry of a kind in flight. -/
def ownTraffic (p : Part) (role : Role) (kind : FrameKind) : Part :=
  { p with
    adu := (holding .warn).adu
    fre := { p.fre with
             role := role, queue := queue
             inFlight := if role = .sender ∨ role = .claimant then some { kind := kind, held := none } else none } }

/-- A Claim whose eighth error attempt this is, and a Presence whose first it is (R96). -/
theorem witness_SymbolErrorDiscards_own_traffic :
    (∀ role ∈ [Role.sender, .claimant, .responder, .listener], ∀ kind ∈ [FrameKind.claim, .presence],
      ∀ filtered ∈ [true, false], ∀ phase ∈ [ReceivePhase.frame, .window],
        ∀ p, p = ownTraffic (receiving filtered .busy phase .receiver) role kind →
          (p.pins.resetLow = false ∧ p.lif.loopRun = none) ∧ p.lif.traffic = true ∧ p.lif.filtered = filtered
            ∧ p.lif.idleBefore = false ∧ p.lif.lineState = .busy ∧ p.fre.phase = phase ∧ p.fre.role = role
            ∧ p.adu.isHolder = true ∧ p.fre.duplicate = false)
      ∧ (∃ e ∈ queue, e.frame.kind = .claim ∧ 8 ≤ e.attempts + 1) ∧ (∃ e ∈ queue, e.frame.kind = .presence ∧ e.attempts + 1 < 8)
      ∧ queue.Pairwise (fun a b => a.frame.kind.rank < b.frame.kind.rank) := by
  simp only [forall_eq]
  decide +kernel

/-- R103, R104: a symbol error in the window of the node's own Claim drops the Claim at its eighth attempt and owes the report
dropped; the claimant drives no mark, a responder that holds power does. -/
theorem test_own_window_spoiled :
    let p (role : Role) := ownTraffic (receiving true .busy .window .receiver) role .claim
    ((after (st (p .claimant)) (.lineSymbolError (.driven 7))).fre.queue.map (·.frame.kind),
      (after (st (p .claimant)) (.lineSymbolError (.driven 7))).fre.report) = ([.presence], some .dropped)
      ∧ (after (st (p .claimant)) (.lineSymbolError (.driven 7))).lif.tx = none
      ∧ (after (st (p .responder)) (.lineSymbolError (.driven 7))).lif.tx = some (errorMark false) := by decide +kernel

/-- A part whose receive buffer holds these bytes at a data end. -/
def atDataEnd (bytes : List Byte) : Part :=
  { receiving false .busy .frame .receiver with
    fre := { (receiving false .busy .frame .receiver).fre with rx := { bytes := bytes, current := 0, count := 0 } } }

theorem witness_DataEndTestsFrame :
    (∀ bytes ∈ [[], [0x12, 0x09, 0x43], withCheck [0x13, 0x09], [0x12, 0x09, 0x42], (Frame.release .landed 4).encode,
        (Frame.claim 0x7172F5 25).encode],
      ((st (atDataEnd bytes)).working ∧ (atDataEnd bytes).lif.loopRun = none) ∧ (atDataEnd bytes).lpc.committed = true
        ∧ (atDataEnd bytes).lif.traffic = true ∧ (atDataEnd bytes).lif.filtered = false
        ∧ (atDataEnd bytes).lif.samples < 48 ∧ (atDataEnd bytes).lif.lineState = .busy
        ∧ (atDataEnd bytes).fre.duplicate = false ∧ (atDataEnd bytes).fre.phase = .frame
        ∧ (atDataEnd bytes).fre.valid = none ∧ (atDataEnd bytes).fre.role = .receiver
        ∧ (atDataEnd bytes).adu.isHolder = false ∧ (atDataEnd bytes).recordsFit)
      ∧ testFrame [] = .framing ∧ testFrame [0x12, 0x09, 0x43] = .check ∧ testFrame (withCheck [0x13, 0x09]) = .unknownKind
      ∧ testFrame [0x12, 0x09, 0x42] = .valid (.release .landed 9)
      ∧ testFrame (Frame.release .landed 4).encode = .valid (.release .landed 4)
      ∧ testFrame (Frame.claim 0x7172F5 25).encode = .valid (.claim 0x7172F5 25) := by
  unfold State.working Part.recordsFit; decide +kernel

/-- The same of the sender of the frame, its own CLAIM among them, and of a holder that receives it. -/
theorem witness_DataEndTestsFrame_sender_and_holder :
    (∀ bytes ∈ [[], [0x12, 0x09, 0x43], withCheck [0x13, 0x09], (Frame.release .landed 4).encode, (Frame.claim 0x70C4F4 15).encode],
      ∀ role ∈ [Role.sender, .receiver], ∀ p, p = ownTraffic (atDataEnd bytes) role .claim →
        (p.pins.resetLow = false ∧ p.lif.loopRun = none) ∧ p.lpc.committed = true ∧ p.lif.traffic = true
          ∧ p.lif.filtered = false ∧ p.lif.samples < 48 ∧ p.lif.lineState = .busy ∧ p.fre.phase = .frame
          ∧ p.fre.valid = none ∧ p.fre.role = role ∧ p.adu.isHolder = true ∧ p.fre.duplicate = false)
      ∧ testFrame (Frame.claim 0x70C4F4 15).encode = .valid (.claim 0x70C4F4 15) ∧ (Frame.claim 0x70C4F4 15).node = 4 := by
  simp only [forall_eq]
  decide +kernel

/-- R99, R101: the node's own CLAIM heard back opens its window with the node as claimant of its U. -/
theorem test_own_claim_opens_its_window :
    let q := after (st (ownTraffic (atDataEnd (Frame.claim 0x70C4F4 15).encode) .sender .claim)) .dataEnd
    q.fre.phase = .window ∧ q.fre.role = .claimant ∧ q.fre.claimant = some (4, 15) ∧ q.fre.list = [] ∧ q.pvw.claim = none := by
  decide +kernel

/-- A holder at the data end of a peer's CLAIM. -/
def holderAtClaim : Part := { atDataEnd (Frame.claim 0x7172F5 25).encode with adu := (holding .warn).adu }

/-- A responder at a slot boundary. -/
def responding : Part :=
  { holderAtClaim with
    lif := { holderAtClaim.lif with samples := 48 }
    fre := { holderAtClaim.fre with phase := .window, role := .responder, response := some (4, 15) } }

theorem witness_HolderAnswersRollCall :
    (∀ p ∈ [holderAtClaim, responding], ((st p).working ∧ p.lif.loopRun = none) ∧ p.lpc.committed = true
        ∧ p.lif.filtered = false ∧ p.lif.lineState = .busy ∧ p.fre.duplicate = false ∧ p.adu.isHolder = true)
      ∧ holderAtClaim.lif.traffic = true ∧ holderAtClaim.lif.samples < 48 ∧ holderAtClaim.fre.phase = .frame
      ∧ holderAtClaim.fre.valid = none ∧ holderAtClaim.fre.role = .receiver
      ∧ testBuffer holderAtClaim.fre.rx = .valid (.claim 0x7172F5 25)
      ∧ (Frame.claim 0x7172F5 25).node ≠ holderAtClaim.settings.node
      ∧ responding.fre.phase = .window ∧ responding.fre.role = .responder ∧ responding.fre.inResponse = false
      ∧ responding.fre.response = some (4, 15) ∧ responding.lif.tx = none ∧ 48 ≤ responding.lif.samples := by
  unfold State.working; decide +kernel

/-- R113: the first edge of a response is due at 16 LU, so that one at 14 LU comes more than 1 LU before it, and one at 15 LU does
not. -/
theorem witness_HolderAnswersRollCall_early_edge :
    responding.fre.listed = false ∧ responding.lif.traffic = true ∧ 48 ≤ responding.lif.samples ∧ responding.lif.samples < 59
      ∧ ({ responding with lif := { responding.lif with samples := 58 } } : Part).firstEdgeDue = true
      ∧ ({ responding with lif := { responding.lif with samples := 59 } } : Part).firstEdgeDue = false := by decide +kernel

/-- A part after a data end, in a window or a frame. -/
def afterDataEnd (phase : ReceivePhase) (list : List (Node × Nat)) : Part :=
  { receiving false .busy phase .receiver with
    lif := { (receiving false .busy phase .receiver).lif with samples := 48 }
    fre := { Fre.reset with phase := phase, role := .receiver, list := list } }

theorem witness_EdgeAfterDataEndJudged :
    (∀ phase ∈ [ReceivePhase.window, .frame], ∀ list ∈ [[], List.replicate 14 ((0 : Node), 1), List.replicate 15 (0, 1)],
      ((st (afterDataEnd phase list)).working ∧ (afterDataEnd phase list).lif.loopRun = none)
        ∧ (afterDataEnd phase list).lif.traffic = true ∧ (afterDataEnd phase list).lif.filtered = false
        ∧ 48 ≤ (afterDataEnd phase list).lif.samples ∧ (afterDataEnd phase list).lif.lineState = .busy
        ∧ (afterDataEnd phase list).adu.isHolder = false ∧ (afterDataEnd phase list).lif.tx = none
        ∧ (afterDataEnd phase list).fre.role = .receiver ∧ (afterDataEnd phase list).fre.list = list)
      ∧ (List.replicate 14 ((0 : Node), 1)).length < 15 ∧ 15 ≤ (List.replicate 15 ((0 : Node), 1)).length := by
  unfold State.working; decide +kernel

/-- The same of the claimant, of the sender, and of a responder whose own first edge this is. -/
theorem witness_EdgeAfterDataEndJudged_own_traffic :
    (∀ role ∈ [Role.sender, .claimant, .responder], ∀ phase ∈ [ReceivePhase.window, .frame],
      ∀ list ∈ [[], List.replicate 14 ((0 : Node), 1), List.replicate 15 (0, 1)],
        ∀ p, p = ownTraffic (afterDataEnd phase list) role .claim →
          (p.pins.resetLow = false ∧ p.lif.loopRun = none) ∧ p.lif.traffic = true ∧ p.lif.filtered = false
            ∧ 48 ≤ p.lif.samples ∧ p.lif.lineState = .busy ∧ p.fre.phase = phase ∧ p.fre.role = role ∧ p.fre.list = list)
      ∧ (∃ first rest, (responseTx (bitsOfBytes (responseBytes 4 15))).bits = first :: rest ∧ rest ≠ [])
      ∧ (responseTx (bitsOfBytes (responseBytes 4 15))).source = .response
      ∧ (responseTx (bitsOfBytes (responseBytes 4 15))).driving = true
      ∧ (responseTx (bitsOfBytes (responseBytes 4 15))).begun = 1 := by
  simp only [forall_eq]
  refine ⟨by decide +kernel, ⟨_, _, rfl, by decide +kernel⟩, by decide +kernel⟩

/-- R101: in the node's own window an edge at 14 LU and at 18 LU starts a response; one at 13 LU, at 19 LU, or after fifteen responses
spoils it. -/
theorem test_edges_in_the_own_window :
    let own (list : List (Node × Nat)) := st (ownTraffic (afterDataEnd .window list) .claimant .presence)
    (∀ lu ∈ [14, 18], (after (own []) (.edgeAfterDataEnd lu)).fre.inResponse = true)
      ∧ (∀ lu ∈ [12, 13, 19, 23], (after (own []) (.edgeAfterDataEnd lu)).fre.phase = .discard)
      ∧ (after (own (List.replicate 14 (0, 1))) (.edgeAfterDataEnd 16)).fre.inResponse = true
      ∧ (after (own (List.replicate 15 (0, 1))) (.edgeAfterDataEnd 16)).fre.phase = .discard := by decide +kernel

/-- A listener with a complete response in its buffer, after (1, 14), in the window of node 5. -/
def listening (nodeByte drawByte : Byte) : Part :=
  { afterDataEnd .window [(1, 14)] with
    fre := { Fre.reset with
             phase := .window, role := .listener, inResponse := true, list := [(1, 14)], claimant := some (5, 25)
             rx := { bytes := [nodeByte, drawByte], current := 0, count := 0 } } }

theorem witness_ResponseTakenIntoList :
    (∀ nodeByte ∈ [(9 : Byte), 4, 15, 16, 1, 5], ∀ drawByte ∈ [(20 : Byte), 0],
      (st (listening nodeByte drawByte)).working ∧ (listening nodeByte drawByte).lpc.committed = true
        ∧ (listening nodeByte drawByte).fre.phase = .window ∧ (listening nodeByte drawByte).fre.inResponse = true
        ∧ (listening nodeByte drawByte).fre.role = .listener ∧ (listening nodeByte drawByte).lif.tx = none
        ∧ (listening nodeByte drawByte).adu.isHolder = false ∧ (listening nodeByte drawByte).fre.duplicate = false)
      ∧ (listening 9 20).rollCallFits ∧ (4 : Byte).toNat = (listening 4 20).settings.node.toNat := by
  refine ⟨by unfold State.working; decide +kernel, ⟨by decide +kernel, ?_⟩, by decide +kernel⟩
  intro c h
  obtain rfl : (5, 25) = c := Option.some.inj h
  decide +kernel

/-- A responder whose own response (4, 15) has been sent and heard whole, before the slot boundary (R101, R102). -/
def responded : Part :=
  { listening 4 15 with
    adu := (holding .warn).adu
    fre := { (listening 4 15).fre with role := .responder, response := some (4, 15) }
    lif := { Lif.reset with
             samples := 20, traffic := true, lineState := .busy
             tx := some { responseTx (bitsOfBytes (responseBytes 4 15)) with begun := 16, driving := false } } }

/-- Section 5.8: the response joins the list at its completion, and also when the slot boundary comes first. -/
theorem test_own_response_is_listed :
    ((after (st responded) .rollCallResponse).fre.list, (after (st responded) .rollCallResponse).fre.listed) =
        ([(1, 14), (4, 15)], true)
      ∧ ((after (st responded) .dataEnd).fre.list, (after (st responded) .dataEnd).fre.duplicate) =
        ([(1, 14), (4, 15)], false) := by
  decide +kernel

/-- The claimant's window over a response of each test, at the claimant itself, and the responder's own response sent whole. -/
theorem witness_ResponseTakenIntoList_own_window_and_response :
    (∀ nodeByte ∈ [(9 : Byte), 4, 15, 16, 1, 5], ∀ drawByte ∈ [(1 : Byte), 0, 255],
      ∀ p, p = ownTraffic (listening nodeByte drawByte) .claimant .claim →
        p.pins.resetLow = false ∧ p.lpc.committed = true ∧ p.lif.lineState = .busy ∧ p.fre.phase = .window
          ∧ p.fre.inResponse = true ∧ p.fre.role = .claimant ∧ p.lif.tx = none ∧ p.fre.lostKind = none)
      ∧ (listening 9 1).fre.list = (ownTraffic (listening 9 1) .claimant .claim).fre.list
      ∧ (listening 9 1).fre.claimant = (ownTraffic (listening 9 1) .claimant .claim).fre.claimant
      ∧ responded.pins.resetLow = false ∧ responded.lpc.committed = true ∧ responded.fre.role = .responder
      ∧ responded.fre.rx = { bytes := [4, 15], current := 0, count := 0 } ∧ responded.adu.isHolder = true
      ∧ responded.lif.tx = some { responseTx (bitsOfBytes (responseBytes 4 15)) with begun := 16, driving := false }
      ∧ (bitsOfBytes (responseBytes 4 15)).length = 16 := by
  simp only [forall_eq]
  decide +kernel

/-- R62, R101: the claimant of a window appends the responses of its own window to the list that it sums. -/
theorem test_claimant_lists_a_response :
    (after (st (ownTraffic (listening 9 20) .claimant .claim)) .rollCallResponse).fre.list = [(1, 14), (9, 20)]
      ∧ (after (st (ownTraffic (listening 9 0) .claimant .claim)) .rollCallResponse).fre.report = some .dropped
      ∧ (after (st { responded with lif := { responded.lif with echoRun := 2 } }) .rollCallResponse).lif.echoRun = 0 := by
  decide +kernel

/-- The claimant at the frame end of its own clean window, over a list. -/
def claimant (list : List (Node × Nat)) : Part :=
  { waiting .claiming .busy with
    lif := { Lif.reset with samples := 48, traffic := true, lineState := .busy }
    fre := { Fre.reset with
             phase := .window, role := .claimant, inFlight := some { kind := .claim, held := none }, queue := queue
             list := list, claimant := some (4, 15) } }

theorem witness_OwnClaimDecidedBySum :
    (∀ list ∈ [[((1 : Node), 21)], [(1, 14), (9, 8)]],
      ((st (claimant list)).working ∧ (claimant list).lif.loopRun = none) ∧ (claimant list).lpc.committed = true
        ∧ (claimant list).lif.traffic = true ∧ (claimant list).lif.filtered = false ∧ 48 ≤ (claimant list).lif.samples
        ∧ (claimant list).lif.retry = .none ∧ (claimant list).fre.phase = .window ∧ (claimant list).fre.role = .claimant
        ∧ (claimant list).fre.inResponse = false ∧ (claimant list).fre.report = none
        ∧ (claimant list).fre.claimant = some (4, 15) ∧ (claimant list).pvw.claim = none
        ∧ (claimant list).adu.state = .claiming ∧ (claimant list).adu.withdrawn = false
        ∧ (claimant list).rsq.state = .wait ∧ (claimant list).pcu.plan.kind = .motion
        ∧ (∀ e ∈ (claimant list).fre.list, isStale e.1 (claimant list).pvw.records = false))
      ∧ 15 + ([((1 : Node), 21)].map (·.2)).sum = (claimant [(1, 21)]).pvw.sEff.getD 0
      ∧ 15 + ([((1 : Node), 14), (9, 8)].map (·.2)).sum = (claimant []).pvw.sEff.getD 0 + 1 := by
  unfold State.working; decide +kernel

/-- On a zone plan the claim that fits leads to DOORS, and with the doors open at once to LANDED (R16, R28, R29). -/
theorem witness_OwnClaimDecidedBySum_zone :
    let zone (opened : Bool) : Part := { claimant [(1, 21)] with
      pcu := { (claimant []).pcu with plan := { (claimant []).pcu.plan with kind := .zone } }
      liu := { (claimant []).liu with doorsOpen := .sampled opened, cancel := false } }
    (∀ opened ∈ [true, false], (st (zone opened)).working ∧ (zone opened).lif.loopRun = none ∧ (zone opened).rsq.state = .wait
        ∧ (zone opened).adu.state = .claiming ∧ (zone opened).adu.withdrawn = false ∧ (zone opened).pcu.plan.kind = .zone)
      ∧ (after (st (zone false)) .frameEnd).rsq.state = .doors ∧ (after (st (zone true)) .frameEnd).rsq.state = .landed
      ∧ (after (st (claimant [(1, 21)])) .frameEnd).rsq.state = .warn := by
  unfold State.working; decide +kernel

/-- The same with its claim withdrawn, the rescue over. -/
def withdrawn (list : List (Node × Nat)) : Part :=
  { claimant list with
    rsq := { Rsq.reset with state := .watch }
    adu := { (claimant list).adu with withdrawn := true } }

theorem witness_OwnClaimDecidedBySum_withdrawn :
    ∀ list ∈ [[((1 : Node), 21)], [(1, 14), (9, 8)]],
      ((st (withdrawn list)).working ∧ (withdrawn list).lif.loopRun = none) ∧ (withdrawn list).lpc.committed = true
        ∧ (withdrawn list).fre.duplicate = false ∧ (withdrawn list).fre.phase = .window
        ∧ (withdrawn list).fre.role = .claimant ∧ (withdrawn list).adu.state = .claiming
        ∧ (withdrawn list).adu.withdrawn = true ∧ (withdrawn list).adu.pendingSeek = false
        ∧ (∀ e ∈ (withdrawn list).fre.list, isStale e.1 (withdrawn list).pvw.records = false) := by
  unfold State.working; decide +kernel

/-- The same with RSQ in BLOCKED, or in WAIT again with a seek pending (R17, R70). -/
theorem witness_OwnClaimDecidedBySum_withdrawn_blocked_and_seeking :
    let blocked := { withdrawn [(1, 14), (9, 8)] with rsq := { Rsq.reset with state := .blocked, cause := .chain } }
    let seeking := { withdrawn [(1, 21)] with
      rsq := { Rsq.reset with state := .wait }, adu := { (withdrawn [(1, 21)]).adu with pendingSeek := true } }
    blocked.adu.withdrawn = true ∧ blocked.adu.pendingSeek = false ∧ seeking.adu.withdrawn = true
      ∧ seeking.adu.pendingSeek = true ∧ seeking.pcu.plan.key = some 0x70C4F4
      ∧ deferralAnswer (some 0x70C4F4) (after (st seeking) .frameEnd).pvw.records = false
      ∧ deferralAnswer (some 0x70C4F4) [{ record9 with stateCode := 5, key := some 0x70C4F3 }] = true := by
  decide +kernel

/-- A sender at the frame end of its own frame, heard back valid. -/
def heardBack (f : Frame) : Part :=
  { waiting .queued .sending with
    lif := { Lif.reset with samples := 48, traffic := true, lineState := .sending }
    fre := { Fre.reset with
             phase := .frame, role := .sender, valid := some f, queue := [{ frame := f, attempts := 2 }]
             inFlight := some { kind := f.kind, held := none } } }

/-- A claiming node at the frame end of the traffic that made its report owed. -/
def reporting (report : PendingReport) (line : LineState) (withdrawn seek key : Bool) : Part :=
  { waiting .claiming line with
    adu := { (waiting .claiming line).adu with withdrawn := withdrawn, pendingSeek := seek, pendingKey := key }
    lif := { Lif.reset with samples := 48, traffic := true, lineState := line }
    fre := { Fre.reset with phase := .discard, role := .sender, report := some report, queue := queue } }

theorem witness_OwnFrameAndReportsAtFrameEnd :
    (∀ f ∈ [Frame.release .landed 4, .adjust 4 7],
      ((st (heardBack f)).working ∧ (heardBack f).lif.loopRun = none) ∧ (heardBack f).lpc.committed = true
        ∧ (heardBack f).lif.traffic = true ∧ (heardBack f).lif.filtered = false ∧ 48 ≤ (heardBack f).lif.samples
        ∧ (heardBack f).lif.lineState = .sending ∧ (heardBack f).lif.retry = .none ∧ (heardBack f).fre.phase = .frame
        ∧ (heardBack f).fre.role = .sender ∧ (heardBack f).fre.valid = some f ∧ (heardBack f).fre.report = none
        ∧ f.kind ≠ .claim ∧ (heardBack f).fre.inFlight = some { kind := f.kind, held := none })
      ∧ (Frame.adjust 4 7).kind ≠ .release := by
  unfold State.working; decide +kernel

theorem witness_OwnFrameAndReportsAtFrameEnd_key_moves :
    let p := heardBack (.release .landed 4)
    p.rsq.state = .wait ∧ p.pvw.lastReleased ≠ p.settings.node ∧ p.pcu.plan.key ≠ none ∧ (claimant []).pcu.plan.key ≠ none := by
  decide +kernel

theorem witness_OwnFrameAndReportsAtFrameEnd_reports :
    (∀ report ∈ [PendingReport.lost, .spoiled, .dropped], ∀ line ∈ [LineState.busy, .sending, .held, .lost],
      ∀ b ∈ [(false, false, true), (false, false, false), (true, false, false), (true, true, false)],
        ∀ p, p = reporting report line b.1 b.2.1 b.2.2 →
          (p.pins.resetLow = false ∧ p.lif.loopRun = none) ∧ p.lpc.committed = true ∧ p.lif.traffic = true
            ∧ p.lif.filtered = false ∧ 48 ≤ p.lif.samples ∧ p.lif.retry = .none ∧ p.fre.phase = .discard
            ∧ p.fre.report = some report ∧ p.adu.state = .claiming ∧ p.pcu.plan.key = some 0x70C4F4
            ∧ deferralAnswer p.pcu.plan.key p.pvw.records = false)
      ∧ deferralAnswer (some 0x70C4F4) [{ record9 with stateCode := 5, key := some 0x70C4F3 }] = true := by
  simp only [forall_eq]
  decide +kernel

/-- A node whose Claim lost the line, at the clean frame end of the frame that won it (R104). -/
def outbid (f : Frame) (withdrawn : Bool) : Part :=
  { waiting .claiming .busy with
    adu := { (waiting .claiming .busy).adu with withdrawn := withdrawn }
    lif := { Lif.reset with samples := 48, traffic := true, lineState := .busy }
    fre := { Fre.reset with
             phase := .frame, role := .receiver, valid := some f, report := some .lost, lostKind := some .claim, queue := queue } }

theorem witness_OwnFrameAndReportsAtFrameEnd_lost :
    (∀ f ∈ [Frame.release .landed 9, .adjust 9 7], ∀ w ∈ [true, false],
      (st (outbid f w)).working ∧ (outbid f w).lif.loopRun = none ∧ (outbid f w).lpc.committed = true
        ∧ (outbid f w).lif.retry = .none ∧ (outbid f w).fre.phase = .frame ∧ (outbid f w).fre.role = .receiver
        ∧ (outbid f w).fre.valid = some f ∧ f.kind ≠ .claim ∧ f.node ≠ (outbid f w).settings.node
        ∧ (outbid f w).fre.report = some .lost ∧ (outbid f w).adu.state = .claiming ∧ (outbid f w).adu.withdrawn = w
        ∧ (outbid f w).adu.pendingSeek = false ∧ (outbid f w).pcu.plan.key ≠ none
        ∧ f.node ≠ (outbid f w).pvw.lastReleased ∧ (outbid f w).rsq.state = .wait
        ∧ (after (st (outbid f w)) .frameEnd).pvw.sEff = (outbid f w).pvw.sEff) := by
  unfold State.working; decide +kernel

theorem witness_OwnFrameAndReportsAtFrameEnd_lost_seeking :
    let p := { outbid (.adjust 9 7) true with adu := { (outbid (.adjust 9 7) true).adu with pendingSeek := true } }
    p.adu.withdrawn = true ∧ p.adu.pendingSeek = true ∧ p.fre.duplicate = false ∧ p.adu.state = .claiming
      ∧ (after (st p) .frameEnd).pvw.sEff = p.pvw.sEff ∧ (after (st p) .frameEnd).pcu.plan.key = some 0x70C4F4
      ∧ deferralAnswer (some 0x70C4F4) (after (st p) .frameEnd).pvw.records = false := by decide +kernel

theorem witness_LongDrivenPhaseHoldsLine :
    ∀ line ∈ [LineState.idle, .busy, .sending, .lost, .held], ∀ phase ∈ [ReceivePhase.frame, .window, .idle, .discard],
      ((st (receiving true line phase .receiver)).working ∧ (receiving true line phase .receiver).lif.loopRun = none)
        ∧ (receiving true line phase .receiver).lif.filtered = true
        ∧ (receiving true line phase .receiver).fre.isSender = false := by
  unfold State.working; decide +kernel

/-- A stray symbol on an idle line, at a node that holds power and at one that holds none (R110). -/
theorem witness_DrivenPhaseClassified_stray :
    let stray (p : Part) : Part := { p with
      lif := { Lif.reset with filtered := true, idleBefore := true, traffic := true, samples := 20, lineState := .busy } }
    ∀ p ∈ [stray (served .watch), stray (holding .warn)],
      (st p).working ∧ p.lif.loopRun = none ∧ p.lif.filtered = true ∧ p.lif.lineState = .busy ∧ p.lif.idleBefore = true
        ∧ p.fre.phase = .idle ∧ p.fre.isSender = false ∧ p.fre.duplicate = false := by
  unfold State.working; decide +kernel

theorem witness_DrivenPhaseClassified :
    (∀ line ∈ [LineState.busy, .sending, .lost],
      ((st (receiving true line .frame .receiver)).working ∧ (receiving true line .frame .receiver).lif.loopRun = none)
        ∧ (receiving true line .frame .receiver).lif.filtered = true
        ∧ (receiving true line .frame .receiver).lif.idleBefore = false
        ∧ (receiving true line .frame .receiver).fre.valid = none
        ∧ (receiving true line .frame .receiver).fre.rx.bytes.length < 12)
      ∧ ({ (receiving true .busy .frame .receiver).lif with idleBefore := true } : Lif).idleBefore = true := by
  unfold State.working; decide +kernel

/-- R98: a byte is taken most significant bit first. -/
theorem witness_DrivenPhaseClassified_bits :
    RxBuffer.empty.count < 7 ∧ ([false, false, false, true, false, false, true].foldl (fun r b => r.take b) RxBuffer.empty).count = 7
      ∧ [false, false, false, true, false, false, true, false].foldl (fun r b => r.take b) RxBuffer.empty
        = { bytes := [0x12], current := 0, count := 0 } := by decide +kernel

theorem witness_LineEdgesAndDueTimes :
    State.reset.working ∧ State.reset.part.lif.loopRun = none ∧ State.reset.part.lif.traffic = false
      ∧ State.reset.part.lif.filtered = false ∧ State.reset.part.lif.tx = none
      ∧ (sending .mark [] 0).lif.tx = some { source := .mark, bits := [], begun := 0, driving := true, driveAge := 0
                                             shown := false, releaseDue := some 8, edgeDue := some 32 }
      ∧ (sending .frame [true] 1).lif.tx ≠ none
      ∧ ({ openingTx .frame [true] with driving := false } : Tx).begun < 1 := by
  unfold State.working; decide +kernel

/-- A node that drives its error mark, its release so many samples away, at a sample at which the clock has queued a due time. -/
def marking (left : Nat) : State :=
  { st { holding .warn with lif := { Lif.reset with tx := some { markTx true with releaseDue := some left } } } with
    announced := [.symbolDueTime] }

theorem witness_LineEdgesAndDueTimes_queued :
    ∀ left ∈ [0, 1, 64], (marking left).working
      ∧ (marking left).part.lif.tx = some { markTx true with releaseDue := some left }
      ∧ (markTx true).driving = true ∧ (markTx true).source = .mark ∧ (markTx true).edgeDue ≠ some 0
      ∧ .symbolDueTime ∈ (marking left).announced := by
  unfold State.working; decide +kernel

/-- R112: the due time queued for an earlier symbol does not end a mark begun since, which is held its 16 LU. -/
theorem test_queued_due_time_and_a_mark_begun_since :
    (after (marking 0) .symbolDueTime).lif.tx = none ∧ (after (marking 64) .symbolDueTime).lif.tx = (marking 64).part.lif.tx := by
  decide +kernel

/-- A part in LOST, its retry waiting and its timer about to expire. -/
def lost : Part :=
  { served .parked with
    lif := { Lif.reset with lineState := .lost, lostTimer := .running 0, retry := .waiting } }

theorem witness_LostLineIsRetried :
    (st lost).inService ∧ lost.lif.lineState = .lost ∧ (st lost).expires .lostRetryTimerExpiry lost.lif.lostTimer ∧ lost.lif.retry = .waiting
      ∧ lost.lif.filtered = false ∧ lost.lif.traffic = false ∧ 96 ≤ lost.lif.samples ∧ lost.lif.loopRun = none
      ∧ lost.fre.duplicate = false ∧ lost.rsq.state.presenceCode = some 2 := by
  unfold State.inService State.working State.expires; decide +kernel

/-- A blocked part at a frame end of a line in an exceptional state. -/
def recovering (line : LineState) (retry : Retry) (phase : ReceivePhase) (valid : Option Frame) : Part :=
  { positioned .blocked with
    rsq := { Rsq.reset with state := .blocked, cause := .line }
    adu := { Adu.reset with stuckTimer := .expired }
    lif := { Lif.reset with samples := 48, traffic := true, lineState := line, retry := retry, echoRun := 3 }
    fre := { Fre.reset with phase := phase, role := .sender, valid := valid } }

theorem witness_LostLineIsRetried_recovery :
    let f : Frame :=
      .presence 4 { code := 4, storeLimit := 36, draw := none, key := none, mismatch := false, solo := false }
    (∀ p ∈ [recovering .lost .sending .frame (some f), recovering .lost .failed .discard none,
        recovering .stuck .none .discard none],
      ((st p).working ∧ p.lif.loopRun = none) ∧ p.lpc.committed = true ∧ p.lif.traffic = true ∧ p.lif.filtered = false
        ∧ 48 ≤ p.lif.samples ∧ p.fre.report = none ∧ p.fre.role = .sender ∧ p.fre.inFlight = none
        ∧ p.fre.duplicate = false ∧ p.fre.windowAbandoned = false ∧ p.adu.stuckTimer = .expired
        ∧ p.rsq.state = .blocked ∧ p.rsq.cause = .line ∧ p.adu.state = .none)
      ∧ f.kind = .presence := by
  unfold State.working; decide +kernel

/-- A part with a phrase in its current slot. -/
def phrased (s : RescueState) (stage : Stage) (transaction : Transaction) (fifo : List Byte) (toPlay : Nat) : Part :=
  { served s with
    anu := { Anu.reset with
             current := some { number := 5, stage := stage }, transaction := transaction, fifo := fifo, toPlay := toPlay
             toFetch := 8, volume := 7, movingOwed := s == .warn } }

theorem witness_VoiceReadsComplete :
    let looked := phrased .warn .lookup (.directory 30) [] 0
    (st looked).working ∧ looked.anu.transaction = .directory 30
      ∧ looked.anu.current = some { number := 5, stage := .lookup } ∧ looked.anu.next = none ∧ looked.anu.movingOwed = true
      ∧ looked.rsq.gateTimer ≠ .expired
      ∧ nat3 0 1 0x80 + nat3 0 0xFE 0x80 ≤ looked.settings.voiceSize * 65536
      ∧ looked.settings.voiceSize * 65536 < nat3 0 1 0x80 + nat3 0 0xFE 0x81 := by
  unfold State.working; decide +kernel

theorem witness_VoiceReadsComplete_refill :
    let filling := phrased .wait .fetch (.refill 0x180 8 3) [1, 2, 3] 8
    (st filling).working ∧ filling.anu.transaction = .refill 0x180 8 3 ∧ 3 < 8 ∧ 8 ≤ 8 ∧ 3 + [(4 : Byte)].length < 8
      ∧ 8 ≤ 3 + [(4 : Byte), 5, 6, 7, 8].length ∧ filling.anu.fetching = true ∧ filling.anu.toFetch - 8 = 0 := by
  unfold State.working; decide +kernel

/-- Section 8.3 and R164: the directory entry of phrase 5 is read at address 30. -/
theorem test_directory_read_of_phrase_5 :
    Transaction.lookUp 5 = .directory 30 ∧ (Transaction.lookUp 5).sent = [0x03, 0, 0, 30]
      ∧ (Transaction.refill 0x012345 8 0).sent = [0x03, 0x01, 0x23, 0x45] := by decide +kernel

theorem witness_SampleInstantPlays :
    (∀ s ∈ [RescueState.wait, .warn], ∀ stage ∈ [Stage.sounding, .fetch], ∀ fifo ∈ [[], [(0xFF : Byte)]], ∀ toPlay ∈ [0, 1],
      (st (phrased s stage .none fifo toPlay)).inService ∧ (phrased s stage .none fifo toPlay).anu.volume ≤ 7
        ∧ (phrased s stage .none fifo toPlay).anu.current = some { number := 5, stage := stage }
        ∧ (phrased s stage .none fifo toPlay).anu.next = none)
      ∧ (phrased .wait .sounding .none [] 0).anu.movingOwed = false
      ∧ (phrased .warn .sounding .none [] 0).anu.movingOwed = true := by
  unfold State.inService State.working; decide +kernel

/-- A silent part in WAIT, its PATIENCE timer about to expire. -/
def silent : Part := { served .wait with anu := { Anu.reset with patience := .running 0 } }

/-- The same with a PATIENCE phrase configured. -/
def silentWithPhrase : Part :=
  { silent with lpc := { silent.lpc with image := writeBytes 52 [0x01] image4 } }

theorem witness_PatienceRequestsPhrase :
    (∀ p ∈ [silent, silentWithPhrase], (st p).working ∧ p.rsq.state = .wait ∧ (st p).expires .patienceTimerExpiry p.anu.patience
        ∧ p.anu.current = none ∧ p.anu.next = none ∧ p.anu.cache = none)
      ∧ silent.settings.phrase .patience = 255 ∧ silentWithPhrase.settings.phrase .patience = 1
      ∧ silentWithPhrase.settings.voiceSize ≠ 0 := by
  unfold State.working State.expires; decide +kernel

theorem witness_AdmissionWithinLimit :
    (claimant [(1, 21)]).adu.isHolder = false
      ∧ (after (st (claimant [(1, 21)])) .frameEnd).adu.state = .holder
      ∧ (after (st { waiting .defer .lost with
          lpc := { (waiting .defer .lost).lpc with image := writeBytes 3 [0x00, 0x0F] image4 } })
        .retryTimerExpiry).adu.state = .solo := by decide +kernel

/-- A listener in the window of node 5 meets the whole invariant. -/
theorem witness_StepKeepsInvariant : (listening 9 20).Inv where
  outputs := by unfold Part.outputsFit; decide +kernel
  cause := by unfold Part.causeFits; decide +kernel
  draw := by unfold Part.drawFits; decide +kernel
  filter := by unfold Part.filterFits; decide +kernel
  counts := by unfold Part.countsFit; decide +kernel
  queue := by unfold Part.queueFits; decide +kernel
  rollCall := witness_ResponseTakenIntoList.2.1
  records := by unfold Part.recordsFit; decide +kernel
  claimEntry := ⟨by decide +kernel, by decide +kernel, fun x h => nomatch (show none = some x from h)⟩
  peers := ⟨by decide +kernel, fun _ => ⟨by decide +kernel, fun c h => nomatch (show none = some c from h)⟩⟩
  conditions := by unfold Part.conditionsFit; decide +kernel
  announcement :=
    ⟨by decide +kernel, by decide +kernel, fun a n r h => nomatch (show Transaction.none = .refill a n r from h)⟩
  commit := by unfold Part.commitFits; decide +kernel

theorem witness_AdmissionFitsTheSequence :
    ∀ p ∈ [served .watch, holding .creep, waiting .claiming .busy], p.commitFits ∧ p.admissionFits := by
  intro p hp
  refine ⟨?_, ?_⟩
  · revert p; unfold Part.commitFits; decide +kernel
  · revert p; unfold Part.admissionFits; decide +kernel

theorem witness_CommittedImageLocked : (served .watch).lpc.committed = true := rfl

theorem witness_DuplicateNodeStaysSilent :
    let p : Part := { served .watch with fre := { (served .watch).fre with duplicate := true } }
    p.fre.duplicate = true ∧ p.lif.tx = none ∧ p.lpc.committed = true
      ∧ (∃ t, step (st p) = .next t) ∧ ∃ t, step { st p with pending := [.frameEnd] } = .next t :=
  ⟨rfl, rfl, rfl, ⟨_, rfl⟩, _, rfl⟩

theorem witness_IdleStepTakesNoDecision :
    let ticking : Part := { served .wait with anu := { Anu.reset with patience := .running 1 } }
    (State.reset.pending = [] ∧ State.reset.part.pins.resetLow = false ∧ State.reset.part.dueNow = []
      ∧ claiming.dueNow ≠ [] ∧ claiming.pins.resetLow = false
      ∧ (after State.reset (.resetInput true false)).pins.resetLow = true
      ∧ (st ticking).pending = [] ∧ ticking.pins.resetLow = false ∧ ticking.dueNow = []
      ∧ ticking.anu.patience = .running (0 + 1) ∧ ticking.pcu.waitTimer = .stopped ∧ ticking.lif.loopRun = none
      ∧ .patienceTimerExpiry ∈ ({ st silent with announced := [.patienceTimerExpiry] } : State).announced)
      ∧ ∃ t, step (st ticking) = .next t ∧ .patienceTimerExpiry ∈ t.announced ∧ t.part.anu.patience = .running 0 :=
  ⟨by decide +kernel, _, rfl, by decide +kernel⟩

end Sys2Proof.Tests
end

section
/-! PROOF. The check byte (R1): the serial division of `crcShift` carried out on polynomials over the integers modulo 2,
and the two places that hold a check byte: the end of a frame and byte 57 of an image. -/

namespace Sys2Proof.Machine

open Polynomial

/-! ## Bits and bytes as polynomials over the integers modulo 2 -/

/-- A bit as a constant polynomial. -/
noncomputable def bitPoly (b : Bool) : (ZMod 2)[X] := C (if b then 1 else 0)

/-- A run of bits as a polynomial, the first bit at the highest power. -/
noncomputable def polyOfBits (bits : List Bool) : (ZMod 2)[X] :=
  bits.foldl (fun p b => p * X + bitPoly b) 0

/-- A byte as a polynomial of degree below 8. -/
noncomputable def bytePoly (b : Byte) : (ZMod 2)[X] := polyOfBits (bitsOfByte b)

/-- The generator of the CRC-8, 0x07 with its leading term. -/
noncomputable def crcGenerator : (ZMod 2)[X] := X ^ 8 + X ^ 2 + X + 1

@[simp] theorem bitPoly_false : bitPoly false = 0 := by simp [bitPoly]

@[simp] theorem bitPoly_true : bitPoly true = 1 := by simp [bitPoly]

/-- Exclusive or of bits is addition modulo 2. -/
@[simp] theorem bitPoly_xor (a b : Bool) : bitPoly (a ^^ b) = bitPoly a + bitPoly b := by
  cases a <;> cases b <;> simp [CharTwo.add_self_eq_zero]

@[simp] theorem polyOfBits_nil : polyOfBits [] = 0 := rfl

/-- One more bit moves the earlier bits up by one power. -/
theorem polyOfBits_concat (bits : List Bool) (b : Bool) : polyOfBits (bits ++ [b]) = polyOfBits bits * X + bitPoly b := by
  simp [polyOfBits]

@[simp] theorem polyOfBits_singleton (b : Bool) : polyOfBits [b] = bitPoly b := by simp [polyOfBits]

theorem polyOfBits_append (front back : List Bool) :
    polyOfBits (front ++ back) = polyOfBits front * X ^ back.length + polyOfBits back := by
  induction back using List.reverseRecOn with
  | nil => simp
  | append_singleton back b ih =>
    rw [← List.append_assoc, polyOfBits_concat, polyOfBits_concat, ih, List.length_append, List.length_singleton]
    ring

/-- The eight coefficients of a byte's polynomial are its bits. -/
theorem bytePoly_eq_sum (b : Byte) : bytePoly b = ∑ i : Fin 8, bitPoly (b.getLsbD i) * X ^ (i : ℕ) := by
  simp only [bytePoly, bitsOfByte, polyOfBits, List.foldl_cons, List.foldl_nil, Fin.sum_univ_eight, Fin.isValue,
    Fin.coe_ofNat_eq_mod]
  ring

@[simp] theorem bytePoly_zero : bytePoly 0#8 = 0 := by simp [bytePoly_eq_sum]

@[simp] theorem bytePoly_xor (a b : Byte) : bytePoly (a ^^^ b) = bytePoly a + bytePoly b := by
  simp [bytePoly_eq_sum, add_mul, Finset.sum_add_distrib]

theorem degree_bytePoly_lt (b : Byte) : (bytePoly b).degree < 8 := by
  rw [bytePoly_eq_sum]
  exact degree_sum_fin_lt fun i : Fin 8 => if b.getLsbD i then 1 else 0

/-- One more byte moves the earlier bytes up by eight powers. -/
theorem polyOfBits_bitsOfBytes_concat (bytes : List Byte) (b : Byte) :
    polyOfBits (bitsOfBytes (bytes ++ [b])) = polyOfBits (bitsOfBytes bytes) * X ^ 8 + bytePoly b := by
  have hbits : bitsOfBytes (bytes ++ [b]) = bitsOfBytes bytes ++ bitsOfByte b := by simp [bitsOfBytes]
  rw [hbits, polyOfBits_append]
  rfl

/-! ## The generator -/

theorem crcGenerator_eq : crcGenerator = X ^ 8 + (X ^ 2 + X + 1) := by
  unfold crcGenerator; ring

theorem degree_crcGenerator_tail_lt : (X ^ 2 + X + 1 : (ZMod 2)[X]).degree < 8 := by
  have : (X ^ 2 + X + 1 : (ZMod 2)[X]).degree ≤ 2 := by compute_degree
  exact this.trans_lt (by norm_num)

theorem crcGenerator_monic : crcGenerator.Monic := by
  rw [crcGenerator_eq]
  exact monic_X_pow_add degree_crcGenerator_tail_lt

theorem degree_crcGenerator : crcGenerator.degree = 8 := by
  rw [crcGenerator_eq, degree_add_eq_left_of_degree_lt] <;> rw [degree_X_pow]
  · rfl
  · exact degree_crcGenerator_tail_lt

/-- A byte is its own remainder: its degree lies below the generator's. -/
theorem bytePoly_modByMonic (b : Byte) : bytePoly b %ₘ crcGenerator = bytePoly b := by
  rw [modByMonic_eq_self_iff crcGenerator_monic, degree_crcGenerator]
  exact degree_bytePoly_lt b

/-! ## The check byte as a remainder -/

/-- A shift to the left drops the first bit and takes a zero in at the end. -/
theorem bitsOfByte_shiftLeft_one (c : Byte) :
    ∃ low, low.length = 7 ∧ bitsOfByte c = [c.getLsbD 7] ++ low ∧ bitsOfByte (c <<< 1) = low ++ [false] :=
  ⟨(bitsOfByte c).tail, rfl, rfl, by simp [bitsOfByte]⟩

/-- A shift to the left multiplies by X and drops the term that leaves the byte. -/
theorem bytePoly_shiftLeft_one (c : Byte) :
    bytePoly c * X = bytePoly (c <<< 1) + bitPoly (c.getLsbD 7) * X ^ 8 := by
  obtain ⟨low, hlength, hc, hshifted⟩ := bitsOfByte_shiftLeft_one c
  rw [bytePoly, bytePoly, hc, hshifted, polyOfBits_append, polyOfBits_concat, hlength, polyOfBits_singleton, bitPoly_false]
  ring

theorem bytePoly_generatorByte : bytePoly 0x07#8 = X ^ 2 + X + 1 := by
  have hbits : bitsOfByte 0x07#8 = [false, false, false, false, false, true, true, true] := rfl
  simp only [bytePoly, hbits, polyOfBits, List.foldl_cons, List.foldl_nil, bitPoly_false, bitPoly_true]
  ring

/-- One step of the serial division: the bit that leaves the byte is the quotient's. -/
theorem bytePoly_mul_X (c : Byte) :
    bytePoly c * X = bytePoly (crcShift c) + bitPoly (c.getLsbD 7) * crcGenerator := by
  rw [bytePoly_shiftLeft_one]
  cases hout : c.getLsbD 7 with
  | false => simp only [crcShift, hout, Bool.false_eq_true, if_false, bitPoly_false, zero_mul]
  | true =>
    have hdouble : bytePoly 0x07#8 + bytePoly 0x07#8 = 0 := CharTwo.add_self_eq_zero _
    simp only [crcShift, hout, if_true, bytePoly_xor, bitPoly_true, crcGenerator_eq, ← bytePoly_generatorByte]
    linear_combination -hdouble

/-- `n` steps of the division multiply by X ^ n up to a multiple of the generator. -/
theorem crcGenerator_dvd_iterate (c : Byte) (n : ℕ) :
    crcGenerator ∣ bytePoly c * X ^ n - bytePoly (crcShift^[n] c) := by
  induction n with
  | zero => simp
  | succ n ih =>
    rw [Function.iterate_succ_apply']
    have hstep := bytePoly_mul_X (crcShift^[n] c)
    have hsplit : bytePoly c * X ^ (n + 1) - bytePoly (crcShift (crcShift^[n] c))
        = (bytePoly c * X ^ n - bytePoly (crcShift^[n] c)) * X
          + bitPoly ((crcShift^[n] c).getLsbD 7) * crcGenerator := by
      linear_combination hstep
    rw [hsplit]
    exact dvd_add (ih.mul_right X) (dvd_mul_left _ _)

/-- The CRC carried over one byte takes that byte in below the eight powers the division has yet to run through. -/
theorem crcGenerator_dvd_crcByte (c b : Byte) :
    crcGenerator ∣ (bytePoly c + bytePoly b) * X ^ 8 - bytePoly (crcByte c b) := by
  rw [← bytePoly_xor]
  exact crcGenerator_dvd_iterate (c ^^^ b) 8

theorem crc_concat (bytes : List Byte) (b : Byte) : crc (bytes ++ [b]) = crcByte (crc bytes) b := by
  simp [crc]

/-- The bytes times X ^ 8 and the check byte leave the same remainder. -/
theorem crcGenerator_dvd_crc (bytes : List Byte) :
    crcGenerator ∣ polyOfBits (bitsOfBytes bytes) * X ^ 8 - bytePoly (crc bytes) := by
  induction bytes using List.reverseRecOn with
  | nil => simp [bitsOfBytes, crc]
  | append_singleton bytes b ih =>
    rw [polyOfBits_bitsOfBytes_concat, crc_concat]
    have hsplit : (polyOfBits (bitsOfBytes bytes) * X ^ 8 + bytePoly b) * X ^ 8 - bytePoly (crcByte (crc bytes) b)
        = (polyOfBits (bitsOfBytes bytes) * X ^ 8 - bytePoly (crc bytes)) * X ^ 8
          + ((bytePoly (crc bytes) + bytePoly b) * X ^ 8 - bytePoly (crcByte (crc bytes) b)) := by
      ring
    rw [hsplit]
    exact dvd_add (ih.mul_right _) (crcGenerator_dvd_crcByte _ _)

theorem modByMonic_crcGenerator_eq_crc (bytes : List Byte) :
    (polyOfBits (bitsOfBytes bytes) * X ^ 8) %ₘ crcGenerator = bytePoly (crc bytes) :=
  calc (polyOfBits (bitsOfBytes bytes) * X ^ 8) %ₘ crcGenerator
      = bytePoly (crc bytes) %ₘ crcGenerator := modByMonic_eq_of_dvd_sub crcGenerator_monic (crcGenerator_dvd_crc bytes)
    _ = bytePoly (crc bytes) := bytePoly_modByMonic _

/-! ## Where a check byte stands -/

/-- An image passes validation exactly when it passes every test (R151). -/
theorem validateImage_eq_none_iff (image : List Byte) :
    validateImage image = none ↔ ∀ t ∈ fieldTests image, t.passes = true := by
  simp [validateImage]

theorem checkTest_mem_fieldTests (image : List Byte) :
    { offset := 57, passes := byteAt image 57 == crc (image.take 57) } ∈ fieldTests image :=
  List.mem_append_right _ (List.mem_singleton_self _)

theorem byteAt_check_of_validateImage {image : List Byte} (h : validateImage image = none) :
    byteAt image 57 = crc (image.take 57) :=
  beq_iff_eq.mp ((validateImage_eq_none_iff image).mp h _ (checkTest_mem_fieldTests image))

/-- Settles O38: each shift of the CRC is one step of the division by the generator, by induction on the bytes. -/
theorem checkByteIsPolynomialRemainder : Obligations.CheckByteIsPolynomialRemainder :=
  ⟨modByMonic_crcGenerator_eq_crc, by decide +kernel, fun f => ⟨f.payload, rfl⟩,
    fun _ => byteAt_check_of_validateImage⟩

end Sys2Proof.Machine
end

section
/-! PROOF. The invariant of the part taken block by block (R4, R5, R33, R34, R51, R75, R91, R101, R107, R109, R117, R121, R132,
R133, R136, R141, R148, R150): what each block's own record keeps, and that together these are `Part.Inv`. A rule for one block
then speaks of that block's record alone. -/

namespace Sys2Proof.Machine

-- Checked one after another: side by side, each waiting proof keeps a thread of its own.
set_option Elab.async false

/-! ## What each record keeps -/

/-- R5: the outputs stand as a rescue state fixes them. -/
def Outputs.fit (s : RescueState) (o : Outputs) : Prop :=
  o.brakeRelease = (s == .probe || s == .creep) ∧ o.driveEnable = (s == .creep) ∧ o.doorRequest = s.doorRequested
    ∧ o.alarm = s.alarmed

/-- R4: a cause other than none is recorded in BLOCKED and HALTED only. -/
def Cause.fits (s : RescueState) (c : Cause) : Prop := c = .none ∨ s = .blocked ∨ s = .halted

/-- R33, R34. -/
def Pcu.fits (c : Pcu) : Prop := c.waitSeconds ≤ 65535 ∧ c.refusals ≤ 15

/-- R51. -/
def Adu.fits (a : Adu) : Prop :=
  a.heldDraw ≤ a.admittedDraw ∧ (a.isHolder = false → a.heldDraw = 0 ∧ a.admittedDraw = 0)

/-- R75: ascending node order. -/
def recordsAscend (records : List PeerRecord) : Prop := records.Pairwise fun a b => a.node.toNat < b.node.toNat

/-- R107. -/
def ErrorCounters.fits (c : ErrorCounters) : Prop :=
  c.symbol ≤ 255 ∧ c.framing ≤ 255 ∧ c.check ≤ 255 ∧ c.echo ≤ 255 ∧ c.unknownKind ≤ 255 ∧ c.arbitration ≤ 255

/-- R91, R53: a queue in order, in which a Claim stands only while ADU is in QUEUED or CLAIMING. -/
def queueStands (s : AdmissionState) (queue : List Entry) : Prop :=
  (queue.Pairwise fun a b => a.frame.kind.rank < b.frame.kind.rank)
    ∧ ∀ e ∈ queue, e.frame.kind = .claim → s = .queued ∨ s = .claiming

/-- What FRE's record keeps, with the admission state that its Claim belongs to. Where `still` is set nothing is in flight:
the condition of an owed claim report, which is settled after its attempt has ended (R104). -/
structure Fre.Fits (still : Bool) (s : AdmissionState) (r : Fre) : Prop where
  counters : r.counters.fits
  queue    : queueStands s r.queue
  list     : r.list.Pairwise fun a b => a.1.toNat < b.1.toNat
  claimant : ∀ c, r.claimant = some c → ∀ e ∈ r.list, e.1 ≠ c.1
  flying   : ∀ x, r.inFlight = some x → x.kind = .claim → s = .claiming
  held     : ∀ x, r.inFlight = some x → ∀ f, x.held = some (.replace f) → f.kind ≠ .claim
  still    : still = true → r.inFlight = none

/-- R109, R117. -/
def Lif.fits (l : Lif) : Prop := l.integrator ≤ 6 ∧ l.echoRun ≤ 3

/-- R132, R133: the derived conditions stand as their terms. -/
def Liu.conditionsFit (l : Liu) : Prop :=
  (l.stall = true ↔ l.heartbeat ≠ .unsupervised ∧ l.lockout = false
      ∧ (l.heartbeat = .expired ∨ l.mains.level = false ∨ l.controller = some .stalled))
    ∧ (l.cancel = true ↔ l.heartbeat = .healthy ∧ l.mains.level = true ∧ l.controller ≠ some .stalled)

/-- R121, R126. -/
def Liu.countsFit (l : Liu) : Prop := l.repeats ≤ 255 ∧ l.position ≤ 65535

/-- What LIU's record keeps. -/
def Liu.fits (l : Liu) : Prop := l.countsFit ∧ l.conditionsFit

/-- R136, R141: the record of ANU. -/
structure Anu.Fits (a : Anu) : Prop where
  fifo      : a.fifo.length ≤ 16
  volume    : a.volume ≤ 7
  underruns : a.underruns ≤ 255
  refill    : ∀ address count received, a.transaction = .refill address count received →
                received < count ∧ count ≤ 8 ∧ a.fifo.length + (count - received) ≤ 16

/-- R148, R150. -/
def Lpc.fits (l : Lpc) : Prop := l.image.length = 58 ∧ l.portErrors ≤ 255

/-! ## The part -/

/-- Every block but the sequencer keeps what its record keeps, with FRE tied to ADU and PVW to LPC. -/
structure Part.OthersFit (still : Bool) (p : Part) : Prop where
  pcu   : p.pcu.fits
  adu   : p.adu.fits
  pvw   : recordsAscend p.pvw.records
  fre   : p.fre.Fits still p.adu.state
  lif   : p.lif.fits
  liu   : p.liu.fits
  anu   : p.anu.Fits
  lpc   : p.lpc.fits
  peers : p.peersFit

/-- Every block keeps what its record keeps. -/
structure Part.Fits (still : Bool) (p : Part) : Prop extends Part.OthersFit still p where
  outputs : p.rsq.outputs.fit p.rsq.state
  cause   : p.rsq.cause.fits p.rsq.state
  commit  : p.lpc.committed = true ↔ p.rsq.state ≠ .start

/-- The invariant is what the blocks keep. -/
theorem Part.inv_iff_fits (p : Part) : p.Inv ↔ p.Fits false := by
  constructor
  · intro h
    obtain ⟨hw, hr, h1, h2, h3, h4, h5, h6, hrep, hpos, hu, hpe⟩ := h.counts
    obtain ⟨-, hq, hf⟩ := h.claimEntry
    exact {
      pcu := ⟨hw, hr⟩, adu := h.draw, pvw := h.records
      fre := { counters := ⟨h1, h2, h3, h4, h5, h6⟩, queue := ⟨h.queue, hq⟩, list := h.rollCall.1, claimant := h.rollCall.2
               flying := fun x hx => (hf x hx).1, held := fun x hx => (hf x hx).2, still := by simp }
      lif := h.filter, liu := ⟨⟨hrep, hpos⟩, h.conditions⟩
      anu := ⟨h.announcement.1, h.announcement.2.1, hu, h.announcement.2.2⟩
      lpc := ⟨h.commit.1, hpe⟩, peers := h.peers, outputs := h.outputs, cause := h.cause, commit := h.commit.2 }
  · intro h
    obtain ⟨h1, h2, h3, h4, h5, h6⟩ := h.fre.counters
    exact {
      outputs := h.outputs, cause := h.cause, draw := h.adu, filter := h.lif
      counts := ⟨h.pcu.1, h.pcu.2, h1, h2, h3, h4, h5, h6, h.liu.1.1, h.liu.1.2, h.anu.underruns, h.lpc.2⟩
      queue := h.fre.queue.1, rollCall := ⟨h.fre.list, h.fre.claimant⟩, records := h.pvw
      claimEntry := ⟨fun hh e he hk => by
          have := h.fre.queue.2 e he hk; simp only [Adu.isHolder_iff] at hh; grind,
        h.fre.queue.2, fun x hx => ⟨h.fre.flying x hx, h.fre.held x hx⟩⟩
      peers := h.peers, conditions := h.liu.2, announcement := ⟨h.anu.fifo, h.anu.volume, h.anu.refill⟩
      commit := ⟨h.lpc.1, h.commit⟩ }

theorem Part.Fits.committed {still : Bool} {p : Part} (h : p.Fits still) (hs : p.rsq.state ≠ .start) :
    p.lpc.committed = true := h.commit.mpr hs

/-! ## An update of one block -/

section
variable {still : Bool} {p : Part}

theorem Part.OthersFit.mapRsq (h : p.OthersFit still) (f : Rsq → Rsq) : (p.mapRsq f).OthersFit still := { h with }

/-- An update of the sequencer's timers and measurements. -/
theorem Part.Fits.mapRsq (h : p.Fits still) (f : Rsq → Rsq) (hs : (f p.rsq).state = p.rsq.state := by rfl)
    (hc : (f p.rsq).cause = p.rsq.cause := by rfl) (ho : (f p.rsq).outputs = p.rsq.outputs := by rfl) :
    (p.mapRsq f).Fits still :=
  { h.toOthersFit.mapRsq f with
    outputs := by simpa [hs, ho] using h.outputs, cause := by simpa [hs, hc] using h.cause
    commit := by simpa [hs] using h.commit }

/-- A new cause in BLOCKED or HALTED (R4). -/
theorem Part.Fits.mapRsq_cause (h : p.Fits still) (c : Cause) (hs : p.rsq.state = .blocked ∨ p.rsq.state = .halted) :
    (p.mapRsq fun r => { r with cause := c }).Fits still := { h with cause := .inr hs }

theorem Part.Fits.mapPcu (h : p.Fits still) (f : Pcu → Pcu) (hf : (f p.pcu).fits) : (p.mapPcu f).Fits still :=
  { h with pcu := hf }

theorem Part.Fits.mapPvw (h : p.Fits still) (f : Pvw → Pvw) (hf : recordsAscend (f p.pvw).records)
    (hp : (p.mapPvw f).peersFit) : (p.mapPvw f).Fits still := { h with pvw := hf, peers := hp }

/-- An update of the view that leaves its records and the CLAIM in its window. -/
theorem Part.Fits.mapPvw_same (h : p.Fits still) (f : Pvw → Pvw) (hr : (f p.pvw).records = p.pvw.records := by rfl)
    (hc : (f p.pvw).claim = p.pvw.claim := by rfl) : (p.mapPvw f).Fits still :=
  h.mapPvw f (by rw [hr]; exact h.pvw) (by
    have := h.peers
    simpa [peersFit, settings, hr, hc] using this)

theorem Part.Fits.mapAdu (h : p.Fits still) (f : Adu → Adu) (hf : (f p.adu).fits)
    (hr : p.fre.Fits still (f p.adu).state) : (p.mapAdu f).Fits still := { h with adu := hf, fre := hr }

/-- An update of ADU's timers and marks. -/
theorem Part.Fits.mapAdu_same (h : p.Fits still) (f : Adu → Adu) (hs : (f p.adu).state = p.adu.state := by rfl)
    (hh : (f p.adu).heldDraw = p.adu.heldDraw := by rfl) (ha : (f p.adu).admittedDraw = p.adu.admittedDraw := by rfl) :
    (p.mapAdu f).Fits still :=
  h.mapAdu f (by have := h.adu; simpa [Adu.fits, Adu.isHolder, hs, hh, ha] using this) (by rw [hs]; exact h.fre)

theorem Part.Fits.mapFre (h : p.Fits still) {now : Bool} (f : Fre → Fre) (hf : (f p.fre).Fits now p.adu.state) :
    (p.mapFre f).Fits now := { h with fre := hf }

theorem Part.Fits.mapLif (h : p.Fits still) (f : Lif → Lif) (hf : (f p.lif).fits) : (p.mapLif f).Fits still :=
  { h with lif := hf }

/-- An update of LIF that leaves the integrator and the echo run. -/
theorem Part.Fits.mapLif_same (h : p.Fits still) (f : Lif → Lif) (hi : (f p.lif).integrator = p.lif.integrator := by rfl)
    (he : (f p.lif).echoRun = p.lif.echoRun := by rfl) : (p.mapLif f).Fits still :=
  h.mapLif f (by have := h.lif; simpa [Lif.fits, hi, he] using this)

theorem Part.Fits.mapLiu (h : p.Fits still) (f : Liu → Liu) (hf : (f p.liu).fits) : (p.mapLiu f).Fits still :=
  { h with liu := hf }

theorem Part.Fits.mapAnu (h : p.Fits still) (f : Anu → Anu) (hf : (f p.anu).Fits) : (p.mapAnu f).Fits still :=
  { h with anu := hf }

/-- An update of LPC that leaves the image and the commit. -/
theorem Part.Fits.mapLpc (h : p.Fits still) (f : Lpc → Lpc) (hp : (f p.lpc).portErrors ≤ 255)
    (hi : (f p.lpc).image = p.lpc.image := by rfl) (hc : (f p.lpc).committed = p.lpc.committed := by rfl) :
    (p.mapLpc f).Fits still :=
  { h with
    lpc := ⟨by rw [mapLpc_lpc, hi]; exact h.lpc.1, hp⟩
    peers := by have := h.peers; simpa [peersFit, settings, hi, hc] using this
    commit := by simpa [hc] using h.commit }

theorem Part.Fits.mapPins (h : p.Fits still) (f : Pins → Pins) : (p.mapPins f).Fits still := { h with }

theorem Part.Fits.choose (h : p.Fits still) : p.choose.2.Fits still := { h with }

end

end Sys2Proof.Machine
end

section
/-! PROOF. The transmit queue under offers, removals and the ends of attempts (R91, R92, R95, R96, R97): the order of the queue
stands, and a Claim stands in it only while it is sought. -/

namespace Sys2Proof.Machine

-- Checked one after another: side by side, each waiting proof keeps a thread of its own.
set_option Elab.async false

/-! ## The queue -/

/-- Kinds are told apart by their codes. -/
theorem FrameKind.rank_inj {k l : FrameKind} (h : k.rank = l.rank) : k = l := by
  revert h; cases k <;> cases l <;> decide

theorem mem_dropKind {k : FrameKind} {queue : List Entry} {e : Entry} :
    e ∈ dropKind k queue ↔ e ∈ queue ∧ e.frame.kind ≠ k := by simp [dropKind]

theorem mem_insertEntry {e x : Entry} {queue : List Entry} : x ∈ insertEntry e queue ↔ x = e ∨ x ∈ queue := by
  induction queue with
  | nil => simp [insertEntry]
  | cons y ys ih => unfold insertEntry; split <;> simp [ih]; tauto

theorem mem_enqueue {f : Frame} {queue : List Entry} {e : Entry} :
    e ∈ enqueue f queue ↔ e = ⟨f, 0⟩ ∨ e ∈ queue ∧ e.frame.kind ≠ f.kind := by
  simp [enqueue, mem_insertEntry, mem_dropKind]

/-- An entry of a new kind joins in its place (R91). -/
theorem pairwise_insertEntry {e : Entry} {queue : List Entry}
    (h : queue.Pairwise fun a b => a.frame.kind.rank < b.frame.kind.rank) (hne : ∀ x ∈ queue, x.frame.kind ≠ e.frame.kind) :
    (insertEntry e queue).Pairwise fun a b => a.frame.kind.rank < b.frame.kind.rank := by
  induction queue with
  | nil => simp [insertEntry]
  | cons y ys ih =>
    obtain ⟨hy, hys⟩ := List.pairwise_cons.mp h
    have hr : y.frame.kind.rank ≠ e.frame.kind.rank := fun hr => hne y (by simp) (FrameKind.rank_inj hr)
    unfold insertEntry
    split
    · have he : e.frame.kind.rank < y.frame.kind.rank := by omega
      refine List.pairwise_cons.mpr ⟨fun x hx => ?_, h⟩
      rcases List.mem_cons.mp hx with rfl | hx
      · exact he
      · exact he.trans (hy x hx)
    · refine List.pairwise_cons.mpr ⟨fun x hx => ?_, ih hys fun x hx => hne x (by simp [hx])⟩
      rcases mem_insertEntry.mp hx with rfl | hx
      · omega
      · exact hy x hx

section
variable {s : AdmissionState} {queue : List Entry}

theorem queueStands.dropKind (h : queueStands s queue) (k : FrameKind) : queueStands s (dropKind k queue) :=
  ⟨h.1.filter _, fun e he => h.2 e (mem_dropKind.mp he).1⟩

/-- A queue without its Claim stands in every admission state. -/
theorem queueStands.dropClaim (h : queueStands s queue) (s' : AdmissionState) :
    queueStands s' (Machine.dropKind .claim queue) :=
  ⟨h.1.filter _, fun _ he hk => absurd hk (mem_dropKind.mp he).2⟩

theorem queueStands.enqueue (h : queueStands s queue) {f : Frame} (hf : f.kind = .claim → s = .queued ∨ s = .claiming) :
    queueStands s (enqueue f queue) := by
  refine ⟨pairwise_insertEntry (h.1.filter _) fun x hx => (mem_dropKind.mp hx).2, fun e he => ?_⟩
  rcases mem_enqueue.mp he with rfl | ⟨he, -⟩
  · exact hf
  · exact h.2 e he

theorem queueStands.raiseAttempts (h : queueStands s queue) (k : FrameKind) : queueStands s (raiseAttempts k queue) := by
  have kind : ∀ e : Entry, (if e.frame.kind = k then { e with attempts := e.attempts + 1 } else e).frame = e.frame := by
    intro e; split <;> rfl
  refine ⟨?_, ?_⟩
  · simpa [Machine.raiseAttempts, List.pairwise_map, kind] using h.1
  · simpa [Machine.raiseAttempts, kind] using h.2

/-- A held offer is applied; one that would replace a Claim is never held (R92). -/
theorem queueStands.applyHeld (h : queueStands s queue) (k : FrameKind) {held : Option HeldOffer}
    (hh : ∀ f, held = some (.replace f) → f.kind ≠ .claim) : queueStands s (applyHeld k held queue) := by
  unfold Machine.applyHeld
  split
  · exact h.enqueue fun hk => absurd hk (hh _ rfl)
  · exact h.dropKind k
  · exact h

end

/-! ## Offers and removals -/

section
variable {still : Bool} {s : AdmissionState} {r : Fre}

theorem Fre.flying_iff {k : FrameKind} : r.flying k = true ↔ ∃ x, r.inFlight = some x ∧ x.kind = k := by
  unfold flying; split <;> simp_all

/-- The frame engine with another queue. -/
theorem Fre.Fits.withQueue (h : r.Fits still s) {queue : List Entry} (hq : queueStands s queue) :
    ({ r with queue := queue } : Fre).Fits still s := { h with queue := hq }

/-- An offer is held against the entry in flight (R92). -/
theorem Fre.Fits.hold (h : r.Fits still s) (o : HeldOffer) (ho : ∀ f, o = .replace f → f.kind ≠ .claim) :
    (r.hold o).Fits still s := by
  have inv : ∀ x, (r.hold o).inFlight = some x → ∃ y, r.inFlight = some y ∧ x = { y with held := some o } := by
    intro x hx
    simpa [Fre.hold, eq_comm] using hx
  refine { h with flying := fun x hx hk => ?_, held := fun x hx f hf => ?_, still := fun hs => ?_ }
  · obtain ⟨y, hy, rfl⟩ := inv x hx
    exact h.flying y hy hk
  · obtain ⟨y, hy, rfl⟩ := inv x hx
    exact ho f (Option.some.inj hf)
  · simp [Fre.hold, h.still hs]

theorem Fre.Fits.removeKind (h : r.Fits still s) (k : FrameKind) : (r.removeKind k).Fits still s := by
  unfold Fre.removeKind
  split
  · exact h.hold _ (by simp)
  · exact h.withQueue (h.queue.dropKind k)

/-- A frame is put in the queue; a Claim only while it is sought and not on the line. -/
theorem Fre.Fits.put (h : r.Fits still s) {f : Frame} (hf : f.kind = .claim → s = .queued) : (r.put f).Fits still s := by
  unfold Fre.put
  split
  · rename_i hk
    refine h.hold _ fun g hg hc => ?_
    obtain rfl : f = g := by simpa using hg
    obtain ⟨x, hx, hxk⟩ := flying_iff.mp hk
    have := h.flying x hx (hxk.trans hc)
    simp [hf hc] at this
  · exact h.withQueue (h.queue.enqueue fun hc => .inl (hf hc))

theorem Fre.Fits.offer (h : r.Fits still s) {f : Frame} (hf : f.kind = .claim → s = .queued) :
    (r.offer f).Fits still s := by
  unfold Fre.offer
  split
  · exact ((h.put hf).removeKind _).removeKind _
  · exact h.put hf
  · exact h.put hf
  · exact h.put hf

/-! ## The admission state that a Claim belongs to -/

/-- Outside QUEUED and CLAIMING there is no Claim, and every admission state may follow. -/
theorem Fre.Fits.admission (h : r.Fits still s) (hq : s ≠ .queued) (hc : s ≠ .claiming) (s' : AdmissionState) :
    r.Fits still s' :=
  { h with
    queue := ⟨h.queue.1, fun e he hk => by have := h.queue.2 e he hk; simp [hq, hc] at this⟩
    flying := fun x hx hk => absurd (h.flying x hx hk) hc }

/-- A Claim that waits to be sent is taken for sending (R58). -/
theorem Fre.Fits.claiming (h : r.Fits still .queued) : r.Fits still .claiming :=
  { h with
    queue := ⟨h.queue.1, fun _ _ _ => .inr rfl⟩
    flying := fun x hx hk => by have := h.flying x hx hk; simp at this }

/-- A Claim whose attempt has ended waits to be sent again (R60). -/
theorem Fre.Fits.requeued (h : r.Fits true s) : r.Fits true .queued :=
  { h with
    queue := ⟨h.queue.1, fun _ _ _ => .inl rfl⟩
    flying := fun x hx => by simp [h.still rfl] at hx }

/-- With the Claim removed every admission state may follow, as long as the Claim is not on the line. -/
theorem Fre.Fits.removeClaim (h : r.Fits still s) (hn : s ≠ .claiming ∨ still = true) (s' : AdmissionState) :
    (r.removeKind .claim).Fits still s' := by
  have hf : ∀ x, r.inFlight = some x → x.kind ≠ .claim := by
    intro x hx hk
    obtain hn | hn := hn
    · exact hn (h.flying x hx hk)
    · simp [h.still hn] at hx
  have : r.flying .claim = false := by
    rw [Bool.eq_false_iff]; intro hk
    obtain ⟨x, hx, hxk⟩ := flying_iff.mp hk
    exact hf x hx hxk
  simp only [Fre.removeKind, this, Bool.false_eq_true, if_false]
  exact { h with queue := h.queue.dropClaim s', flying := fun x hx hk => absurd hk (hf x hx) }

/-! ## The ends of an attempt -/

theorem saturate_le (top n : Nat) : saturate top n ≤ top := Nat.min_le_left ..

/-- The entry in flight lands: nothing is in flight, and the queue is the one given. -/
theorem Fre.Fits.landed (h : r.Fits still s) {queue : List Entry} (hq : queueStands s queue) :
    ({ r with queue := queue, inFlight := none } : Fre).Fits true s :=
  { h with queue := hq, flying := by simp, held := by simp, still := fun _ => rfl }

theorem Fre.Fits.weaken (h : r.Fits true s) (still : Bool) : r.Fits still s := { h with still := fun _ => h.still rfl }

/-- An error attempt (R96). -/
theorem Fre.Fits.errorAttemptOf (h : r.Fits still s) (k : FrameKind) {held : Option HeldOffer}
    (hh : ∀ f, held = some (.replace f) → f.kind ≠ .claim) : (r.errorAttemptOf k held).Fits true s := by
  have hq : queueStands s (r.errorAttemptOf k held).queue := by
    refine queueStands.applyHeld ?_ k hh
    split
    · exact (h.queue.raiseAttempts k).dropKind k
    · exact h.queue.raiseAttempts k
  exact { h.landed hq with }

theorem Fre.Fits.errorAttempt (h : r.Fits still s) : r.errorAttempt.Fits still s := by
  unfold Fre.errorAttempt
  split
  · rename_i x hx
    exact (h.errorAttemptOf x.kind (h.held x hx)).weaken _
  · exact h

/-- A lost attempt (R95). -/
theorem Fre.Fits.lostAttempt (h : r.Fits still s) : r.lostAttempt.Fits still s := by
  unfold Fre.lostAttempt
  split
  · rename_i x hx
    obtain ⟨h1, h2, h3, h4, h5, -⟩ := h.counters
    exact { (h.landed (h.queue.applyHeld x.kind (h.held x hx))).weaken still with
            counters := ⟨h1, h2, h3, h4, h5, saturate_le ..⟩ }
  · exact h

/-- An attempt that ended clean (R97). -/
theorem Fre.Fits.cleanAttempt (h : r.Fits still s) : r.cleanAttempt.Fits true s := by
  unfold Fre.cleanAttempt
  split
  · rename_i x hx
    exact h.landed ((h.queue.dropKind x.kind).applyHeld x.kind (h.held x hx))
  · rename_i hx
    exact { h with still := fun _ => hx }

theorem Fre.Fits.spoilLost (h : r.Fits still s) : r.spoilLost.Fits still s := by
  obtain ⟨-, e⟩ | ⟨k, -, e⟩ := r.spoilLost_cases <;> rw [e]
  · exact h
  · exact (h.errorAttemptOf k (by simp)).weaken _

end

end Sys2Proof.Machine
end

section
/-! PROOF. The record of ANU under its operations (R136 to R146): the FIFO has room for what a refill has still to bring. -/

namespace Sys2Proof.Machine

-- Checked one after another: side by side, each waiting proof keeps a thread of its own.
set_option Elab.async false

section
variable {a : Anu}

theorem Anu.Fits.startPatience (h : a.Fits) (waiting : Bool) : (a.startPatience waiting).Fits := by
  unfold Anu.startPatience; split
  · exact { h with }
  · exact h

/-- A refill is issued only where the FIFO has room for its 8 bytes (R141). -/
theorem Anu.Fits.refillIssued (h : a.Fits) : (Anu.refill a).Fits := by
  unfold Anu.refill; split
  · rename_i hc
    refine { h with refill := fun address count received ht => ?_ }
    obtain ⟨-, rfl, rfl⟩ := Transaction.refill.inj ht
    dsimp only; omega
  · exact h

/-- A read that is no refill, and the end of every read, leave the FIFO its room. -/
theorem Anu.Fits.noRefill (h : a.Fits) (t : Transaction) (ht : ∀ x y z, t ≠ .refill x y z := by simp) :
    ({ a with transaction := t } : Anu).Fits := { h with refill := fun x y z e => absurd e (ht x y z) }

theorem Anu.Fits.openEntry (h : a.Fits) (number start length : Nat) : (a.openEntry number start length).Fits :=
  Anu.Fits.refillIssued { h with }

theorem Anu.Fits.place (h : a.Fits) (c : Settings) (waiting : Bool) (number : Nat) : (a.place c waiting number).Fits := by
  have lookUp : ({ a with current := some ⟨number, .lookup⟩, patience := .stopped
                          transaction := .lookUp number } : Anu).Fits :=
    { h.noRefill (.lookUp number) (by simp [Transaction.lookUp]) with }
  unfold Anu.place; dsimp only; split
  · refine Anu.Fits.startPatience ?_ _; exact { h with }
  · split
    · split
      · refine Anu.Fits.openEntry ?_ ..; exact { h with }
      · exact lookUp
    · exact lookUp

theorem Anu.Fits.endPhrase (h : a.Fits) (c : Settings) (waiting : Bool) : (a.endPhrase c waiting).Fits := by
  unfold Anu.endPhrase; split
  · refine Anu.Fits.place ?_ ..; exact { h with }
  · refine Anu.Fits.startPatience ?_ _; exact { h with }

theorem Anu.Fits.cut (h : a.Fits) : a.cut.Fits :=
  { h with fifo := by simp [Anu.cut], refill := by simp [Anu.cut] }

theorem Anu.Fits.request (h : a.Fits) (c : Settings) (waiting : Bool) (ev : Announcement) : (a.request c waiting ev).Fits := by
  unfold Anu.request; dsimp only
  repeat' split
  · exact h.cut.startPatience _
  · exact h.cut.place ..
  · exact h.startPatience _
  · exact h.place ..
  · exact { h with }
  · exact { h with }

theorem Anu.Fits.requestMoving (h : a.Fits) (c : Settings) : (a.requestMoving c).1.Fits := by
  unfold Anu.requestMoving; dsimp only
  repeat' split
  · exact h.request c false .moving
  · exact h.request c false .moving
  · exact { h.request c false .moving with }

/-- The oldest sample byte is taken (R142). -/
theorem Anu.Fits.takeSample {b : Byte} {rest : List Byte} (h : a.Fits) (hf : a.fifo = b :: rest) :
    (a.takeSample b rest).Fits := by
  have hl : a.fifo.length = rest.length + 1 := by simp [hf]
  refine Anu.Fits.refillIssued { h with fifo := ?_, refill := fun x y z hz => ?_ }
  · have := h.fifo; dsimp only; omega
  · have := h.refill x y z hz; dsimp only; omega

theorem Anu.Fits.sample (h : a.Fits) (c : Settings) (waiting : Bool) : (a.sample c waiting).1.Fits := by
  unfold Anu.sample
  split
  · split
    · dsimp only; refine Anu.Fits.endPhrase ?_ ..; exact { h with }
    · split
      · exact Anu.Fits.takeSample { h with } (by assumption)
      · exact { h with underruns := saturate_le .. }
  · split
    · exact Anu.Fits.takeSample { h with } (by assumption)
    · exact { h with }
  · exact { h with }
  · exact { h with }

theorem Anu.Fits.directoryDone (h : a.Fits) (c : Settings) (waiting : Bool) (entry : Nat × Nat) :
    (a.directoryDone c waiting entry).1.Fits := by
  unfold Anu.directoryDone
  split
  · dsimp only; split
    · dsimp only; refine Anu.Fits.openEntry ?_ ..; exact { h.noRefill .none with }
    · dsimp only; refine Anu.Fits.endPhrase ?_ ..; exact { h.noRefill .none with }
  · exact h

/-- The next bytes of a refill enter the FIFO, in the room kept for them (R141). -/
theorem Anu.Fits.refillDone (h : a.Fits) (bytes : List Byte) : (a.refillDone bytes).Fits := by
  unfold Anu.refillDone
  split
  · rename_i address count received ht
    obtain ⟨h1, h2, h3⟩ := h.refill address count received ht
    have hl : (bytes.take (count - received)).length ≤ count - received := List.length_take_le ..
    have hf : (a.fifo ++ bytes.take (count - received)).length ≤ 16 := by rw [List.length_append]; omega
    dsimp only; split
    · refine { h with fifo := hf, refill := fun x y z hz => ?_ }
      obtain ⟨-, rfl, rfl⟩ := Transaction.refill.inj hz
      dsimp only; rw [List.length_append]; omega
    · exact Anu.Fits.refillIssued { h with fifo := hf, refill := by simp }
  · exact h
  · exact h

theorem Anu.Fits.patienceExpiry (h : a.Fits) (c : Settings) (waiting : Bool) : (a.patienceExpiry c waiting).Fits := by
  unfold Anu.patienceExpiry; split
  · refine Anu.Fits.request ?_ ..; exact { h with }
  · exact h

theorem Anu.Fits.rescueStateChanged (h : a.Fits) (old new : RescueState) : (a.rescueStateChanged old new).Fits := by
  have hm : (if old = .warn then { a with movingOwed := false } else a).Fits := by
    split
    · exact { h with }
    · exact h
  unfold Anu.rescueStateChanged; dsimp only; split
  · exact hm.startPatience _
  · exact { hm with }

theorem Anu.Fits.commit (h : a.Fits) (image : List Byte) : (a.commit (.ofImage image)).Fits :=
  { h with volume := Nat.min_le_left .. }

end

end Sys2Proof.Machine
end

section
/-! PROOF. The invariant under the operations of RSQ, ADU and PCU (chapters 1 to 3): each entry, report and settlement keeps what
the blocks keep. -/

namespace Sys2Proof.Machine

-- Checked one after another: side by side, each waiting proof keeps a thread of its own.
set_option Elab.async false

/-! ## Admission states that hold nothing -/

theorem Adu.not_isHolder {a : Adu} (h : a.state ≠ .holder) (h' : a.state ≠ .solo) : a.isHolder = false := by
  simp [isHolder, h, h']

/-- The draws of a node that holds nothing are 0 in every state (R51). -/
theorem Adu.fits.keepsDraws {a b : Adu} (h : a.fits) (hn : a.isHolder = false) (hh : b.heldDraw = a.heldDraw := by rfl)
    (ha : b.admittedDraw = a.admittedDraw := by rfl) : b.fits := by
  obtain ⟨h1, h2⟩ := h
  obtain ⟨hz, hz'⟩ := h2 hn
  exact ⟨by omega, fun _ => ⟨by omega, by omega⟩⟩

/-- A granted draw is held whole (R62, R71). -/
theorem Adu.fits_grant {s : AdmissionState} (draw : Nat) (a : Adu) (hs : s = .holder ∨ s = .solo) :
    (a.grant s draw).fits :=
  ⟨le_rfl, fun hn => by obtain rfl | rfl := hs <;> simp [grant, isHolder] at hn⟩

section
variable {still : Bool} {p : Part}

/-! ## Offers -/

theorem Part.buildPresence_kind {f : Frame} (h : p.buildPresence = some f) : f.kind = .presence := by
  unfold buildPresence at h
  split at h
  · cases h; rfl
  · cases h

theorem Part.Fits.offer (h : p.Fits still) {f : Frame} (hf : f.kind = .claim → p.adu.state = .queued) :
    (p.mapFre (Fre.offer f)).Fits still := h.mapFre _ (h.fre.offer hf)

theorem Part.Fits.offerPresence (h : p.Fits still) : p.offerPresence.Fits still := by
  unfold Part.offerPresence
  split
  · rename_i f hf
    exact h.offer (by simp [buildPresence_kind hf])
  · exact h

/-- A Claim is offered for a claim that waits to be sent (R53, R59). -/
theorem Part.Fits.offerClaim (h : p.Fits still) (hs : p.adu.state = .queued) : p.offerClaim.Fits still := by
  unfold Part.offerClaim
  split
  · exact h.offer fun _ => hs
  · exact h

theorem Part.Fits.requestPhrase (h : p.Fits still) (ev : Announcement) : (p.requestPhrase ev).Fits still :=
  h.mapAnu _ (h.anu.request ..)

/-! ## Entries -/

@[simp] theorem Part.changeState_state (new : RescueState) (p : Part) : (p.changeState new).rsq.state = new := by
  simp [changeState]

@[simp] theorem Part.enterAtRest_state (new : RescueState) (p : Part) : (p.enterAtRest new).rsq.state = new := by
  simp [enterAtRest]

theorem Pcu.fits.rescueStateChanged {c : Pcu} (h : c.fits) (old new : RescueState) : (c.rescueStateChanged old new).fits := by
  unfold Pcu.rescueStateChanged
  repeat' split
  all_goals exact h

/-- An entry in service with the outputs of its state and no cause (R4, R5), whatever the sequencer's record was. -/
theorem Part.OthersFit.changeState (h : p.OthersFit still) (hc : p.lpc.committed = true) (f : Rsq → Rsq)
    {new : RescueState} (hn : new ≠ .start) (ho : (f p.rsq).outputs.fit new) (hf : (f p.rsq).cause = .none := by rfl) :
    ((p.mapRsq f).changeState new).Fits still := by
  refine Part.Fits.offerPresence { h with
    pcu := h.pcu.rescueStateChanged .., anu := h.anu.rescueStateChanged .., outputs := ho, cause := .inl hf
    commit := ⟨fun _ => hn, fun _ => hc⟩ }

/-- An entry to a state in which the car is not moved (R5). -/
theorem Part.OthersFit.enterAtRest (h : p.OthersFit still) (hc : p.lpc.committed = true) {new : RescueState}
    (hn : new ≠ .start := by simp) (hp : new ≠ .probe := by simp) (hcr : new ≠ .creep := by simp) :
    (p.enterAtRest new).Fits still :=
  h.changeState hc _ hn (by simp [Outputs.fit, RescueState.restOutputs, hp, hcr])

theorem Part.OthersFit.enterVerify (h : p.OthersFit still) (hc : p.lpc.committed = true) : p.enterVerify.Fits still :=
  (h.enterAtRest hc).mapRsq _

theorem Part.OthersFit.enterWatch (h : p.OthersFit still) (hc : p.lpc.committed = true) : p.enterWatch.Fits still := by
  have hw : ((p.enterAtRest .watch).mapPcu fun c =>
      { c with waitSeconds := 0, refusals := 0, loadOverride := false }).Fits still :=
    (h.enterAtRest hc).mapPcu _ (by simp [Pcu.fits])
  unfold Part.enterWatch; dsimp only; split
  · exact hw.enterVerify (by simpa using hc)
  · exact hw

theorem Part.Fits.enterParked (h : p.Fits still) (hc : p.lpc.committed = true) : p.enterParked.Fits still :=
  h.enterAtRest hc

/-- The holding ends (R66). -/
theorem Part.Fits.ended (h : p.Fits still) (o : ReleaseOutcome) : (p.ended o).Fits still := by
  unfold Part.ended
  split
  · rename_i hh
    have hr : p.fre.Fits still .none := h.fre.admission
      (by intro e; simp [Adu.isHolder, e] at hh) (by intro e; simp [Adu.isHolder, e] at hh) _
    have he := h.mapAdu (fun a =>
      { a with state := .none, heldDraw := 0, admittedDraw := 0, retryTimer := .stopped
               deferralTimer := .stopped, lastRelease := some o }) (by simp [Adu.fits]) hr
    dsimp only; split
    · exact he.offer (by simp [Frame.kind])
    · exact he
  · exact h

/-- The held draw falls to the draw needed (R65). -/
theorem Part.Fits.neededDraw (h : p.Fits still) (needed : Nat) : (p.neededDraw needed).Fits still := by
  unfold Part.neededDraw
  split
  · rename_i hn
    have hl := h.mapAdu (fun a => { a with heldDraw := needed })
      ⟨by have := h.adu.1; dsimp only; omega, fun hf => by have : p.adu.isHolder = false := hf; simp [this] at hn⟩ h.fre
    dsimp only; split
    · exact hl.offer (by simp [Frame.kind])
    · exact hl
  · exact h

theorem Part.Fits.enterLanded (h : p.Fits still) (hc : p.lpc.committed = true) : p.enterLanded.Fits still := by
  have hl : ((p.ended .landed).enterAtRest .landed).Fits still := (h.ended _).enterAtRest (by simpa using hc)
  unfold Part.enterLanded; dsimp only; split
  · exact hl.enterWatch (by simpa using hc)
  · exact hl

theorem Part.Fits.enterDoors (h : p.Fits still) (hc : p.lpc.committed = true) : p.enterDoors.Fits still := by
  unfold Part.enterDoors; dsimp only; split
  · exact Part.Fits.enterLanded (((h.enterAtRest hc).requestPhrase .doors).mapRsq _) (by simpa using hc)
  · exact ((h.enterAtRest hc).requestPhrase .doors).mapRsq _

theorem Part.Fits.enterHalted (h : p.Fits still) (hc : p.lpc.committed = true) (cause : Cause) :
    (p.enterHalted cause).Fits still :=
  (((h.ended .halted).enterAtRest (by simpa using hc)).mapRsq_cause cause (by simp)).requestPhrase .help

theorem Part.Fits.enterLevel (h : p.Fits still) (hc : p.lpc.committed = true) : p.enterLevel.Fits still :=
  (((h.enterAtRest hc).requestPhrase .arrive).mapRsq _).neededDraw _

theorem Part.Fits.enterCreep (h : p.Fits still) (hc : p.lpc.committed = true) : p.enterCreep.Fits still := by
  unfold Part.enterCreep
  refine Part.Fits.mapRsq ?_ _
  refine h.changeState hc _ (by simp) ?_
  simp [Outputs.fit, RescueState.doorRequested, RescueState.alarmed]

theorem Part.Fits.enterProbe (h : p.Fits still) (hc : p.lpc.committed = true) : p.enterProbe.Fits still := by
  unfold Part.enterProbe
  refine Part.Fits.mapRsq ?_ _
  refine h.changeState hc _ (by simp) ?_
  simp [Outputs.fit, RescueState.doorRequested, RescueState.alarmed]

theorem Part.Fits.movingReport (h : p.Fits still) (r : MovingReport) : (p.movingReport r).Fits still := by
  unfold Part.movingReport
  split
  · rename_i hs
    have hc := h.committed (by simp [hs])
    split
    · exact h.enterProbe hc
    · dsimp only; split
      · exact (h.mapRsq fun r => { r with voiceUnavailable := true }).enterProbe hc
      · exact h.mapRsq _
  · exact h

theorem Part.Fits.takeMoving (h : p.Fits still) (r : Option MovingReport) : (p.takeMoving r).Fits still := by
  unfold Part.takeMoving
  split
  · exact h.movingReport _
  · exact h

theorem Part.Fits.enterWarn (h : p.Fits still) (hc : p.lpc.committed = true) : p.enterWarn.Fits still := by
  have hw : ((p.enterAtRest .warn).mapRsq fun r =>
      { r with voiceUnavailable := false, gateTimer := .running Config.gateTime }).Fits still :=
    (h.enterAtRest hc).mapRsq _
  unfold Part.enterWarn
  refine Part.Fits.takeMoving ?_ _
  exact { hw with anu := hw.anu.requestMoving _ }

theorem Part.Fits.enterBlocked (h : p.Fits still) (hc : p.lpc.committed = true) (cause : Cause) :
    (p.enterBlocked cause).Fits still :=
  ((h.enterAtRest hc).mapRsq_cause cause (by simp)).requestPhrase .help

@[simp] theorem Part.enterBlocked_state (cause : Cause) (p : Part) : (p.enterBlocked cause).rsq.state = .blocked := by
  simp [enterBlocked]

/-! ## The admission of a claim -/

/-- ADU leaves DEFER, or stands in no state of a claim, for a state that holds nothing. -/
theorem Part.Fits.withdraw (h : p.Fits still) : p.withdraw.Fits still := by
  unfold Part.withdraw
  split <;> rename_i hs
  · exact h
  · exact h.mapAdu _ (h.adu.keepsDraws (Adu.not_isHolder (by simp [hs]) (by simp [hs])))
      (h.fre.admission (by simp [hs]) (by simp [hs]) _)
  · exact (h.mapFre _ (h.fre.removeKind .claim)).mapAdu _
      (h.adu.keepsDraws (Adu.not_isHolder (by simp [hs]) (by simp [hs])))
      (h.fre.removeClaim (.inl (by simp [hs])) _)
  · exact h.mapAdu_same _
  · exact h.ended _
  · exact h.ended _

theorem Part.Fits.admitted (h : p.Fits still) : p.admitted.Fits still := by
  unfold Part.admitted
  split
  · rename_i hs
    have hc := h.committed (by simp [hs])
    split
    · exact h.enterDoors hc
    · exact h.enterWarn hc
  · exact h

theorem Part.Fits.lineBlocked (h : p.Fits still) : p.lineBlocked.Fits still := by
  unfold Part.lineBlocked
  split
  · rename_i hs
    exact h.enterBlocked (h.committed (by simp [hs])) _
  · exact h

/-- The solo rule, taken where no Claim is on the line (R53, R57, R71). -/
theorem Part.Fits.soloRule (h : p.Fits still) (hs : p.adu.state = .none ∨ p.adu.state = .defer ∨ p.adu.state = .queued) :
    p.soloRule.Fits still := by
  have hn : p.adu.isHolder = false := Adu.not_isHolder (by grind) (by grind)
  have hr := h.mapFre _ (h.fre.removeKind .claim)
  have hc := h.fre.removeClaim (.inl (by grind))
  unfold Part.soloRule; dsimp only; split
  · exact (hr.mapAdu _ (Adu.fits_grant _ _ (.inr rfl)) (hc .solo)).admitted
  · exact (hr.mapAdu _ (h.adu.keepsDraws hn) (hc .none)).lineBlocked

/-- An offered Claim does not depend on the admission record. -/
theorem Part.offerClaim_mapAdu (f : Adu → Adu) (p : Part) : p.offerClaim.mapAdu f = (p.mapAdu f).offerClaim := by
  unfold offerClaim; rw [mapAdu_pcu]; split <;> rfl

/-- The queueing procedure (R53). -/
theorem Part.Fits.queueing (h : p.Fits still) (hs : p.adu.state = .none ∨ p.adu.state = .defer) (asked : Bool) :
    (p.queueing asked).Fits still := by
  have hn : p.adu.isHolder = false := Adu.not_isHolder (by grind) (by grind)
  have hr : ∀ s, p.fre.Fits still s := h.fre.admission (by grind) (by grind)
  unfold Part.queueing
  split
  · exact h.soloRule (by tauto)
  · split
    · refine h.mapAdu _ ?_ (hr _)
      unfold Adu.enterDefer; split
      · exact h.adu
      · exact h.adu.keepsDraws hn
    · rw [offerClaim_mapAdu]
      exact (h.mapAdu _ (h.adu.keepsDraws hn) (hr _)).offerClaim rfl

theorem Part.Fits.seek (h : p.Fits still) : p.seek.Fits still := by
  unfold Part.seek
  split
  · rename_i hs
    exact h.queueing (.inl hs) _
  · split
    · exact h.mapAdu_same _
    · exact h
  all_goals exact h

theorem Part.Fits.lineTest (h : p.Fits still) (hs : p.adu.state = .queued) : p.lineTest.Fits still := by
  unfold Part.lineTest
  split
  · exact h
  · exact h.soloRule (.inr (.inr hs))

theorem Part.Fits.retryTrigger (h : p.Fits still) : p.retryTrigger.Fits still := by
  unfold Part.retryTrigger
  split
  · rename_i hs
    exact h.queueing (.inr hs) _
  · exact h.lineTest (by assumption)
  all_goals exact h

theorem Part.Fits.lineBecameUnavailable (h : p.Fits still) : p.lineBecameUnavailable.Fits still := by
  unfold Part.lineBecameUnavailable
  split
  · exact h.mapAdu_same _
  · exact h

/-! ## PCU's plan and key -/

theorem Part.Fits.reevaluateDeferral (h : p.Fits still) : p.reevaluateDeferral.Fits still := by
  unfold Part.reevaluateDeferral; dsimp only; split
  · rename_i hs
    exact (h.mapPvw_same _).queueing (.inr hs.2) _
  · exact h.mapPvw_same _

theorem Part.Fits.requestPlan (h : p.Fits still) : p.requestPlan.Fits still :=
  Part.Fits.reevaluateDeferral (h.mapPcu _ h.pcu)

theorem Part.Fits.recomputeKey (h : p.Fits still) : p.recomputeKey.Fits still := by
  unfold Part.recomputeKey
  split
  · have hk := h.mapPcu (fun c => { c with plan := p.rekeyedPlan }) h.pcu
    refine Part.Fits.reevaluateDeferral ?_
    split
    · exact hk.offerClaim (by assumption)
    · exact hk.mapAdu_same _
    all_goals exact hk
  · exact h

/-! ## WAIT and BLOCKED -/

/-- Outside WAIT the queueing procedure reaches no entry (R15, R16). -/
theorem Part.queueing_rsq (asked : Bool) (hs : p.rsq.state ≠ .wait) : (p.queueing asked).rsq = p.rsq := by
  have solo : p.soloRule.rsq = p.rsq := by
    unfold soloRule admitted lineBlocked; dsimp only; split <;> simp [hs]
  unfold queueing
  repeat' split
  all_goals simp [solo]

theorem Part.requestPlan_rsq (hs : p.rsq.state ≠ .wait) : p.requestPlan.rsq = p.rsq := by
  unfold requestPlan reevaluateDeferral; dsimp only; split
  · rw [queueing_rsq _ (by simpa using hs)]; rfl
  · rfl

theorem Part.Fits.enterWait (h : p.Fits still) (hc : p.lpc.committed = true) (confirm : Bool) :
    (p.enterWait confirm).Fits still := by
  have hw : (p.enterAtRest .wait).Fits still := h.enterAtRest hc
  unfold Part.enterWait; dsimp only
  refine Part.Fits.seek ?_
  split
  · exact hw.requestPhrase _
  · exact hw

/-- A clearing event (R14). -/
theorem Part.Fits.replanBlocked (h : p.Fits still) (hs : p.rsq.state = .blocked) : p.replanBlocked.Fits still := by
  have hp := h.requestPlan
  unfold Part.replanBlocked; dsimp only; split
  · exact hp.mapRsq_cause _ (.inl (by rw [requestPlan_rsq (by simp [hs]), hs]))
  · exact hp.enterWait (by simpa using h.committed (by simp [hs])) _

@[simp] theorem Part.withdrawToBlocked_state (cause : Cause) (p : Part) :
    (p.withdrawToBlocked cause).rsq.state = .blocked := enterBlocked_state ..

theorem Part.Fits.withdrawToBlocked (h : p.Fits still) (hc : p.lpc.committed = true) (cause : Cause) :
    (p.withdrawToBlocked cause).Fits still := h.withdraw.enterBlocked (by simpa using hc) cause

/-- The case decision (R11). -/
theorem Part.Fits.decideCase (h : p.Fits still) (hc : p.lpc.committed = true) : p.decideCase.Fits still := by
  have hz := h.mapPcu (fun c => { c with waitSeconds := 0 }) ⟨Nat.zero_le _, h.pcu.2⟩
  unfold Part.decideCase
  split
  · exact h.enterParked hc
  · dsimp only; split
    · exact hz.enterBlocked hc _
    · split
      · exact hz.requestPlan.enterBlocked (by simpa using hc) _
      · exact hz.requestPlan.enterWait (by simpa using hc) _

/-- A REPLAN (R22). -/
theorem Part.Fits.replan (h : p.Fits still) (hc : p.lpc.committed = true) : p.replan.Fits still := by
  have hw : (((p.ended .replan).mapPcu fun c => { c with loadOverride := true }).enterAtRest .wait).Fits still :=
    ((h.ended _).mapPcu _ (h.ended _).pcu).enterAtRest (by simpa using hc)
  unfold Part.replan; dsimp only; split
  · exact hw.enterWatch (by simpa using hc)
  · split
    · exact hw.requestPlan.enterBlocked (by simpa using hc) _
    · exact hw.requestPlan.seek

/-- The end of a holding and a lowered draw do not depend on the sequencer's record. -/
theorem Part.ended_mapRsq (o : ReleaseOutcome) (f : Rsq → Rsq) (p : Part) :
    (p.mapRsq f).ended o = (p.ended o).mapRsq f := by
  rw [ended_eq, ended_eq]; rfl

theorem Part.neededDraw_mapRsq (needed : Nat) (f : Rsq → Rsq) (p : Part) :
    (p.mapRsq f).neededDraw needed = (p.neededDraw needed).mapRsq f := by
  have hl : ((p.mapRsq f).mapAdu fun a => { a with heldDraw := needed }).lineAvailable
      = (p.mapAdu fun a => { a with heldDraw := needed }).lineAvailable := rfl
  unfold neededDraw; simp only [mapRsq_adu, hl]
  repeat' split
  all_goals rfl

/-- The outputs that the end of the race writes are written again by the entry that follows it (R5). -/
theorem Part.raceEnds_eq (outcome : ProbeOutcome) (p : Part) :
    p.raceEnds outcome =
      match p.settings.probeReplan p.pcu.plan p.adu.admittedDraw p.liu.position outcome with
      | .proceed needed retarget =>
        ((p.mapPcu fun c => { c with plan := c.plan.retargeted retarget }).neededDraw needed).enterCreep
      | .replan => p.replan := by
  have rest : ∀ f : Pcu → Pcu,
      (((p.mapOutputs fun o => { o with brakeRelease := false }).ended .replan).mapPcu f).enterAtRest .wait
        = ((p.ended .replan).mapPcu f).enterAtRest .wait := by
    intro f; rw [mapOutputs, ended_mapRsq]; rfl
  have creep : ∀ q : Part, (q.mapOutputs fun o => { o with brakeRelease := false }).enterCreep = q.enterCreep := fun _ => rfl
  have replans : (p.mapOutputs fun o => { o with brakeRelease := false }).replan = p.replan := by
    unfold replan; simp only [rest]
  have comm : ∀ f : Pcu → Pcu, (p.mapOutputs fun o => { o with brakeRelease := false }).mapPcu f
      = (p.mapPcu f).mapOutputs fun o => { o with brakeRelease := false } := fun _ => rfl
  have e : (p.mapOutputs fun o => { o with brakeRelease := false }).settings = p.settings := rfl
  unfold raceEnds
  simp only [mapOutputs_pcu, mapOutputs_adu, mapOutputs_liu, e, replans, comm]
  cases p.settings.probeReplan p.pcu.plan p.adu.admittedDraw p.liu.position outcome with
  | proceed needed retarget =>
    dsimp only
    rw [mapOutputs, neededDraw_mapRsq]
    exact creep _
  | replan => rfl

/-- The probe race ends (R20, R21). -/
theorem Part.Fits.raceEnds (h : p.Fits still) (hc : p.lpc.committed = true) (outcome : ProbeOutcome) :
    (p.raceEnds outcome).Fits still := by
  rw [raceEnds_eq]
  split
  · exact (Part.Fits.neededDraw (h.mapPcu _ h.pcu) _).enterCreep (by simpa using hc)
  · exact h.replan hc

/-! ## Reports that RSQ takes -/

theorem Part.Fits.stallRaised (h : p.Fits still) : p.stallRaised.Fits still := by
  unfold Part.stallRaised
  split
  · rename_i hs
    exact h.enterVerify (h.committed (by simp [hs]))
  · exact h

theorem Part.Fits.stallWithdrawn (h : p.Fits still) : p.stallWithdrawn.Fits still := by
  unfold Part.stallWithdrawn
  split
  · rename_i hs
    exact h.enterWatch (h.committed (by simp [hs]))
  · exact h

theorem Part.Fits.cancelHolds (h : p.Fits still) : p.cancelHolds.Fits still := by
  have hc := h.commit.mpr
  unfold Part.cancelHolds
  split <;> rename_i hs <;> simp only [hs] at hc
  · exact h.enterWatch (hc (by simp))
  · exact h.enterWatch (hc (by simp))
  · exact h.enterWatch (hc (by simp))
  · exact h.enterWatch (hc (by simp))
  · exact h.withdraw.enterWatch (by simpa using hc)
  · exact (h.ended _).enterWatch (by simpa using hc)
  all_goals exact h

theorem Part.Fits.chainOpens (h : p.Fits still) : p.chainOpens.Fits still := by
  have hc := h.commit.mpr
  unfold Part.chainOpens
  split <;> rename_i hs <;> simp only [hs] at hc
  · exact h.mapRsq_cause _ (.inl hs)
  · exact h.withdrawToBlocked (hc (by simp)) _
  · exact (h.ended _).enterBlocked (by simpa using hc) _
  · exact h.enterHalted (hc (by simp)) _
  · exact h.enterHalted (hc (by simp)) _
  · exact h.enterHalted (hc (by simp)) _
  all_goals exact h

theorem Part.Fits.clears (h : p.Fits still) (causes : List Cause) : (p.clears causes).Fits still := by
  unfold Part.clears
  split
  · rename_i hs
    exact h.replanBlocked hs.1
  · exact h

theorem Part.Fits.validChanged (h : p.Fits still) (valid : Bool) : (p.validChanged valid).Fits still := by
  unfold Part.validChanged
  split
  · rename_i hs
    exact h.withdrawToBlocked (h.committed (by simp [hs.1])) _
  · exact h.clears _

theorem Part.Fits.endCreep (h : p.Fits still) (hc : p.lpc.committed = true) (e : CreepEnd) : (p.endCreep e).Fits still := by
  cases e with
  | arrival => exact h.enterLevel hc
  | failure cause => exact h.enterHalted hc cause

theorem Part.Fits.testTarget (h : p.Fits still) : p.testTarget.Fits still := by
  unfold Part.testTarget
  split
  · rename_i hs
    split
    · exact h.endCreep (h.committed (by simp [hs])) _
    · exact h
  · exact h

theorem Part.Fits.inputChanged (h : p.Fits still) (i : Input) (level : Bool) : (p.inputChanged i level).Fits still := by
  cases i with
  | mains => exact h
  | chain =>
    unfold Part.inputChanged; dsimp only; split
    · exact h.clears _
    · exact h.chainOpens
  | doorZone =>
    unfold Part.inputChanged; dsimp only; split
    · rename_i hs
      exact h.enterVerify (h.committed (by simp [hs.1]))
    · exact h.testTarget
  | doorsOpen =>
    unfold Part.inputChanged; dsimp only; repeat' split
    · rename_i hs
      exact h.enterVerify (h.committed (by simp [hs.1]))
    · rename_i hs
      exact h.enterLanded (h.committed (by simp [hs.1]))
    · exact h
  | brakeFeedback =>
    unfold Part.inputChanged; dsimp only; split
    · rename_i hs
      repeat' split
      · exact h.mapRsq _
      · exact h.enterHalted (h.committed (by simp [hs])) _
      · exact h
    · exact h

/-! ## Encoder steps -/

theorem Part.Fits.probeStep (h : p.Fits still) (hc : p.lpc.committed = true) (d : Dir) : (p.probeStep d).Fits still := by
  have hp := h.mapRsq fun r => { r with probePulses := r.probePulses + 1, probeNet := r.probeNet + Dir.millimetres d }
  unfold Part.probeStep; dsimp only; split
  · exact hp.raceEnds hc _
  · exact hp

theorem Part.Fits.firstOf (h : p.Fits still) (hc : p.lpc.committed = true) (ends : List CreepEnd) :
    (p.firstOf ends).Fits still := by
  unfold Part.firstOf
  split
  · exact h
  · exact h.endCreep hc _
  · exact h.choose.endCreep hc _

theorem Part.Fits.creepStep (h : p.Fits still) (hc : p.lpc.committed = true) (d : Dir) : (p.creepStep d).Fits still := by
  have count : ∀ r : Rsq, (r.countStep p.pcu.plan.direction d).state = r.state
      ∧ (r.countStep p.pcu.plan.direction d).cause = r.cause
      ∧ (r.countStep p.pcu.plan.direction d).outputs = r.outputs := by
    intro r; unfold Rsq.countStep; split <;> simp
  obtain ⟨hs, hcause, ho⟩ := count p.rsq
  exact (h.mapRsq _ hs hcause ho).firstOf hc _

theorem Part.Fits.stepEvent (h : p.Fits still) (d : Dir) : (p.stepEvent d).Fits still := by
  have hc := h.commit.mpr
  unfold Part.stepEvent
  split <;> rename_i hs <;> simp only [hs] at hc
  · exact h.probeStep (hc (by simp)) d
  · exact h.creepStep (hc (by simp)) d
  · exact h.mapRsq _
  all_goals exact h

/-! ## S_eff -/

theorem Part.Fits.limitChanged (h : p.Fits still) : p.limitChanged.Fits still := by
  unfold Part.limitChanged
  split
  · rename_i hs
    split
    · have hb := ((h.mapPcu (fun c => { c with plan := { c.plan with blockCause := .infeasible } })
        h.pcu).withdrawToBlocked (h.committed (by simp [hs])) .infeasible).choose
      dsimp only; split
      · exact hb
      · exact hb.replanBlocked (by simp)
    · exact h
  · exact h.clears _

theorem Part.Fits.recomputeLimit (h : p.Fits still) : p.recomputeLimit.Fits still := by
  have hl := h.mapPvw_same fun v =>
    { v with sEff := some (effectiveLimit p.settings.storeLimit p.pvw.records)
             mismatch := mismatchSeen p.settings.storeLimit v.records }
  unfold Part.recomputeLimit; dsimp only; split
  · exact hl.limitChanged
  · exact hl

end

/-! ## Claim reports: with nothing in flight -/

section
variable {p : Part}

theorem Part.Fits.weaken (h : p.Fits true) (still : Bool) : p.Fits still := { h with fre := h.fre.weaken still }

/-- A claim that is reported lost or spoiled waits to be sent again (R60). -/
theorem Part.Fits.requeue (h : p.Fits true) (hs : p.adu.state = .claiming) : p.requeue.Fits true := by
  have hq := h.mapAdu (fun a => { a with state := .queued, pendingKey := false })
    (h.adu.keepsDraws (Adu.not_isHolder (by simp [hs]) (by simp [hs]))) h.fre.requeued
  unfold Part.requeue; dsimp only
  repeat' split
  · exact hq.offerClaim rfl
  · exact (hq.offerClaim rfl).mapAdu_same _
  · exact hq
  · exact hq.mapAdu_same _

/-- ADU in CLAIMING, its Claim gone from the queue, enters DEFER (R61, R63). -/
theorem Part.Fits.deferAndRetry (h : p.Fits true) (hn : p.adu.isHolder = false) (hr : ∀ s, p.fre.Fits true s) :
    p.deferAndRetry.Fits true := by
  refine h.mapAdu _ (h.adu.keepsDraws hn ?_ ?_) (hr _)
  all_goals dsimp only; unfold Adu.enterDefer; split <;> rfl

/-- In CLAIMING a new key is only marked (R59). -/
theorem Part.recomputeKey_claiming (hs : p.adu.state = .claiming) :
    p.recomputeKey.fre = p.fre ∧ p.recomputeKey.adu.state = .claiming := by
  unfold recomputeKey reevaluateDeferral
  split <;> simp [hs]

/-- A refusal, with the Claim gone from the queue (R63): the key is recomputed in CLAIMING, where no Claim is offered. -/
theorem Part.Fits.refused (h : p.Fits true) (hs : p.adu.state = .claiming) (hr : ∀ s, p.fre.Fits true s) :
    p.refused.Fits true := by
  have hk := Part.Fits.recomputeKey (h.mapPcu
    (fun c => { c with refusals := saturate Config.refusalTop c.refusals }) ⟨h.pcu.1, saturate_le ..⟩)
  obtain ⟨hf, ha⟩ := recomputeKey_claiming
    (p := p.mapPcu fun c => { c with refusals := saturate Config.refusalTop c.refusals }) hs
  exact hk.deferAndRetry (Adu.not_isHolder (by simp [ha]) (by simp [ha])) (by rw [hf]; exact hr)

/-- The settlement of a withdrawn claim (R69). -/
theorem Part.Fits.settleWithdrawn (h : p.Fits true) (hs : p.adu.state = .claiming) (report : ClaimReport) :
    (p.settleWithdrawn report).Fits true := by
  have hn : p.adu.isHolder = false := Adu.not_isHolder (by simp [hs]) (by simp [hs])
  have hr := h.fre.removeClaim (.inr rfl)
  have hw := (h.mapFre _ (hr _)).mapAdu_same fun a => { a with withdrawn := false, pendingKey := false }
  have hz := hw.mapAdu (fun a => { a with state := .none, retryTimer := .stopped }) (h.adu.keepsDraws hn) (hr _)
  unfold Part.settleWithdrawn; dsimp only
  repeat' split
  · exact (hw.mapAdu _ (Adu.fits_grant _ _ (.inl rfl)) (hr _)).ended _
  all_goals exact hz

/-- A withdrawn claim that is settled leaves no claim. -/
theorem Part.settleWithdrawn_state (report : ClaimReport) (p : Part) : (p.settleWithdrawn report).adu.state = .none := by
  unfold settleWithdrawn; dsimp only
  repeat' split
  · simp [ended_eq, Adu.released, Adu.grant]
  all_goals rfl

/-- ADU takes a claim report (R58 to R63, R69, R70). -/
theorem Part.Fits.claimReport (h : p.Fits true) (report : ClaimReport) : (p.claimReport report).Fits true := by
  unfold Part.claimReport
  split
  · rename_i hs
    have hr := h.fre.removeClaim (.inr rfl)
    have hq := h.mapFre _ (hr p.adu.state)
    split
    · have hw := (h.settleWithdrawn hs report).mapAdu_same fun a => { a with pendingSeek := false }
      dsimp only; split
      · exact hw.queueing (.inl (p.settleWithdrawn_state report)) true
      · exact hw
    · cases report with
      | lost | spoiled => exact h.requeue hs
      | dropped => exact hq.deferAndRetry (Adu.not_isHolder (by simp [hs]) (by simp [hs])) hr
      | clean draw list =>
        dsimp only; split
        · exact Part.Fits.admitted (((hq.mapAdu _ (Adu.fits_grant _ _ (.inl rfl)) (hr _))).mapAdu_same _)
        · exact hq.refused hs hr
  · exact h

end

end Sys2Proof.Machine
end

section
/-! PROOF. The invariant under the operations of PVW (chapter 4): the records stay in ascending node order, and none is the
node's own. -/

namespace Sys2Proof.Machine

-- Checked one after another: side by side, each waiting proof keeps a thread of its own.
set_option Elab.async false

/-! ## The records -/

section
variable {n own : Node} {f : PeerRecord → PeerRecord} {records : List PeerRecord}

theorem mem_upsert {r : PeerRecord} (hf : ∀ r, (f r).node = r.node) (h : r ∈ upsert n f records) :
    r.node = n ∨ r ∈ records := by
  induction records with
  | nil => simp_all [upsert, PeerRecord.blank]
  | cons x xs ih =>
    unfold upsert at h
    split at h
    · rename_i hx
      rcases List.mem_cons.mp h with rfl | h
      · exact .inl ((hf x).trans hx)
      · exact .inr (by simp [h])
    · split at h
      · rcases List.mem_cons.mp h with rfl | h
        · exact .inl (hf _)
        · exact .inr h
      · rcases List.mem_cons.mp h with rfl | h
        · exact .inr (by simp)
        · exact (ih h).imp_right fun h => by simp [h]

/-- An update keeps the order, in its place or by a new record (R75, R77). -/
theorem recordsAscend.upsert (h : recordsAscend records) (hf : ∀ r, (f r).node = r.node) :
    recordsAscend (upsert n f records) := by
  induction records with
  | nil => simp [Machine.upsert, recordsAscend]
  | cons x xs ih =>
    obtain ⟨hx, hxs⟩ := List.pairwise_cons.mp h
    unfold Machine.upsert
    split
    · exact List.pairwise_cons.mpr ⟨fun y hy => by rw [hf]; exact hx y hy, hxs⟩
    · rename_i hne
      split
      · rename_i hlt
        refine List.pairwise_cons.mpr ⟨fun y hy => ?_, h⟩
        rw [hf]
        rcases List.mem_cons.mp hy with rfl | hy
        · exact hlt
        · exact hlt.trans (hx y hy)
      · rename_i hge
        have hlt : x.node.toNat < n.toNat := by
          have : x.node.toNat ≠ n.toNat := fun e => hne (BitVec.eq_of_toNat_eq e)
          omega
        refine List.pairwise_cons.mpr ⟨fun y hy => ?_, ih hxs⟩
        rcases mem_upsert hf hy with hy | hy
        · rw [hy]; exact hlt
        · exact hx y hy

/-- The records are all of peers. -/
def recordsOfPeers (own : Node) (records : List PeerRecord) : Prop := ∀ r ∈ records, r.node ≠ own

theorem recordsOfPeers.upsert (h : recordsOfPeers own records) (hn : n ≠ own) (hf : ∀ r, (f r).node = r.node) :
    recordsOfPeers own (upsert n f records) := by
  intro r hr
  rcases mem_upsert hf hr with hr | hr
  · rwa [hr]
  · exact h r hr

/-- The entries of a clean list (R80). -/
theorem applyEntries_keeps {entries : List (Node × Nat)} (ha : recordsAscend records) (hp : recordsOfPeers own records)
    (he : ∀ e ∈ entries, e.1 ≠ own) :
    recordsAscend (applyEntries entries records) ∧ recordsOfPeers own (applyEntries entries records) := by
  induction entries generalizing records with
  | nil => exact ⟨ha, hp⟩
  | cons e es ih =>
    exact ih (ha.upsert fun _ => rfl) (hp.upsert (he e (by simp)) fun _ => rfl) fun x hx => he x (by simp [hx])

end

/-! ## The view of the part -/

section
variable {still : Bool} {p : Part}

/-- In service the records are of peers, and so is a CLAIM kept for its window (R75). -/
theorem Part.Fits.peers_committed (h : p.Fits still) (hc : p.lpc.committed = true) :
    recordsOfPeers p.settings.node p.pvw.records ∧ ∀ c, p.pvw.claim = some c → c.1 ≠ p.settings.node :=
  h.peers.2 hc

/-- An update of the view in service. -/
theorem Part.Fits.updateView (h : p.Fits still) (hc : p.lpc.committed = true) (f : Pvw → Pvw)
    (ha : recordsAscend (f p.pvw).records) (hp : recordsOfPeers p.settings.node (f p.pvw).records)
    (hcl : ∀ c, (f p.pvw).claim = some c → c.1 ≠ p.settings.node) : (p.mapPvw f).Fits still :=
  h.mapPvw f ha ⟨fun hn => by simp [hc] at hn, fun _ => ⟨hp, hcl⟩⟩

/-- The record of a peer is updated. -/
theorem Part.Fits.upsert (h : p.Fits still) (hc : p.lpc.committed = true) {n : Node} (hn : n ≠ p.settings.node)
    {f : PeerRecord → PeerRecord} (hf : ∀ r, (f r).node = r.node := by intro; rfl) :
    (p.mapPvw fun v => { v with records := upsert n f v.records }).Fits still := by
  obtain ⟨hp, hcl⟩ := h.peers_committed hc
  exact h.updateView hc _ (h.pvw.upsert hf) (hp.upsert hn hf) hcl

theorem Part.Fits.updateRecord (h : p.Fits still) (hc : p.lpc.committed = true) {n : Node} (hn : n ≠ p.settings.node)
    {f : PeerRecord → PeerRecord} (always : Bool) (hf : ∀ r, (f r).node = r.node := by intro; rfl) :
    (p.updateRecord n f always).Fits still := by
  unfold Part.updateRecord; dsimp only; split
  · exact (h.upsert hc hn hf).recomputeLimit
  · exact h.upsert hc hn hf

theorem Part.Fits.setLastReleased (h : p.Fits still) (n : Node) : (p.setLastReleased n).Fits still := by
  unfold Part.setLastReleased
  split
  · exact h
  · exact Part.Fits.recomputeKey (h.mapPvw_same _)

/-- A peer's frame (R78, R79, R82, R83). -/
theorem Part.Fits.peerFrame (h : p.Fits still) {f : Frame} (hf : p.ownNode ≠ some f.node) : (p.peerFrame f).Fits still := by
  unfold Part.peerFrame
  split
  · rename_i hc
    have hn : f.node ≠ p.settings.node := by
      intro e; simp [ownNode, hc, e] at hf
    cases f with
    | presence n b => exact (h.updateRecord hc hn _).reevaluateDeferral
    | adjust n d => exact (h.updateRecord hc hn _).reevaluateDeferral
    | release o n => exact ((h.updateRecord hc hn _).setLastReleased n).reevaluateDeferral
    | claim k u =>
      obtain ⟨hp, -⟩ := h.peers_committed hc
      have hk := h.updateView hc (fun v => { v with claim := some (Frame.node (.claim k u), u) }) h.pvw hp
        (by rintro _ ⟨⟩; exact hn)
      exact (hk.updateRecord hc hn _).reevaluateDeferral
  · exact h

theorem Part.Fits.spoiledWindow (h : p.Fits still) : p.spoiledWindow.Fits still :=
  h.mapPvw _ h.pvw ⟨fun hc => ⟨(h.peers.1 hc).1, rfl⟩, fun hc => ⟨(h.peers.2 hc).1, by simp⟩⟩

/-- The frame end of a clean window (R80, R81). -/
theorem Part.Fits.cleanWindow (h : p.Fits still) (list : List (Node × Nat)) : (p.cleanWindow list).Fits still := by
  unfold Part.cleanWindow
  split
  · rename_i hc
    obtain ⟨hp, hcl⟩ := h.peers_committed hc
    obtain ⟨ha, hp'⟩ := applyEntries_keeps (entries := peerEntries p.settings.node list) h.pvw hp (by simp [peerEntries])
    have he := h.updateView hc (fun v => { v with records := applyEntries (peerEntries p.settings.node list) v.records })
      ha hp' hcl
    have judged : ∀ q : Part, q.Fits still → q.lpc = p.lpc → Part.Fits still (
        match q.pvw.claim with
        | some (n, u) =>
          if q.claimFits u list then q.mapPvw fun v => { v with records := Machine.upsert n (.inferHolder u) v.records } else q
        | none => q) := by
      intro q hq hl
      have hqc : q.lpc.committed = true := by rw [hl, hc]
      split
      · rename_i n u hcl
        split
        · exact hq.upsert hqc ((hq.peers_committed hqc).2 _ hcl)
        · exact hq
      · exact hq
    refine Part.Fits.reevaluateDeferral (Part.Fits.spoiledWindow (judged _ ?_ ?_)) <;> split
    · exact he.recomputeLimit
    · exact he
    · simp
    · rfl
  · exact h

theorem recordOf_mem {n : Node} {records : List PeerRecord} {r : PeerRecord} (h : recordOf n records = some r) :
    r ∈ records ∧ r.node = n :=
  ⟨List.mem_of_find?_eq_some h, by simpa using List.find?_some h⟩

/-- A node with a record is a peer, of a part in service (R75). -/
theorem Part.Fits.recordOf_peer (h : p.Fits still) {n : Node} {r : PeerRecord} (hr : recordOf n p.pvw.records = some r) :
    p.lpc.committed = true ∧ n ≠ p.settings.node := by
  obtain ⟨hm, hn⟩ := recordOf_mem hr
  have hc : p.lpc.committed = true := by
    rw [← Bool.not_eq_false]; intro hc
    simp [(h.peers.1 hc).1] at hm
  exact ⟨hc, hn ▸ (h.peers_committed hc).1 r hm⟩

/-- A record reaches the age at which it is stale (R76). -/
theorem Part.Fits.recordReachesStale (h : p.Fits still) (n : Node) : (p.recordReachesStale n).Fits still := by
  unfold Part.recordReachesStale
  split
  · rename_i r hr
    obtain ⟨hc, hn⟩ := h.recordOf_peer hr
    split
    · exact (h.upsert hc hn).recomputeLimit.reevaluateDeferral
    · exact h
  · exact h

/-- A record reaches the age at which it is removed (R76). -/
theorem Part.Fits.recordReachesRemoval (h : p.Fits still) (n : Node) : (p.recordReachesRemoval n).Fits still := by
  unfold Part.recordReachesRemoval
  split
  · rename_i r hr
    obtain ⟨hc, -⟩ := h.recordOf_peer hr
    obtain ⟨hp, hcl⟩ := h.peers_committed hc
    split
    · exact Part.Fits.reevaluateDeferral
        (h.updateView hc _ (h.pvw.filter _) (fun r hr => hp r (List.mem_filter.mp hr).1) hcl)
    · exact h
  · exact h

end

end Sys2Proof.Machine
end

section
/-! PROOF. The invariant under the operations of FRE and LIF (chapters 5 and 6). -/

namespace Sys2Proof.Machine

-- Checked one after another: side by side, each waiting proof keeps a thread of its own.
set_option Elab.async false

section
variable {still : Bool} {p : Part}

/-! ## The filtered line -/

/-- An update of FRE that leaves its counters, its queue, the entry in flight and the roll call. -/
theorem Fre.Fits.same {s : AdmissionState} {r r' : Fre} (h : r.Fits still s) (hc : r'.counters = r.counters := by rfl)
    (hq : r'.queue = r.queue := by rfl) (hi : r'.inFlight = r.inFlight := by rfl) (hl : r'.list = r.list := by rfl)
    (hcl : r'.claimant = r.claimant := by rfl) : r'.Fits still s where
  counters := hc ▸ h.counters
  queue := hq ▸ h.queue
  list := hl ▸ h.list
  claimant := by rw [hcl, hl]; exact h.claimant
  flying := by rw [hi]; exact h.flying
  held := by rw [hi]; exact h.held
  still := by rw [hi]; exact h.still

theorem Part.Fits.lineTurnsDriven (h : p.Fits still) : p.lineTurnsDriven.Fits still := by
  unfold Part.lineTurnsDriven
  split
  · exact h
  · exact (h.mapPins _).mapLif _ ⟨le_rfl, h.lif.2⟩

theorem Part.Fits.lineTurnsReleased (h : p.Fits still) : p.lineTurnsReleased.Fits still :=
  (h.mapPins _).mapLif _ ⟨Nat.zero_le _, h.lif.2⟩

theorem Part.Fits.othersDrive (h : p.Fits still) : p.othersDrive.Fits still := h.mapPins _

/-! ## Errors and duplicates -/

theorem ErrorCounters.fits.count {c : ErrorCounters} (h : c.fits) (k : ErrorKind) : (c.count k).fits := by
  obtain ⟨h1, h2, h3, h4, h5, h6⟩ := h
  have hs : ∀ n, saturate Config.countTop n ≤ 255 := saturate_le 255
  cases k
  · exact ⟨hs _, h2, h3, h4, h5, h6⟩
  · exact ⟨h1, hs _, h3, h4, h5, h6⟩
  · exact ⟨h1, h2, hs _, h4, h5, h6⟩
  · exact ⟨h1, h2, h3, h4, hs _, h6⟩

theorem Fre.Fits.countError {s : AdmissionState} {r : Fre} (h : r.Fits still s) (k : Option ErrorKind) :
    (r.countError k).Fits still s := by
  unfold Fre.countError
  split
  · exact { h with counters := h.counters.count _ }
  · exact h

theorem Part.Fits.attemptFails (h : p.Fits still) : p.attemptFails.Fits still :=
  (h.mapFre _ h.fre.errorAttempt).mapLif_same _

theorem Part.Fits.discard (h : p.Fits still) : (p.mapFre Fre.discard).Fits still := h.mapFre _ h.fre.same

/-- The traffic in progress is given up (R100, R103). -/
theorem Part.Fits.abandon (h : p.Fits still) (k : Option ErrorKind) (mark : Bool) : (p.abandon k mark).Fits still := by
  have hc := h.mapFre _ (h.fre.countError k)
  refine Part.Fits.discard (Part.Fits.mapLif_same ?_ _)
  split
  · exact hc.attemptFails
  · exact hc

theorem Part.Fits.recordDuplicate (h : p.Fits still) : p.recordDuplicate.Fits still := by
  have hd := (h.mapFre (fun r => { r with duplicate := true }) h.fre.same).mapLif_same fun l => { l with tx := none }
  unfold Part.recordDuplicate; dsimp only; split
  · exact hd.lineBecameUnavailable
  · exact hd

theorem Part.Fits.spoilLost (h : p.Fits still) : (p.mapFre Fre.spoilLost).Fits still := h.mapFre _ h.fre.spoilLost

theorem Part.Fits.duplicateFrame (h : p.Fits still) : p.duplicateFrame.Fits still := h.recordDuplicate.spoilLost.discard

theorem Part.Fits.duplicateResponse (h : p.Fits still) : p.duplicateResponse.Fits still :=
  h.recordDuplicate.spoilLost.abandon _ _

/-! ## Reception -/

theorem Part.Fits.takeBit (h : p.Fits still) (b : Bool) : (p.takeBit b).Fits still := by
  unfold Part.takeBit
  repeat' split
  · exact h.abandon _ _
  · exact h.mapFre _ h.fre.same
  · exact h.mapFre _ h.fre.same
  · exact h.abandon _ _
  all_goals exact h

theorem Part.Fits.takeSymbol (h : p.Fits still) (s : Symbol) : (p.takeSymbol s).Fits still := by
  unfold Part.takeSymbol
  repeat' split
  · exact h.mapFre _ h.fre.same
  · exact h.takeBit _
  · exact h.takeBit _
  · exact h
  · exact h.abandon _ _
  · exact h
  · exact h.abandon _ _

theorem Part.Fits.drivenPhaseEnds (h : p.Fits still) (length : Nat) : (p.drivenPhaseEnds length).Fits still := by
  have hr := h.lineTurnsDriven.lineTurnsReleased
  unfold Part.drivenPhaseEnds; dsimp only
  repeat' split
  · exact hr
  · exact hr.takeSymbol _
  · exact hr

/-- A window opens with an empty list (R101). A peer's CLAIM goes to PVW. -/
theorem Part.Fits.openWindow (h : p.Fits still) {f : Frame} (hf : p.fre.isSender = true ∨ p.ownNode ≠ some f.node)
    (draw : Nat) : (p.openWindow f draw).Fits still := by
  have hw : ∀ (role : Role) (response : Option (Node × Nat)), (p.mapFre fun r => { r with
      phase := .window, rx := .empty, inResponse := false, listed := false, list := []
      claimant := some (f.node, draw), role := role, response := response }).Fits still :=
    fun _ _ => h.mapFre _ { h.fre with list := .nil, claimant := by simp }
  unfold Part.openWindow; dsimp only; split
  · exact hw _ _
  · rename_i hs
    exact (hw _ _).peerFrame (hf.resolve_left hs)

theorem Part.Fits.acceptFrame (h : p.Fits still) {f : Frame} (hf : p.fre.isSender = true ∨ p.ownNode ≠ some f.node) :
    (p.acceptFrame f).Fits still := by
  unfold Part.acceptFrame
  split
  · exact h.openWindow hf _
  all_goals exact h.mapFre _ h.fre.same

theorem Part.Fits.testReceived (h : p.Fits still) : p.testReceived.Fits still := by
  unfold Part.testReceived
  split
  · exact h.abandon _ _
  · exact h.abandon _ _
  · exact h.abandon _ _
  · split
    · exact h.duplicateFrame
    · rename_i hd
      refine h.acceptFrame ?_
      by_cases hs : p.fre.isSender = true
      · exact .inl hs
      · exact .inr fun e => hd ⟨by simpa using hs, e⟩

/-- A response that passes its tests is appended in order, and is not the claimant's (R101). -/
theorem Fre.Fits.listResponse {s : AdmissionState} {r : Fre} (h : r.Fits still s) {nodeByte drawByte : Byte}
    (hv : responseValid r.list r.claimant nodeByte drawByte = true) :
    ({ r with
        list := r.list ++ [(BitVec.ofNat 4 nodeByte.toNat, drawByte.toNat)], rx := .empty
        inResponse := false } : Fre).Fits still s := by
  simp only [responseValid, Bool.and_eq_true, List.all_eq_true, decide_eq_true_eq] at hv
  obtain ⟨⟨⟨hn, -⟩, hall⟩, hcl⟩ := hv
  have hlt : nodeByte.toNat < 16 := by
    unfold nodeOfByte at hn; split at hn
    · omega
    · simp at hn
  have hnode : (BitVec.ofNat 4 nodeByte.toNat).toNat = nodeByte.toNat := by
    rw [BitVec.toNat_ofNat]; omega
  refine { h with list := ?_, claimant := fun c hc e he => ?_ }
  · refine List.pairwise_append.mpr ⟨h.list, by simp, fun a ha b hb => ?_⟩
    obtain rfl := List.mem_singleton.mp hb
    rw [hnode]; exact hall a ha
  · rcases List.mem_append.mp he with he | he
    · exact h.claimant c hc e he
    · obtain rfl := List.mem_singleton.mp he
      intro e
      have hc : r.claimant = some c := hc
      simp only [hc, Option.map_some, Option.getD_some, bne_iff_ne] at hcl
      exact hcl (by rw [← e, hnode])

theorem Part.Fits.takeResponse (h : p.Fits still) (sent : Bool) : (p.takeResponse sent).Fits still := by
  have tested : ∀ q : Part, q.Fits still → Part.Fits still (
      if responseValid q.fre.list q.fre.claimant (byteAt p.fre.rx.bytes 0) (byteAt p.fre.rx.bytes 1) then
        q.mapFre fun r =>
          { r with
            list := r.list ++ [(BitVec.ofNat 4 (byteAt p.fre.rx.bytes 0).toNat, (byteAt p.fre.rx.bytes 1).toNat)], rx := .empty
            inResponse := false }
      else q.abandon (some .framing) true) := by
    intro q hq; split
    · rename_i hv
      exact hq.mapFre _ (hq.fre.listResponse hv)
    · exact hq.abandon _ _
  unfold Part.takeResponse; dsimp only; split
  · exact h.duplicateResponse
  · refine tested _ ?_
    split
    · exact (h.mapFre _ h.fre.same).mapLif _ ⟨h.lif.1, Nat.zero_le _⟩
    · exact h

theorem Part.Fits.boundary (h : p.Fits still) (sent : Bool) : (p.boundary sent).Fits still := by
  unfold Part.boundary
  repeat' split
  · exact h
  · exact h.testReceived
  · exact h.takeResponse _
  · exact h.abandon _ _
  all_goals exact h

theorem Part.Fits.dataEndReached (h : p.Fits still) : p.dataEndReached.Fits still := by
  have hl := h.mapLif_same fun l => { l with samples := lu 12, tx := none }
  unfold Part.dataEndReached; dsimp only
  repeat' split
  · exact hl
  · exact hl.boundary _
  · exact h

theorem Part.Fits.judgeEdge (h : p.Fits still) (length : Nat) : (p.judgeEdge length).Fits still := by
  unfold Part.judgeEdge
  repeat' split
  · exact h.mapFre _ h.fre.same
  · exact h.abandon _ _
  · exact h.abandon _ _
  all_goals exact h

theorem Part.Fits.edgeAfter (h : p.Fits still) (length : Nat) : (p.edgeAfter length).Fits still := by
  have hd := h.dataEndReached.lineTurnsDriven
  unfold Part.edgeAfter; dsimp only
  repeat' split
  · exact hd
  · exact hd.judgeEdge _
  · exact h

theorem Part.Fits.symbolFault (h : p.Fits still) (e : SymbolFault) : (p.symbolFault e).Fits still := by
  unfold Part.symbolFault; dsimp only
  repeat' split
  · exact h.drivenPhaseEnds _
  · exact h
  · exact h.lineTurnsDriven
  · exact h.lineTurnsDriven.takeSymbol _
  · exact h

/-! ## HELD and STUCK -/

theorem Part.Fits.takeHeld (h : p.Fits still) : p.takeHeld.Fits still := by
  unfold Part.takeHeld; split
  · exact h.abandon _ _
  · exact h

theorem Part.Fits.heldReached (h : p.Fits still) : p.heldReached.Fits still := by
  have hl := h.lineTurnsDriven.othersDrive.mapLif_same fun l => { l with samples := max (lu 40) l.samples }
  unfold Part.heldReached; dsimp only
  split
  · exact hl
  · exact hl
  · exact hl.takeHeld
  all_goals exact (hl.mapLif_same _).takeHeld

theorem Part.Fits.stuckReached (h : p.Fits still) : p.stuckReached.Fits still := by
  have hl := h.heldReached.mapLif_same fun l => { l with samples := max (lu 160) l.samples }
  unfold Part.stuckReached; dsimp only; split
  · exact (hl.mapLif_same _).mapAdu_same _
  · exact hl

theorem Part.Fits.stuckExpires (h : p.Fits still) : p.stuckExpires.Fits still := by
  have hs := h.mapAdu_same fun a => { a with stuckTimer := .expired }
  unfold Part.stuckExpires; dsimp only
  repeat' split
  · exact hs.lineBecameUnavailable
  · exact hs
  · exact h

/-! ## The node's own sending -/

/-- An attempt starts; a Claim is sought when its attempt starts (R94, R58). -/
theorem Part.Fits.startAttempt (h : p.Fits false) : p.startAttempt.Fits false := by
  unfold Part.startAttempt
  split
  · split
    · rename_i e _ hq
      have flies : ∀ s, queueStands s p.fre.queue → (e.frame.kind = .claim → s = .claiming) →
          ({ p.fre with inFlight := some { kind := e.frame.kind, held := none }, role := .sender } : Fre).Fits false s := by
        intro s hs hk
        refine { h.fre with queue := hs, flying := ?_, held := ?_, still := by simp }
        · rintro _ ⟨⟩ hc; exact hk hc
        · rintro _ ⟨⟩ f hf; simp at hf
      dsimp only; split
      · rename_i hk
        have hs := h.fre.queue.2 e (by simp [hq]) hk
        have hc : p.adu.enterClaiming.state = .claiming := by
          unfold Adu.enterClaiming; split
          · rfl
          · simp_all
        have hd : p.adu.enterClaiming.fits := by
          refine h.adu.keepsDraws (Adu.not_isHolder (by grind) (by grind)) ?_ ?_ <;> unfold Adu.enterClaiming <;> split <;> rfl
        exact { h with
          adu := hd, fre := by
            simp only [mapAdu_adu, mapAdu_fre, mapLif_adu, mapLif_fre, mapFre_adu, mapFre_fre, hc]
            exact flies _ ⟨h.fre.queue.1, fun _ _ _ => .inr rfl⟩ fun _ => rfl }
      · rename_i hk
        exact Part.Fits.mapLif_same (h.mapFre _ (flies _ h.fre.queue fun hc => absurd hc hk)) _
    · exact h
  · exact h

theorem Part.Fits.loseArbitration (h : p.Fits still) : p.loseArbitration.Fits still := by
  unfold Part.loseArbitration
  split
  · exact h
  · split
    · rename_i t _ _
      have hl := (h.mapLif_same fun l => { l with tx := some { t with driving := false } }).lineTurnsDriven.othersDrive
      dsimp only; split
      · exact Part.Fits.mapLif_same (hl.mapFre _ hl.fre.lostAttempt.same) _
      · exact Part.Fits.mapLif_same (hl.mapFre _ hl.fre.same) _
      · split
        · exact hl.mapLif_same _
        · exact hl.duplicateResponse.mapLif_same _
      all_goals exact hl
    · exact h

theorem Part.Fits.failSymbol (h : p.Fits still) : p.failSymbol.Fits still := by
  unfold Part.failSymbol; dsimp only
  repeat' split
  · exact (h.lineTurnsDriven.mapLif_same _).abandon _ _
  · exact h
  · exact h
  · exact ((h.mapLif_same _).lineTurnsDriven.othersDrive.mapLif_same _).abandon _ _

theorem Part.Fits.echoRunReached (h : p.Fits still) : p.echoRunReached.Fits still := by
  unfold Part.echoRunReached; dsimp only
  repeat' split
  · exact (h.mapLif_same _).lineBecameUnavailable
  · exact h.mapLif_same _
  · exact h

theorem Part.Fits.failEcho (h : p.Fits still) : p.failEcho.Fits still := by
  unfold Part.failEcho
  split
  · exact h
  · rename_i t _
    split
    · have counted : ∀ q : Part, q.Fits still → ((q.mapLif fun l =>
          { (if t.source.isAttempt then l.stopSending else { l with tx := none }) with
            echoRun := min 3 (l.echoRun + 1) }).mapFre fun r =>
          { r with counters := { r.counters with echo := saturate Config.countTop r.counters.echo } }).Fits still := by
        intro q hq
        obtain ⟨h1, h2, h3, -, h5, h6⟩ := hq.fre.counters
        refine Part.Fits.mapFre (hq.mapLif _ ⟨?_, Nat.min_le_left ..⟩) _
          { hq.fre with counters := ⟨h1, h2, h3, saturate_le .., h5, h6⟩ }
        dsimp only; split
        · exact hq.lif.1
        · exact hq.lif.1
      have hr : (if p.lif.filtered then p.mapLif Lif.turnReleased else p).Fits still := by
        split
        · exact h.mapLif _ ⟨Nat.zero_le _, h.lif.2⟩
        · exact h
      have he := (counted _ hr).echoRunReached
      dsimp only; split
      · exact he
      · exact he.abandon _ _
    · exact h

theorem Part.Fits.startResponse (h : p.Fits still) : p.startResponse.Fits still := by
  unfold Part.startResponse
  repeat' split
  · exact h.mapLif_same _
  all_goals exact h

theorem Part.Fits.retryDue (h : p.Fits still) : p.retryDue.Fits still := by
  unfold Part.retryDue; split
  · exact h.mapLif_same _
  · exact h

theorem Part.Fits.startRetry (h : p.Fits still) : p.startRetry.Fits still := by
  unfold Part.startRetry
  repeat' split
  · exact Part.Fits.mapLif_same (h.mapFre _ h.fre.same) _
  all_goals exact h

theorem Part.Fits.lineRecovered (h : p.Fits still) : p.lineRecovered.Fits still := h.clears _

theorem Part.Fits.retryClean (h : p.Fits still) : p.retryClean.Fits still := by
  have hl := h.mapLif (fun l => { l with lineState := .idle, echoRun := 0, lostTimer := .stopped, retry := .none })
    ⟨h.lif.1, Nat.zero_le _⟩
  unfold Part.retryClean; dsimp only; split
  · exact hl
  · exact hl.lineRecovered

/-! ## The frame end -/

theorem Part.Fits.cleanAttempt (h : p.Fits still) :
    ((p.mapFre Fre.cleanAttempt).mapLif fun l => { l with echoRun := 0 }).Fits true :=
  (h.mapFre _ h.fre.cleanAttempt).mapLif _ ⟨h.lif.1, Nat.zero_le _⟩

theorem Part.Fits.ownFrameClean (h : p.Fits false) (f : Frame) : (p.ownFrameClean f).Fits false := by
  have hc := h.cleanAttempt.weaken false
  unfold Part.ownFrameClean; dsimp only
  repeat' split
  · exact hc.retryClean.setLastReleased _
  · exact hc.setLastReleased _
  · exact hc.retryClean
  · exact hc
  · exact hc.retryClean
  · exact hc
  · exact hc.retryClean
  · exact hc

/-- A peer's frame goes to PVW, and as a retry trigger to ADU (R99). -/
theorem Part.Fits.peerFrameHeard (h : p.Fits still) {f : Frame} (hf : p.ownNode ≠ some f.node) :
    (p.peerFrameHeard f).Fits still := by
  have heard : Part.Fits still (
      if p.adu.state = .defer ∨ p.adu.state = .queued ∨ p.rsq.state = .blocked then
        takeUnordered (fun first p => if first then p.peerFrame f else p.retryTrigger) [true, false] p
      else (p.peerFrame f).retryTrigger) := by
    split
    · refine (takeUnordered_keeps (P := fun q => q.Fits still ∧ q.ownNode ≠ some f.node) ?_ ?_ _ ⟨h, hf⟩).1
      · rintro first q ⟨hq, hn⟩
        split
        · exact ⟨hq.peerFrame hn, by simpa [ownNode, settings] using hn⟩
        · exact ⟨hq.retryTrigger, by simpa [ownNode, settings] using hn⟩
      · rintro q ⟨hq, hn⟩
        exact ⟨hq.choose, hn⟩
    · exact (h.peerFrame hf).retryTrigger
  unfold Part.peerFrameHeard
  split
  · exact heard
  · exact heard
  all_goals exact h.peerFrame hf

theorem Part.Fits.windowEndsClean (h : p.Fits false) : p.windowEndsClean.Fits false := by
  unfold Part.windowEndsClean; dsimp only; split
  · exact ((h.cleanAttempt.cleanWindow _).claimReport _).weaken _
  · exact h.cleanWindow _

theorem Part.Fits.handOn (h : p.Fits false) : p.handOn.Fits false := by
  unfold Part.handOn
  repeat' split
  · exact h.ownFrameClean _
  · exact h.recordDuplicate
  · rename_i hn
    exact h.peerFrameHeard hn
  · exact h
  · exact h.windowEndsClean
  · exact h.spoiledWindow
  all_goals exact h

/-- At the frame end nothing is in flight (R100). -/
theorem Fre.Fits.atFrameEnd {s : AdmissionState} {r : Fre} (h : r.Fits still s) : r.atFrameEnd.Fits true s :=
  { h with flying := by simp [Fre.atFrameEnd], held := by simp [Fre.atFrameEnd], still := fun _ => rfl }

theorem Part.Fits.giveReport (h : p.Fits true) (r : Option PendingReport) : (p.giveReport r).Fits true := by
  unfold Part.giveReport
  split
  · exact h.claimReport _
  · exact h.claimReport _
  · exact h.claimReport _
  · exact h

theorem Part.Fits.leaveStuck (h : p.Fits still) : p.leaveStuck.Fits still := by
  have hs := h.mapAdu_same fun a => { a with stuckTimer := .stopped }
  unfold Part.leaveStuck; dsimp only; split
  · exact hs.lineRecovered
  · exact hs

theorem Part.Fits.retryEnds (h : p.Fits still) : (p.mapLif Lif.retryEnds).Fits still := by
  refine h.mapLif_same _ ?_ ?_ <;> unfold Lif.retryEnds <;> split <;> rfl

theorem Part.Fits.frameEndReached (h : p.Fits false) : p.frameEndReached.Fits false := by
  have hd : (if p.lif.filtered then p.lineTurnsReleased else p).dataEndReached.Fits false := by
    refine Part.Fits.dataEndReached ?_
    split
    · exact h.lineTurnsReleased
    · exact h
  unfold Part.frameEndReached; dsimp only
  generalize (if p.lif.filtered then p.lineTurnsReleased else p).dataEndReached = q at hd ⊢
  have ho := (hd.mapLif_same Lif.atFrameEnd).handOn
  have hr := ((ho.mapFre _ ho.fre.atFrameEnd).giveReport q.fre.report).retryEnds.weaken false
  repeat' split
  · exact h
  · exact h
  · exact hr.leaveStuck
  · exact hr

/-! ## The loopback test -/

theorem Part.Fits.startLoopback (h : p.Fits still) : p.startLoopback.Fits true :=
  Part.Fits.mapFre (h.mapLif _ ⟨Nat.zero_le _, h.lif.2⟩) _ h.fre.atFrameEnd

theorem Part.Fits.endLoopback (h : p.Fits still) (e : LoopEnd) : (p.endLoopback e).Fits still := by
  unfold Part.endLoopback; split
  · exact h.mapLif _ ⟨Nat.zero_le _, h.lif.2⟩
  · exact h

end

end Sys2Proof.Machine
end

section
/-! PROOF. The invariant under the operations of LIU, LPC and the timers, and under the passing of time (chapters 7 and 9). -/

namespace Sys2Proof.Machine

-- Checked one after another: side by side, each waiting proof keeps a thread of its own.
set_option Elab.async false

/-! ## The derived conditions -/

/-- Before supervision begins neither condition holds; after it an evaluation sets both to their terms (R132, R133). -/
theorem Liu.evaluate_fits {l : Liu} (hc : l.countsFit)
    (hu : l.heartbeat = .unsupervised → l.stall = false ∧ l.cancel = false) : l.evaluate.fits := by
  unfold Liu.evaluate
  split
  · rename_i hs
    obtain ⟨h1, h2⟩ := hu hs
    exact ⟨hc, by simp [conditionsFit, hs, h1, h2]⟩
  · rename_i hs
    refine ⟨hc, ?_, ?_⟩
    · simp [stallCondition, hs, or_assoc]
    · simp [cancelCondition, and_assoc]

theorem Liu.fits.unsupervised {l : Liu} (h : l.fits) (hs : l.heartbeat = .unsupervised) :
    l.stall = false ∧ l.cancel = false := by
  obtain ⟨-, h1, h2⟩ := h
  simp [hs] at h1 h2
  exact ⟨h1, h2⟩

/-- The conditions read the level of the mains alone among the inputs. -/
theorem Liu.fits.setInput {l : Liu} (h : l.fits) (i : Input) {d : Debounced} (hd : i = .mains → d.level = l.mains.level) :
    (l.setInput i d).fits := by
  obtain ⟨hc, hf⟩ := h
  refine ⟨by cases i <;> exact hc, ?_⟩
  cases i with
  | mains => simpa [conditionsFit, Liu.setInput, hd rfl] using hf
  | chain | doorZone | doorsOpen | brakeFeedback => exact hf

theorem Debounced.sample_level (level : Bool) (d : Debounced) : (d.sample level).level = d.level := by
  unfold sample; split <;> rfl

section
variable {still : Bool} {p : Part}

theorem LiuReport.act_fits (r : LiuReport) (h : p.Fits still) : (r.act p).Fits still := by
  unfold LiuReport.act
  split
  · exact h.testTarget
  · exact h.validChanged _
  · exact h.clears _
  · exact h.stallRaised
  · exact h.stallWithdrawn
  · exact h.cancelHolds

theorem Part.Fits.takeReports (h : p.Fits still) (reports : List LiuReport) : (p.takeReports reports).Fits still := by
  unfold Part.takeReports
  split
  · exact takeUnordered_keeps (fun r _ h => r.act_fits h) (fun _ h => h.choose) _ h
  · exact List.foldlRecOn _ _ h fun _ hq r _ => r.act_fits hq

/-- LIU's record is evaluated on its new figures, and the changes reported. -/
theorem Part.Fits.evaluated (h : p.Fits still) {l : Liu} (hc : l.countsFit)
    (hu : l.heartbeat = .unsupervised → l.stall = false ∧ l.cancel = false) (reports : List LiuReport) :
    ((p.mapLiu fun _ => l.evaluate).takeReports reports).Fits still :=
  (h.mapLiu (fun _ => l.evaluate) (Liu.evaluate_fits hc hu)).takeReports _

/-! ## The heartbeat -/

theorem Part.Fits.acceptTick (h : p.Fits still) (kind : TickKind) (d : TickData) (controller : ControllerState) :
    (p.acceptTick kind d controller).Fits still := by
  have hc : (p.liu.latch p.settings.heartbeatLength kind d.position d.loadByte controller).countsFit := by
    refine ⟨h.liu.1.1, ?_⟩
    dsimp only [Liu.latch]; split
    · rename_i hp
      exact hp.trans (by decide)
    · exact h.liu.1.2
  exact h.evaluated hc (by simp [Liu.latch]) _

theorem Part.Fits.judgeTick (h : p.Fits still) (kind : TickKind) (d : TickData) : (p.judgeTick kind d).2.Fits still := by
  unfold Part.judgeTick
  repeat' split
  · exact h
  · dsimp only
    refine h.mapLiu _ ?_
    exact ⟨⟨saturate_le .., h.liu.1.2⟩, h.liu.2⟩
  · exact h.acceptTick _ _ _

theorem Part.Fits.heartbeatExpires (h : p.Fits still) : p.heartbeatExpires.Fits still := by
  unfold Part.heartbeatExpires
  split
  · exact h.evaluated (l := { p.liu with heartbeat := .expired, heartbeatTimer := .stopped }) h.liu.1 (by simp) _
  · exact h

/-! ## The encoder and the inputs -/

theorem Part.Fits.moveEncoder (h : p.Fits still) (move : Bool × Bool → Bool × Bool) : (p.moveEncoder move).Fits still :=
  h.mapPins _

theorem Part.Fits.encoderMoves (h : p.Fits still) (d : Dir) : (p.encoderMoves d).Fits still := by
  refine Part.Fits.stepEvent (h.mapLiu _ ⟨⟨h.liu.1.1, ?_⟩, h.liu.2⟩) d
  have := h.liu.1.2
  cases d
  · exact Nat.min_le_left ..
  · dsimp only [stepPosition]; omega

theorem Part.Fits.encoderSkips (h : p.Fits still) : p.encoderSkips.Fits still := by
  have hl := h.mapLiu (fun l => { l with positionValid := false, encoder := p.pins.encoder }) ⟨h.liu.1, h.liu.2⟩
  unfold Part.encoderSkips; dsimp only; split
  · exact hl.validChanged _
  · exact hl

theorem Part.Fits.sampleEncoder (h : p.Fits still) : p.sampleEncoder.Fits still := by
  unfold Part.sampleEncoder
  split
  · exact h
  · exact h.encoderMoves _
  · exact h.encoderSkips

theorem Part.Fits.sampleInput (h : p.Fits still) (i : Input) (level : Bool) : (p.sampleInput i level).Fits still :=
  h.mapLiu _ (h.liu.setInput i fun hi => by rw [Debounced.sample_level, hi]; rfl)

/-- The debounced mains changes: the conditions are set to their terms again (R130, R132, R133). -/
theorem Part.Fits.mainsChanges (h : p.Fits still) (d : Debounced) :
    (p.mapLiu (Liu.setInput .mains d)).mainsChanges.Fits still := by
  have he : (p.mapLiu (Liu.setInput .mains d)).evaluateConditions.Fits still :=
    h.evaluated (l := p.liu.setInput .mains d) h.liu.1 h.liu.unsupervised _
  unfold Part.mainsChanges; dsimp only; split
  · exact he.mapRsq _
  · exact he

theorem Part.Fits.debounceExpires (h : p.Fits still) (i : Input) : (p.debounceExpires i).Fits still := by
  unfold Part.debounceExpires; dsimp only; split
  · split
    · rename_i hd
      exact h.mapLiu _ (h.liu.setInput i fun hi => by subst hi; exact hd)
    · split
      · rename_i hi
        subst hi
        exact (h.mainsChanges _).inputChanged _ _
      · rename_i hi
        exact Part.Fits.inputChanged (h.mapLiu _ (h.liu.setInput i fun e => absurd e hi)) _ _
  · exact h

/-! ## The resets -/

theorem Part.reset_fits {image : List Byte} (hi : image.length = 58) (cause : StartCause) (pins : Pins) (choices : Nat) :
    (Part.reset image cause pins choices).Fits false where
  pcu := by simp [reset, Pcu.reset, Pcu.fits]
  adu := by simp [reset, Adu.reset, Adu.fits]
  pvw := .nil
  fre := {
    counters := by simp [reset, Fre.reset, ErrorCounters.reset, ErrorCounters.fits]
    queue := ⟨.nil, by simp [reset, Fre.reset]⟩
    list := .nil
    claimant := by simp [reset, Fre.reset]
    flying := by simp [reset, Fre.reset]
    held := by simp [reset, Fre.reset]
    still := by simp }
  lif := by simp [reset, Lif.reset, Lif.fits]
  liu := by simp [reset, Liu.reset, Liu.fits, Liu.countsFit, Liu.conditionsFit]
  anu := ⟨by simp [reset, Anu.reset], by simp [reset, Anu.reset], by simp [reset, Anu.reset], by simp [reset, Anu.reset]⟩
  lpc := ⟨hi, by simp [reset, Lpc.reset]⟩
  peers := by simp [reset, Lpc.reset, Pvw.reset, peersFit]
  outputs := by simp [reset, Rsq.reset, Outputs.safe, Outputs.fit, RescueState.doorRequested, RescueState.alarmed]
  cause := .inl rfl
  commit := by simp [reset, Lpc.reset, Rsq.reset]

theorem clearedImage_length : clearedImage.length = 58 := List.length_replicate ..

/-! ## The lift port -/

/-- What a transaction clocks moves neither the image, the commit nor the port-error count. -/
theorem Lpc.clockByte_keeps (status : List Byte) (viewed : Nat → List Byte) (b : Byte) (l : Lpc) :
    (l.clockByte status viewed b).image = l.image ∧ (l.clockByte status viewed b).committed = l.committed
      ∧ (l.clockByte status viewed b).portErrors = l.portErrors := by
  unfold clockByte; dsimp only
  repeat' split
  all_goals simp

theorem Lpc.foldl_clockByte_keeps (status : List Byte) (viewed : Nat → List Byte) (bytes : List Byte) (l : Lpc) :
    (bytes.foldl (fun l b => l.clockByte status viewed b) l).image = l.image
      ∧ (bytes.foldl (fun l b => l.clockByte status viewed b) l).committed = l.committed
      ∧ (bytes.foldl (fun l b => l.clockByte status viewed b) l).portErrors = l.portErrors := by
  induction bytes generalizing l with
  | nil => simp
  | cons b bytes ih =>
    obtain ⟨h1, h2, h3⟩ := ih (l.clockByte status viewed b)
    obtain ⟨k1, k2, k3⟩ := l.clockByte_keeps status viewed b
    exact ⟨h1.trans k1, h2.trans k2, h3.trans k3⟩

theorem Part.Fits.clock (h : p.Fits still) (bytes : List Byte) (bits : Nat) : (p.clock bytes bits).Fits still := by
  obtain ⟨h1, h2, h3⟩ := Lpc.foldl_clockByte_keeps p.statusRecord (fun i => p.viewRecord i) bytes p.lpc.select
  unfold Part.clock
  refine h.mapLpc _ ?_ ?_ ?_
  · exact le_of_eq_of_le h3 h.lpc.2
  · exact h1
  · exact h2

theorem Part.Fits.setResult (h : p.Fits still) (r : CommandResult) : (p.setResult r).Fits still := h.mapLpc _ h.lpc.2

theorem Part.Fits.refuseTransaction (h : p.Fits still) (r : CommandResult) : (p.refuseTransaction r).Fits still :=
  (h.mapLpc _ (saturate_le ..)).setResult r

/-- A whole transaction keeps what the command taken at its end keeps. -/
theorem Part.Fits.transaction (h : p.Fits still) (bytes : List Byte) (bits : Nat) {finish : Lpc → Part → Part}
    (hf : ∀ l q, q.Fits still → (finish l q).Fits still) : (p.transaction bytes bits finish).Fits still := by
  unfold Part.transaction
  split
  · exact ((h.mapLpc _ h.lpc.2).mapPins _).mapRsq _
  · have hc := h.clock bytes bits
    exact (hf _ _ (hc.mapLpc _ hc.lpc.2)).mapRsq _

theorem Part.Fits.modify (h : p.Fits still) (c : PortCommand) (t : Tail) {take : List Byte → Part → Part}
    (hf : ∀ bytes q, q.Fits still → (take bytes q).Fits still) : (p.modify c t take).Fits still := by
  refine h.transaction _ _ fun l q hq => ?_
  split
  · exact hf _ _ hq
  · exact hq.refuseTransaction _

theorem length_writeBytes {offset : Nat} {data image : List Byte} (h : offset + data.length ≤ image.length) :
    (writeBytes offset data image).length = image.length := by
  simp [writeBytes]; omega

theorem Part.Fits.takeLoad (h : p.Fits still) (staged : List Byte) : (p.takeLoad staged).Fits still := by
  unfold Part.takeLoad; dsimp only
  repeat' split
  · exact h.setResult _
  · exact h.setResult _
  · rename_i hc hl
    have hc : p.lpc.committed = false := by simpa using hc
    refine Part.Fits.setResult ?_ _
    refine { h with lpc := ⟨?_, h.lpc.2⟩, peers := ?_ }
    · have := h.lpc.1
      exact (length_writeBytes (by simp only [Config.imageLength] at hl; omega)).trans this
    · exact ⟨fun _ => h.peers.1 hc, fun ht => by have : p.lpc.committed = true := ht; simp [hc] at this⟩

/-- A successful COMMIT (R152): the view is empty, and WATCH is entered in service. -/
theorem Part.Fits.goIntoService (h : p.Fits still) (hc : p.lpc.committed = false) : p.goIntoService.Fits still := by
  obtain ⟨hr, hcl⟩ := h.peers.1 hc
  refine Part.OthersFit.enterWatch ?_ rfl
  exact { h with
    fre := h.fre.same, anu := h.anu.commit _, lpc := h.lpc
    liu := Liu.evaluate_fits h.liu.1 (by simp)
    peers := ⟨fun _ => ⟨hr, hcl⟩, fun _ =>
      ⟨by simp [commitSupervision, commitView, hr], by simp [commitSupervision, commitView, hcl]⟩⟩ }

theorem Part.Fits.takeCommit (h : p.Fits still) : p.takeCommit.Fits still := by
  unfold Part.takeCommit
  split
  · exact h.setResult _
  · rename_i hc
    split
    · exact Part.Fits.setResult (h.mapLpc _ h.lpc.2) _
    · exact h.goIntoService (by simpa using hc)

theorem Part.Fits.takeLoopback (h : p.Fits false) : p.takeLoopback.Fits false := by
  unfold Part.takeLoopback
  repeat' split
  · exact h.setResult _
  · exact h.setResult _
  · exact (h.startLoopback.weaken _).setResult _

theorem Part.Fits.takeTick (h : p.Fits still) (kind : TickKind) (staged : List Byte) :
    (p.takeTick kind staged).Fits still := by
  have hj := h.judgeTick kind (TickData.ofBytes staged)
  unfold Part.takeTick
  split
  · exact h.setResult _
  · split <;> rename_i e <;> rw [e] at hj <;> exact hj.setResult _

theorem Part.Fits.takeResume (h : p.Fits still) : p.takeResume.Fits still := by
  obtain ⟨ha, e⟩ | ⟨-, -, result, -, e⟩ | ⟨-, -, e⟩ := p.takeResume_cases <;> rw [e]
  · refine Part.Fits.setResult (h.enterWatch (h.committed fun hs => ?_)) _
    simp [resumeAccepted, hs] at ha
  · exact h.choose.setResult _
  · exact h.setResult _

/-! ## The timers -/

theorem Part.Fits.verifyExpires (h : p.Fits still) : p.verifyExpires.Fits still := by
  unfold Part.verifyExpires
  split
  · rename_i hs
    exact Part.Fits.decideCase (h.mapRsq _) (h.committed (by simp [hs.1]))
  · exact h

theorem Part.Fits.gateExpires (h : p.Fits still) : p.gateExpires.Fits still := by
  unfold Part.gateExpires
  split
  · rename_i hs
    split
    · exact h.enterProbe (h.committed (by simp [hs.1]))
    · exact h.mapRsq _
  · exact h

theorem Part.Fits.probeWindowEnds (h : p.Fits still) : p.probeWindowEnds.Fits still := by
  unfold Part.probeWindowEnds
  split
  · rename_i hs
    exact Part.Fits.raceEnds (h.mapRsq _) (h.committed (by simp [hs])) _
  · exact h

theorem Part.Fits.brakeExpires (h : p.Fits still) : p.brakeExpires.Fits still := by
  unfold Part.brakeExpires
  split
  · rename_i hs
    split
    · exact h.mapRsq _
    · exact h.enterHalted (h.committed (by simp [hs.1])) _
  · exact h

theorem Part.Fits.progressWindowEnds (h : p.Fits still) : p.progressWindowEnds.Fits still := by
  unfold Part.progressWindowEnds
  split
  · rename_i hs
    split
    · exact h.enterHalted (h.committed (by simp [hs])) _
    · exact h.mapRsq _
  · exact h

theorem Part.Fits.speedWindowEnds (h : p.Fits still) : p.speedWindowEnds.Fits still := by
  unfold Part.speedWindowEnds
  split
  · exact h.mapRsq _
  · exact h

theorem Part.Fits.levelExpires (h : p.Fits still) : p.levelExpires.Fits still := by
  unfold Part.levelExpires
  split
  · rename_i hs
    exact h.enterHalted (h.committed (by simp [hs.1])) _
  · exact h

theorem Part.Fits.standstillExpires (h : p.Fits still) : p.standstillExpires.Fits still := by
  unfold Part.standstillExpires
  split
  · rename_i hs
    exact h.enterDoors (h.committed (by simp [hs.1]))
  · exact h

theorem Part.Fits.doorExpires (h : p.Fits still) : p.doorExpires.Fits still := by
  unfold Part.doorExpires
  split
  · rename_i hs
    exact h.enterHalted (h.committed (by simp [hs.1])) _
  · exact h

theorem Part.Fits.waitSecondPasses (h : p.Fits still) : p.waitSecondPasses.Fits still := by
  have hw := h.mapPcu (fun c =>
    { c with waitSeconds := saturate Config.waitSecondsTop c.waitSeconds, waitTimer := .running Config.secondTime })
    ⟨saturate_le .., h.pcu.2⟩
  unfold Part.waitSecondPasses; dsimp only
  repeat' split
  · exact hw
  · exact hw.recomputeKey
  · exact h

theorem Part.Fits.retryExpires (h : p.Fits still) : p.retryExpires.Fits still := by
  unfold Part.retryExpires
  split
  · exact Part.Fits.retryTrigger (h.mapAdu_same _)
  · exact h

theorem Part.Fits.deferralExpires (h : p.Fits still) : p.deferralExpires.Fits still := by
  unfold Part.deferralExpires
  split
  · rename_i hs
    refine Part.Fits.queueing (h.mapAdu_same _) ?_ _
    exact .inr hs.1
  · exact h

theorem Part.Fits.presenceExpires (h : p.Fits still) : p.presenceExpires.Fits still := by
  have hp := h.mapFre (fun r => { r with presenceTimer := .running Config.presenceTime }) h.fre.same
  unfold Part.presenceExpires; dsimp only
  repeat' split
  · exact hp
  · exact hp.offerPresence
  · exact h

theorem Part.Fits.announce (h : p.Fits still) {act : Settings → Bool → Anu → Anu × Option MovingReport}
    (ha : ∀ c waiting a, a.Fits → (act c waiting a).1.Fits) : (p.announce act).Fits still := by
  unfold Part.announce
  refine Part.Fits.takeMoving ?_ _
  exact { h with anu := ha _ _ _ h.anu }

/-! ## A sample period -/

/-- A record that grows older is of the same node. -/
@[simp] theorem PeerRecord.elapse_node (r : PeerRecord) : r.elapse.node = r.node := by
  unfold elapse; repeat' split
  all_goals rfl

theorem Part.Fits.elapse (h : p.Fits still) : p.elapse.Fits still := by
  refine { h with adu := ?_, pvw := ?_, fre := h.fre.same, anu := { h.anu with }, peers := ?_ }
  · exact h.adu
  · simpa [Part.elapse, recordsAscend, List.pairwise_map] using h.pvw
  · have := h.peers
    simpa [peersFit, Part.elapse, settings] using this

theorem Part.Fits.advanceProbe (h : p.Fits still) : p.advanceProbe.2.Fits still := by
  unfold Part.advanceProbe
  repeat' split
  all_goals dsimp only
  · exact h
  · exact h.mapRsq _
  · exact h

theorem Part.Fits.advanceSamples (h : p.Fits still) : p.advanceSamples.2.Fits still := by
  unfold Part.advanceSamples
  split
  · dsimp only
    refine h.mapAnu _ ?_
    exact ⟨h.anu.fifo, h.anu.volume, h.anu.underruns, h.anu.refill⟩
  · exact h

theorem integrate_le {n : Nat} (wire : Bool) (h : n ≤ 6) : integrate wire n ≤ 6 := by
  unfold integrate; split
  · exact Nat.min_le_left ..
  · omega

theorem Lif.fits.sampleWire {l : Lif} (h : l.fits) (wire : Bool) : (l.sampleWire wire).fits :=
  ⟨integrate_le wire h.1, h.2⟩

theorem Part.Fits.edgeFound (h : p.Fits still) (length : Nat) (early : Bool) : (p.edgeFound length early).2.Fits still := by
  unfold Part.edgeFound; dsimp only
  repeat' split
  · exact h
  · exact h
  · exact h.choose
  · exact h.choose
  · exact h
  · exact h.lineTurnsDriven
  · exact h.lineTurnsDriven
  · exact h
  · exact h

theorem Part.Fits.phaseGoesOn (h : p.Fits still) : p.phaseGoesOn.2.Fits still := by
  have counted := h.mapLif_same fun l => { l with samples := p.lif.samples + 1 }
  unfold Part.phaseGoesOn; dsimp only
  repeat' split
  · exact h
  · exact h
  · exact counted
  · exact h
  · exact h
  · exact counted
  · exact counted

theorem Part.Fits.sampleLine (h : p.Fits still) : p.sampleLine.2.Fits still := by
  have hw := h.mapLif (Lif.sampleWire (p.lif.drives || p.pins.lineOther)) (h.lif.sampleWire _)
  unfold Part.sampleLine; dsimp only
  repeat' split
  · exact hw.edgeFound _ _
  · exact hw
  · exact hw
  · exact hw.phaseGoesOn
  · exact hw
  · exact hw.phaseGoesOn

theorem Lif.fits.testSymbol {l : Lif} (h : l.fits) (run : LoopRun) : (l.testSymbol run).2.fits := by
  unfold Lif.testSymbol; dsimp only
  repeat' split
  all_goals exact ⟨Nat.zero_le _, h.2⟩

theorem Lif.fits.testEdge {l : Lif} (h : l.fits) (early : Bool) : (l.testEdge early).2.fits := by
  unfold Lif.testEdge; dsimp only
  repeat' split
  all_goals exact ⟨le_rfl, h.2⟩

theorem Lif.fits.testGoesOn {l : Lif} (h : l.fits) (run : LoopRun) : (l.testGoesOn run).2.fits := by
  unfold Lif.testGoesOn; dsimp only
  repeat' split
  all_goals exact h

theorem Part.Fits.sampleTest (h : p.Fits still) (run : LoopRun) : (p.sampleTest run).2.Fits still := by
  have hw := h.lif.sampleWire p.lif.drives
  refine { h with lif := ?_ }
  unfold Part.sampleTest; dsimp only
  repeat' split
  · exact hw.testEdge _
  · exact hw
  · exact hw.testSymbol _
  · exact hw
  · exact hw.testGoesOn _

theorem Part.Fits.inFreeOrder (h : p.Fits still) (groups : List (List Instr)) : (p.inFreeOrder groups).2.Fits still := by
  unfold Part.inFreeOrder
  split
  · exact h
  · exact h
  · exact h.choose

theorem Part.Fits.sample (h : p.Fits still) : p.sample.2.Fits still := by
  unfold Part.sample
  split
  · exact h.sampleTest _
  · exact h.sampleLine

theorem Part.Fits.period (h : p.Fits still) : p.period.2.Fits still :=
  h.elapse.advanceProbe.advanceSamples.sample.inFreeOrder _

theorem Part.Fits.idle (h : p.Fits still) : p.idle.2.Fits still := by
  unfold Part.idle
  repeat' split
  · exact h
  · exact h.period
  · exact h

end

/-! ## Every step -/

/-- What a command answers keeps what its event keeps. -/
theorem State.run_keeps {P : Part → Prop} {f : Part → Part} {s t : State} (h : P s.part) (hf : ∀ p, P p → P (f p))
    (ht : s.run f = .next t) : P t.part := by
  rw [State.run_next ht]; exact Part.whenWorking_keeps hf h

theorem State.runIf_keeps {P : Part → Prop} {ok : Bool} {f : Part → Part} {s t : State} (h : P s.part)
    (hf : ∀ p, P p → P (f p)) (ht : s.runIf ok f = .next t) : P t.part := by
  rw [(State.runIf_next ht).2]; exact Part.whenWorking_keeps hf h

theorem State.runDue_keeps {P : Part → Prop} {c : Instr} {due : Part → Bool} {f : Part → Part} {s t : State} (h : P s.part)
    (hf : ∀ p, P p → P (f p)) (ht : s.runDue c due f = .next t) : P t.part := by
  rw [State.runDue_eq] at ht
  obtain rfl := Host.Outcome.next.inj ht
  dsimp only; split
  · exact Part.whenWorking_keeps hf h
  · exact h

theorem State.runExpiry_keeps {P : Part → Prop} {c : Instr} (timer : Part → Timer) {f : Part → Part} {s t : State}
    (h : P s.part) (hf : ∀ p, P p → P (f p)) (ht : s.runExpiry c timer f = .next t) : P t.part :=
  State.runDue_keeps h hf ht

theorem Part.whenListening_keeps {P : Part → Prop} {f : Part → Part} (hf : ∀ p, P p → P (f p)) {p : Part} (h : P p) :
    P (p.whenListening f) := by
  unfold whenListening; split
  · exact h
  · exact hf p h

/-- Every command keeps what the blocks keep. -/
theorem exec_fits (c : Instr) {s t : State} (h : s.part.Fits false) (ht : exec c s = .next t) : t.part.Fits false := by
  cases c with
  | powerOn selected => obtain rfl := Host.Outcome.next.inj ht; exact Part.reset_fits clearedImage_length ..
  | resetInput low selected =>
    obtain rfl := Host.Outcome.next.inj ht
    dsimp only; split
    · exact Part.reset_fits clearedImage_length ..
    · unfold Part.resetRises; split
      · exact Part.reset_fits clearedImage_length ..
      · exact h
  | restart tail => exact State.run_keeps h (fun _ h => h.modify _ _ fun _ _ h => Part.reset_fits h.lpc.1 ..) ht
  | load tail => exact State.run_keeps h (fun _ h => h.modify _ _ fun _ _ h => h.takeLoad _) ht
  | commit tail => exact State.run_keeps h (fun _ h => h.modify _ _ fun _ _ h => h.takeCommit) ht
  | loopback tail => exact State.run_keeps h (fun _ h => h.modify _ _ fun _ _ h => h.takeLoopback) ht
  | loopbackTestEnd e => exact State.run_keeps h (fun _ h => h.endLoopback e) ht
  | tickA tail => exact State.run_keeps h (fun _ h => h.modify _ _ fun _ _ h => h.takeTick _ _) ht
  | tickB tail => exact State.run_keeps h (fun _ h => h.modify _ _ fun _ _ h => h.takeTick _ _) ht
  | resume tail => exact State.run_keeps h (fun _ h => h.modify _ _ fun _ _ h => h.takeResume) ht
  | status tail => exact State.run_keeps h (fun _ h => h.transaction _ _ fun _ _ h => h) ht
  | view tail => exact State.run_keeps h (fun _ h => h.transaction _ _ fun _ _ h => h) ht
  | unknownCommand code tail =>
    exact State.runIf_keeps h (fun _ h => h.transaction _ _ fun _ _ h => h.refuseTransaction _) ht
  | incompleteCommandByte bits =>
    exact State.run_keeps h (fun _ h => h.transaction _ _ fun _ _ h => h.refuseTransaction _) ht
  | heartbeatExpiry => exact State.runExpiry_keeps (·.liu.heartbeatTimer) h (fun _ h => h.heartbeatExpires) ht
  | debounceExpiry i => exact State.runExpiry_keeps (fun p => (p.liu.input i).timer) h (fun _ h => h.debounceExpires i) ht
  | encoderStep d =>
    obtain rfl := Host.Outcome.next.inj ht
    exact Part.whenWorking_keeps (fun _ h => h.sampleEncoder) (h.moveEncoder _)
  | illegalTransition =>
    obtain rfl := Host.Outcome.next.inj ht
    exact Part.whenWorking_keeps (fun _ h => h.sampleEncoder) (h.moveEncoder _)
  | verifyTimerExpiry => exact State.runExpiry_keeps (·.rsq.verifyTimer) h (fun _ h => h.verifyExpires) ht
  | gateFallbackExpiry => exact State.runExpiry_keeps (·.rsq.gateTimer) h (fun _ h => h.gateExpires) ht
  | probeWindowExpiry => exact State.runExpiry_keeps (·.rsq.probeTick) h (fun _ h => h.probeWindowEnds) ht
  | brakeTimerExpiry => exact State.runExpiry_keeps (·.rsq.brakeTimer) h (fun _ h => h.brakeExpires) ht
  | progressWindowEnd => exact State.runExpiry_keeps (·.rsq.progressTimer) h (fun _ h => h.progressWindowEnds) ht
  | speedWindowEnd => exact State.runExpiry_keeps (·.rsq.speedTimer) h (fun _ h => h.speedWindowEnds) ht
  | levelTimerExpiry => exact State.runExpiry_keeps (·.rsq.levelTimer) h (fun _ h => h.levelExpires) ht
  | standstillExpiry => exact State.runExpiry_keeps (·.rsq.standstillTimer) h (fun _ h => h.standstillExpires) ht
  | doorTimerExpiry => exact State.runExpiry_keeps (·.rsq.doorTimer) h (fun _ h => h.doorExpires) ht
  | waitSecondsTimerExpiry => exact State.runExpiry_keeps (·.pcu.waitTimer) h (fun _ h => h.waitSecondPasses) ht
  | retryTimerExpiry => exact State.runExpiry_keeps (·.adu.retryTimer) h (fun _ h => h.retryExpires) ht
  | deferralLimitExpiry => exact State.runExpiry_keeps (·.adu.deferralTimer) h (fun _ h => h.deferralExpires) ht
  | lineStuckTimerExpiry => exact State.runExpiry_keeps (·.adu.stuckTimer) h (fun _ h => h.stuckExpires) ht
  | recordStale n => exact State.run_keeps h (fun _ h => h.recordReachesStale n) ht
  | recordRemoved n => exact State.run_keeps h (fun _ h => h.recordReachesRemoval n) ht
  | presenceTimerExpiry => exact State.runExpiry_keeps (·.fre.presenceTimer) h (fun _ h => h.presenceExpires) ht
  | attemptStart => exact State.run_keeps h (fun _ h => h.startAttempt) ht
  | arbitrationLoss => exact State.run_keeps h (fun _ h => h.loseArbitration) ht
  | transmitSymbolError => exact State.run_keeps h (fun _ h => h.failSymbol) ht
  | echoFailure => exact State.run_keeps h (fun _ h => h.failEcho) ht
  | lineSymbolError e =>
    exact State.runIf_keeps h (fun _ h => Part.whenListening_keeps (fun _ h => h.symbolFault e) h) ht
  | lineHeld => exact State.run_keeps h (fun _ h => Part.whenListening_keeps (fun _ h => h.heldReached) h) ht
  | lineStuck => exact State.run_keeps h (fun _ h => Part.whenListening_keeps (fun _ h => h.stuckReached) h) ht
  | dataEnd => exact State.run_keeps h (fun _ h => Part.whenListening_keeps (fun _ h => h.dataEndReached) h) ht
  | responseStart => exact State.run_keeps h (fun _ h => Part.whenListening_keeps (fun _ h => h.startResponse) h) ht
  | edgeAfterDataEnd length =>
    exact State.runIf_keeps h (fun _ h => Part.whenListening_keeps (fun _ h => h.edgeAfter length) h) ht
  | rollCallResponse =>
    refine State.run_keeps h (fun p h => ?_) ht
    split
    · exact h.takeResponse _
    · exact h
  | frameEnd => exact State.run_keeps h (fun _ h => Part.whenListening_keeps (fun _ h => h.frameEndReached) h) ht
  | lostRetryTimerExpiry => exact State.runExpiry_keeps (·.lif.lostTimer) h (fun _ h => h.retryDue) ht
  | lostRetryPresence => exact State.run_keeps h (fun _ h => h.startRetry) ht
  | voiceDirectoryReadDone bytes =>
    exact State.runIf_keeps h (fun _ h => h.announce fun _ _ _ ha => ha.directoryDone ..) ht
  | voiceRefillReadDone bytes => exact State.runIf_keeps h (fun _ h => h.mapAnu _ (h.anu.refillDone bytes)) ht
  | sampleInstant => exact State.run_keeps h (fun _ h => h.announce fun _ _ _ ha => ha.sample ..) ht
  | patienceTimerExpiry => exact State.runExpiry_keeps (·.anu.patience) h (fun _ h => h.announce fun _ _ _ ha => ha.patienceExpiry ..) ht
  | classifiedSymbol length =>
    exact State.runIf_keeps h (fun _ h => Part.whenListening_keeps (fun _ h => h.drivenPhaseEnds length) h) ht
  | idleLineDriven =>
    refine State.run_keeps h (fun p h => Part.whenListening_keeps (fun p h => ?_) h) ht
    split
    · exact h
    · exact h.lineTurnsDriven
  | symbolDueTime =>
    refine State.runDue_keeps (due := (·.lif.symbolDue)) h (fun p h => h.mapLif_same Lif.dueTime ?_ ?_) ht <;>
      unfold Lif.dueTime <;> (repeat' split) <;> rfl
  | inputPinChange i level =>
    obtain rfl := Host.Outcome.next.inj ht
    exact Part.whenWorking_keeps (fun _ h => h.sampleInput i level) (h.mapPins _)

/-- Settles O56: every block at its reset values, by the reset of each. -/
theorem invariantAtReset : Obligations.InvariantAtReset :=
  (Part.inv_iff_fits _).mpr (Part.reset_fits clearedImage_length ..)

/-- Settles O57: the command at the front of the queue, or a sample period, keeps what each block keeps. -/
theorem stepKeepsInvariant : Obligations.StepKeepsInvariant := by
  intro s t h ht
  rw [Part.inv_iff_fits] at h ⊢
  unfold step at ht
  split at ht
  · rename_i c rest _
    exact exec_fits c (s := { s with pending := rest }) h ht
  · obtain rfl := Host.Outcome.next.inj ht
    exact h.idle

end Sys2Proof.Machine
end

section
/-! PROOF. The timers of the sequencer (R11, R18, R24, R25, R27, R28): what each does at its expiry. -/

namespace Sys2Proof.Machine

-- Checked one after another: side by side, each waiting proof keeps a thread of its own.
set_option Elab.async false

/-- The expiry of a timer that has run its length, in a working part. -/
theorem State.runExpiry_of_expires {c : Instr} {timer : Part → Timer} {s : State} (f : Part → Part) (hw : s.inService)
    (he : s.expires c (timer s.part)) : s.runExpiry c timer f = .next { s with part := f s.part } := by
  rw [State.runExpiry_of_stands he.2, State.run_eq, Part.whenWorking_of_high _ _ hw.1]

section
variable {p : Part}

theorem Part.gateExpires_eq (hs : p.rsq.state = .warn) (ht : p.rsq.gateTimer.isRunning = true) :
    p.gateExpires =
      if p.rsq.voiceUnavailable then p.enterProbe else p.mapRsq fun r => { r with gateTimer := .expired } :=
  if_pos ⟨hs, ht⟩

theorem Part.brakeExpires_eq (hs : p.rsq.state = .creep) (ht : p.rsq.brakeTimer.isRunning = true) :
    p.brakeExpires =
      if p.rsq.brakeSeen then p.mapRsq fun r => { r with brakeTimer := .stopped } else p.enterHalted .brake :=
  if_pos ⟨hs, ht⟩

theorem Part.progressWindowEnds_eq (hs : p.rsq.state = .creep) :
    p.progressWindowEnds =
      if p.rsq.progressNet < (p.settings.minProgress : Int) then p.enterHalted .progress
      else p.mapRsq fun r => { r with progressTimer := .running Config.progressTime, progressNet := 0 } := if_pos hs

theorem Part.speedWindowEnds_eq (hs : p.rsq.state = .creep) :
    p.speedWindowEnds = p.mapRsq fun r => { r with speedTimer := .running Config.speedTime, speedCount := 0 } := if_pos hs

theorem Part.levelExpires_eq (hs : p.rsq.state = .level) (ht : p.rsq.levelTimer.isRunning = true) :
    p.levelExpires = p.enterHalted .brake := if_pos ⟨hs, ht⟩

theorem Part.standstillExpires_eq (hs : p.rsq.state = .level) (ht : p.rsq.standstillTimer.isRunning = true) :
    p.standstillExpires = p.enterDoors := if_pos ⟨hs, ht⟩

theorem Part.doorExpires_eq (hs : p.rsq.state = .doors) (ht : p.rsq.doorTimer.isRunning = true) :
    p.doorExpires = p.enterHalted .door := if_pos ⟨hs, ht⟩

theorem Part.verifyExpires_eq (hs : p.rsq.state = .verify) (ht : p.rsq.verifyTimer.isRunning = true) :
    p.verifyExpires = (p.mapRsq fun r => { r with verifyTimer := .stopped }).decideCase := if_pos ⟨hs, ht⟩

theorem Part.probeWindowEnds_eq (hs : p.rsq.state = .probe) :
    p.probeWindowEnds =
      (p.mapRsq fun r => { r with probeWindow := p.settings.probeWindow, probeTick := .stopped }).raceEnds .balanced :=
  if_pos hs

end

/-- Settles O28: each expiry is one entry, or one update of the sequencer's record. -/
theorem creepWindowsAndStateTimersExpire : Obligations.CreepWindowsAndStateTimersExpire := by
  refine ⟨fun s hw hs he => ?_, fun s hw hs => ⟨fun he => ?_, fun he => ?_, fun he => ?_⟩, fun s hw =>
    ⟨fun hs he => ?_, fun hs he => ?_, fun hs he => ?_⟩⟩
  · refine ⟨_, State.runExpiry_of_expires (timer := (·.rsq.gateTimer)) Part.gateExpires hw he, fun hv => ?_, fun hv => ?_⟩ <;>
      rw [Part.gateExpires_eq hs he.1]
    · rw [if_pos hv]
      exact Part.enterProbe_probesAs hw.2 hs
    · rw [if_neg (by simp [hv])]; rfl
  · refine ⟨_, State.runExpiry_of_expires (timer := (·.rsq.brakeTimer)) Part.brakeExpires hw he, fun hv => ?_, fun hv => ?_⟩ <;>
      rw [Part.brakeExpires_eq hs he.1]
    · rw [if_neg (by simp [hv])]
      exact Part.enterHalted_haltsAs _ hw.2 (by simp [hs])
    · rw [if_pos hv]; rfl
  · refine ⟨_, State.runExpiry_of_expires (timer := (·.rsq.progressTimer)) Part.progressWindowEnds hw he,
      fun hv => ?_, fun hv => ?_⟩ <;> rw [Part.progressWindowEnds_eq hs]
    · rw [if_pos hv]
      exact Part.enterHalted_haltsAs _ hw.2 (by simp [hs])
    · rw [if_neg (by omega)]; rfl
  · refine (State.runExpiry_of_expires (timer := (·.rsq.speedTimer)) Part.speedWindowEnds hw he).trans ?_
    rw [Part.speedWindowEnds_eq hs]; rfl
  · refine ⟨_, State.runExpiry_of_expires (timer := (·.rsq.levelTimer)) Part.levelExpires hw he, ?_⟩
    rw [Part.levelExpires_eq hs he.1]
    exact Part.enterHalted_haltsAs _ hw.2 (by simp [hs])
  · refine ⟨_, State.runExpiry_of_expires (timer := (·.rsq.standstillTimer)) Part.standstillExpires hw he, ?_⟩
    rw [Part.standstillExpires_eq hs he.1]
    exact Part.enterDoors_opensDoorsAs hw.2 (by simp [hs])
  · refine ⟨_, State.runExpiry_of_expires (timer := (·.rsq.doorTimer)) Part.doorExpires hw he, ?_⟩
    rw [Part.doorExpires_eq hs he.1]
    exact Part.enterHalted_haltsAs _ hw.2 (by simp [hs])

end Sys2Proof.Machine
end

section
/-! PROOF. The case decision at the verify timer's expiry (R11). -/

namespace Sys2Proof.Machine

-- Checked one after another: side by side, each waiting proof keeps a thread of its own.
set_option Elab.async false

section
variable {p : Part}

/-! ## A wait time of zero stays zero (R12, R33): the entries clear the count or leave it -/

theorem Part.changeState_waitSeconds (new : RescueState) (h : p.pcu.waitSeconds = 0) :
    (p.changeState new).pcu.waitSeconds = 0 := by
  simp only [changeState, offerPresence_pcu, mapAnu_pcu, mapRsq_pcu, mapPcu]
  unfold Pcu.rescueStateChanged; repeat' split
  all_goals exact h

theorem Part.enterAtRest_waitSeconds (new : RescueState) (h : p.pcu.waitSeconds = 0) :
    (p.enterAtRest new).pcu.waitSeconds = 0 := changeState_waitSeconds new h

theorem Part.enterWatch_waitSeconds : p.enterWatch.pcu.waitSeconds = 0 := by
  unfold enterWatch; dsimp only; split
  · exact enterAtRest_waitSeconds _ rfl
  · rfl

theorem Part.enterLanded_waitSeconds (h : p.pcu.waitSeconds = 0) : p.enterLanded.pcu.waitSeconds = 0 := by
  unfold enterLanded; dsimp only; split
  · exact enterWatch_waitSeconds
  · exact enterAtRest_waitSeconds _ (by simpa using h)

theorem Part.enterDoors_waitSeconds (h : p.pcu.waitSeconds = 0) : p.enterDoors.pcu.waitSeconds = 0 := by
  have hd := enterAtRest_waitSeconds (p := p) .doors h
  unfold enterDoors; dsimp only; split
  · exact enterLanded_waitSeconds hd
  · exact hd

theorem Part.enterBlocked_waitSeconds (cause : Cause) (h : p.pcu.waitSeconds = 0) :
    (p.enterBlocked cause).pcu.waitSeconds = 0 := enterAtRest_waitSeconds (p := p) .blocked h

theorem Part.enterProbe_waitSeconds (h : p.pcu.waitSeconds = 0) : p.enterProbe.pcu.waitSeconds = 0 :=
  changeState_waitSeconds (p := p.mapRsq _) .probe h

theorem Part.takeMoving_waitSeconds (r : Option MovingReport) (h : p.pcu.waitSeconds = 0) :
    (p.takeMoving r).pcu.waitSeconds = 0 := by
  unfold takeMoving movingReport; dsimp only; repeat' split
  · exact enterProbe_waitSeconds h
  · exact enterProbe_waitSeconds h
  all_goals exact h

theorem Part.enterWarn_waitSeconds (h : p.pcu.waitSeconds = 0) : p.enterWarn.pcu.waitSeconds = 0 :=
  takeMoving_waitSeconds _ (enterAtRest_waitSeconds (p := p) .warn h)

theorem Part.admitted_waitSeconds (h : p.pcu.waitSeconds = 0) : p.admitted.pcu.waitSeconds = 0 := by
  unfold admitted; repeat' split
  · exact enterDoors_waitSeconds h
  · exact enterWarn_waitSeconds h
  · exact h

theorem Part.soloRule_waitSeconds (h : p.pcu.waitSeconds = 0) : p.soloRule.pcu.waitSeconds = 0 := by
  unfold soloRule lineBlocked; dsimp only; repeat' split
  · exact admitted_waitSeconds h
  · exact enterBlocked_waitSeconds _ h
  · exact h

theorem Part.seek_waitSeconds (h : p.pcu.waitSeconds = 0) : p.seek.pcu.waitSeconds = 0 := by
  unfold seek queueing; repeat' split
  · exact soloRule_waitSeconds h
  · exact h
  · simpa using h
  all_goals exact h

end

/-! ## The decision -/

section
variable {p : Part}

/-- R12: the entry to PARKED. -/
theorem Part.enterParked_eq (hc : p.lpc.committed = true) (hs : p.rsq.state = .verify) (hn : p.adu.state = .none) :
    p.enterParked = { p with
      rsq := p.rsq.rested .parked .none false false, pcu := { p.pcu with waitTimer := .stopped }
      anu := { p.anu with patience := .stopped }, fre := p.fre.offer (p.presence 2 none none false) } := by
  have hi : (p.adu.state == .solo) = false := by simp [hn]
  unfold enterParked
  rw [enterAtRest_eq (code := 2) hc rfl, Anu.rescueStateChanged_eq (.inl (by simp [hs])), hi]
  simp [Adu.isHolder, hn, Pcu.rescueStateChanged, RescueState.waiting, RescueState.doorRequested, RescueState.alarmed]

/-- R15: a node that holds nothing and has no claim enters WAIT, asks for CONFIRM and seeks. -/
theorem Part.enterWait_seeksAs (hc : p.lpc.committed = true) (hs : p.rsq.state ≠ .warn) (hn : p.adu.state = .none)
    (hd : p.pvw.deferral = deferralAnswer p.pcu.plan.key p.pvw.records) :
    (p.enterWait true).seeksAs { p.waiting with anu := p.waiting.anu.request p.settings true .confirm } := by
  unfold enterWait
  rw [enterAtRest_wait hc hs (by simp [Adu.isHolder, hn])]
  exact seek_seeksAs (by exact hc) rfl hn hd

theorem Part.enterWait_waitSeconds (h : p.pcu.waitSeconds = 0) : (p.enterWait true).pcu.waitSeconds = 0 :=
  seek_waitSeconds (enterAtRest_waitSeconds (p := p) .wait h)

/-- The part as its verify timer has run out (R11). -/
def Part.verified (p : Part) : Part := p.mapRsq fun r => { r with verifyTimer := .stopped }

/-- The part as the case decision has found a case: it is not parked, and PCU counts the wait from 0 (R11, R33). -/
def Part.caseFound (p : Part) : Part := p.mapPcu fun c => { c with waitSeconds := 0 }

/-- What the case decision does with the plan it has asked for (R11): BLOCKED with the cause the plan carries, or WAIT. -/
def Part.planTaken (p : Part) : Part :=
  match p.pcu.plan.blockCause.recorded with
  | some cause => p.enterBlocked cause
  | none => p.enterWait true

theorem Part.planTaken_of_blocked {cause : Cause} (h : p.pcu.plan.blockCause.recorded = some cause) :
    p.planTaken = p.enterBlocked cause := by simp only [planTaken, h]

theorem Part.planTaken_of_unblocked (h : p.pcu.plan.blockCause = .none) : p.planTaken = p.enterWait true := by
  simp only [planTaken, h, BlockCause.recorded]

theorem Part.planTaken_plan : p.planTaken.pcu.plan = p.pcu.plan := by
  unfold planTaken; split <;> simp

theorem Part.planTaken_waitSeconds (h : p.pcu.waitSeconds = 0) : p.planTaken.pcu.waitSeconds = 0 := by
  unfold planTaken; split
  · exact enterBlocked_waitSeconds _ h
  · exact enterWait_waitSeconds h

theorem Part.decideCase_of_parked (h : p.liu.doorZone.level = true ∧ p.liu.doorsOpen.level = true) :
    p.decideCase = p.enterParked := if_pos h

theorem Part.decideCase_of_chain_open (h : ¬ (p.liu.doorZone.level = true ∧ p.liu.doorsOpen.level = true))
    (hch : p.liu.chain.level = false) : p.decideCase = p.caseFound.enterBlocked .chain :=
  (if_neg h).trans (if_pos (by simp [hch]))

theorem Part.decideCase_of_chain_closed (h : ¬ (p.liu.doorZone.level = true ∧ p.liu.doorsOpen.level = true))
    (hch : p.liu.chain.level = true) : p.decideCase = p.caseFound.requestPlan.planTaken := 
  (if_neg h).trans (if_neg (by simp [hch]))

end

/-- Sameness outside blocks of which RSQ is one does not turn on RSQ's record. -/
theorem Part.sameOutside_mapRsq {changed : List Block} (h : .rsq ∈ changed) (f : Rsq → Rsq) (q p : Part) :
    q.sameOutside changed (p.mapRsq f) ↔ q.sameOutside changed p := by
  simp [sameOutside, h]

/-- What an entry to BLOCKED makes of a part does not turn on its verify timer. -/
theorem Part.blocksAs_verified (cause : Cause) (q p : Part) : q.blocksAs cause p.verified ↔ q.blocksAs cause p := by
  unfold blocksAs verified
  rw [sameOutside_mapRsq (by decide)]
  exact Iff.rfl

/-- The part, with no case yet, as PCU has planned for it; the verify timer has no part in the plan. -/
theorem Part.requestPlan_verified {p : Part} (hd : p.adu.state ≠ .defer) :
    p.verified.caseFound.requestPlan = (p.caseFound.planned (p.settings.makePlan p.caseFound.planInputs)).verified :=
  Part.requestPlan_eq (p := p.verified.caseFound) hd

/-- Settles O24: the decision's order, each end by the entry's own lemma. -/
theorem verifyDecidesTheCase : Obligations.VerifyDecidesTheCase := by
  intro s hw hs he hn
  refine ⟨_, State.runExpiry_of_expires (timer := (·.rsq.verifyTimer)) Part.verifyExpires hw he, ?_⟩
  rw [show s.part.verifyExpires = s.part.verified.decideCase from Part.verifyExpires_eq hs he.1]
  rintro p rfl
  have hc := hw.2
  have hv : s.part.rsq.state ≠ .warn := by simp [hs]
  have hh : s.part.adu.isHolder = false := by simp [Adu.isHolder, hn]
  have blocks : ∀ (r : Part) (cause : Cause), r.lpc = s.part.lpc → r.rsq = s.part.rsq → r.adu = s.part.adu →
      (r.verified.enterBlocked cause).blocksAs cause r := fun r cause hl hr ha =>
    (Part.blocksAs_verified cause _ r).mp (Part.enterBlocked_blocksAs cause (by rw [← hc, ← hl]; rfl)
      (.inl (by rw [← hr] at hv; exact hv)) (by rw [← hh, ← ha]; rfl))
  refine ⟨fun hp => ?_, fun hp => ⟨fun hch => ?_, fun hch plan hplan => ?_⟩⟩
  · rw [Part.decideCase_of_parked (p := s.part.verified) hp, Part.enterParked_eq (p := s.part.verified) hc hs hn]
    exact ⟨rfl, rfl, rfl, by simp [Part.sameOutside, Part.verified]⟩
  · rw [Part.decideCase_of_chain_open (p := s.part.verified) hp hch]
    exact blocks s.part.caseFound .chain rfl rfl rfl
  · rw [Part.decideCase_of_chain_closed (p := s.part.verified) hp hch,
      Part.requestPlan_verified (p := s.part) (by simp [hn])]
    obtain rfl : plan = s.part.settings.makePlan s.part.caseFound.planInputs := hplan
    generalize s.part.settings.makePlan s.part.caseFound.planInputs = plan
    have planned := blocks (s.part.caseFound.planned plan)
    refine ⟨Part.planTaken_plan, Part.planTaken_waitSeconds rfl, fun hb => ?_, fun hb => ?_, fun hb w hw => ?_⟩
    · rw [Part.planTaken_of_blocked (cause := .position) (congrArg BlockCause.recorded hb)]
      exact planned .position rfl rfl rfl
    · rw [Part.planTaken_of_blocked (cause := .infeasible) (congrArg BlockCause.recorded hb)]
      exact planned .infeasible rfl rfl rfl
    · rw [Part.planTaken_of_unblocked hb, hw]
      exact Part.enterWait_seeksAs (p := (s.part.caseFound.planned plan).verified) hc hv hn rfl

end Sys2Proof.Machine
end

section
/-! PROOF. The encoder step (R126) and the end of the probe race (R20 to R23, R49, R65). -/

namespace Sys2Proof.Machine

-- Checked one after another: side by side, each waiting proof keeps a thread of its own.
set_option Elab.async false

section
variable {p : Part}

/-! ## A legal step of the encoder -/

theorem encoderMeaning_pairMoved (d : Dir) (held : Bool × Bool) : encoderMeaning held (pairMoved d held) = .step d := by
  obtain ⟨a, b⟩ := held
  cases d <;> cases a <;> cases b <;> rfl

/-- The part as LIU has sampled a legal step, before RSQ takes the event (R126). -/
def Part.stepSampled (d : Dir) (p : Part) : Part :=
  { p with
    pins := { p.pins with encoder := pairMoved d p.liu.encoder }
    liu := { p.liu with position := stepPosition d p.liu.position, encoder := pairMoved d p.liu.encoder } }

/-- The command of a step in a working part: the sample, then the event. -/
theorem State.exec_encoderStep {s : State} (h : s.part.pins.resetLow = false) (d : Dir) :
    exec (.encoderStep d) s = .next { s with part := (s.part.stepSampled d).stepEvent d } := by
  have hm : s.part.moveEncoder (pairMoved d)
      = s.part.mapPins fun q => { q with encoder := pairMoved d s.part.liu.encoder } := by
    simp [Part.moveEncoder, Part.mapPins, h]
  have hs : (s.part.moveEncoder (pairMoved d)).sampleEncoder = (s.part.stepSampled d).stepEvent d := by
    rw [hm]
    simp only [Part.sampleEncoder, Part.mapPins, encoderMeaning_pairMoved]
    rfl
  change Host.Outcome.next { s with part := (s.part.moveEncoder (pairMoved d)).whenWorking Part.sampleEncoder } = _
  rw [Part.whenWorking_of_high Part.sampleEncoder (s.part.moveEncoder (pairMoved d)) h, hs]

theorem stepPosition_eq (d : Dir) (position : Nat) :
    stepPosition d position = if d = .up then min 65535 (position + 1) else position - 1 := by
  cases d <;> rfl

/-! ## The draw needed is told (R65), and CREEP is entered (R23) -/

theorem Part.neededDraw_eq (needed : Nat) (p : Part) :
    p.neededDraw needed = { p with adu := p.adu.lowered needed, fre := p.adjustOffered needed } := by
  unfold neededDraw adjustOffered Adu.lowered
  simp only [← Adu.isHolder_iff]
  by_cases h : p.adu.isHolder = true ∧ needed < p.adu.heldDraw
  · have hl : (p.mapAdu fun a => { a with heldDraw := needed }).lineAvailable = p.lineAvailable := rfl
    simp only [if_pos h, hl]
    by_cases ha : p.lineAvailable = true
    · simp [ha, h, mapAdu, mapFre, settings]
    · simp [ha, mapAdu]
  · have h' : ¬ (p.adu.isHolder = true ∧ needed < p.adu.heldDraw ∧ p.lineAvailable = true) := fun ⟨a, b, _⟩ => h ⟨a, b⟩
    rw [if_neg h, if_neg h, if_neg h']

theorem Adu.lowered_state (needed : Nat) (a : Adu) : (a.lowered needed).state = a.state := by
  unfold lowered; split <;> rfl

theorem Part.enterCreep_creepsAs (hc : p.lpc.committed = true) (hs : p.rsq.state = .probe) (needed : Nat) (plan : Plan) :
    ((p.mapPcu fun c => { c with plan := plan }).neededDraw needed).enterCreep.creepsAs needed plan p := by
  have ho : (p.mapPcu fun c => { c with plan := plan }).adjustOffered needed = p.adjustOffered needed := rfl
  rw [neededDraw_eq, ho]
  unfold enterCreep
  rw [changeState_eq (code := 6) (by simpa using hc) rfl]
  simp [creepsAs, mapRsq, mapPcu, Rsq.rested, Rsq.stopTimers, Outputs.steer, sameOutside, Pcu.rescueStateChanged,
    RescueState.waiting, Anu.rescueStateChanged, hs, presence, settings, presenceDraw_eq, Config.brakeTime,
    Config.progressTime, Config.speedTime, Config.ms, Config.samplesPerMs, Adu.lowered_state]

/-! ## The end of the race -/

/-- PCU answers that the rescue goes on (R21, R49). -/
theorem Part.raceEnds_creepsAs (hc : p.lpc.committed = true) (hs : p.rsq.state = .probe) {outcome : ProbeOutcome}
    {needed : Nat} {retarget : Option (Dir × Target)}
    (h : p.settings.probeReplan p.pcu.plan p.adu.admittedDraw p.liu.position outcome = .proceed needed retarget) :
    (p.raceEnds outcome).creepsAs needed (p.pcu.plan.retargeted retarget) p := by
  rw [raceEnds_eq, h]
  exact enterCreep_creepsAs hc hs needed _

/-- PCU answers with a REPLAN (R22). -/
theorem Part.raceEnds_replansAs (hc : p.lpc.committed = true) (hs : p.rsq.state = .probe) (hh : p.adu.isHolder = true)
    {outcome : ProbeOutcome}
    (h : p.settings.probeReplan p.pcu.plan p.adu.admittedDraw p.liu.position outcome = .replan) :
    (p.raceEnds outcome).replansAs p := by
  rw [raceEnds_eq, h]
  exact replan_replansAs hc (by simp [hs]) hh

/-! ## The race's two ends -/

/-- The part as the probe window has reached its limit (R20). -/
def Part.windowReached (p : Part) : Part := p.mapRsq fun r => { r with probeWindow := p.settings.probeWindow }

/-- The part as its probe tick has stopped. -/
def Part.untimed (p : Part) : Part := p.mapRsq fun r => { r with probeTick := .stopped }

theorem Part.creepsAs_untimed (needed : Nat) (plan : Plan) (q p : Part) :
    q.creepsAs needed plan p.untimed ↔ q.creepsAs needed plan p := by
  unfold creepsAs untimed
  rw [sameOutside_mapRsq (by decide)]
  exact Iff.rfl

theorem Part.replansAs_untimed (q p : Part) : q.replansAs p.untimed ↔ q.replansAs p := Iff.rfl

/-- The part as a step in PROBE has been counted (R20). -/
def Part.probeCounted (d : Dir) (p : Part) : Part :=
  p.mapRsq fun r => { r with probePulses := r.probePulses + 1, probeNet := r.probeNet + (if d = .up then 1 else -1) }

/-- What the race says of the car's balance by its net displacement (R20). -/
def outcomeOf (net : Int) : ProbeOutcome :=
  if 0 < net then .observed .up else if net < 0 then .observed .down else .balanced

/-- A step in PROBE is counted; the one that reaches the probe travel ends the race (R20). -/
theorem Part.probeStep_eq (d : Dir) (p : Part) :
    p.probeStep d =
      if p.settings.probeTravel ≤ (p.probeCounted d).rsq.probePulses then
        (p.probeCounted d).raceEnds (outcomeOf (p.probeCounted d).rsq.probeNet)
      else p.probeCounted d := by
  have hd : Dir.millimetres d = if d = .up then 1 else -1 := by cases d <;> rfl
  have ho : ∀ net : Int, (if net = 0 then ProbeOutcome.balanced else if 0 < net then .observed .up else .observed .down)
      = outcomeOf net := by
    intro net
    unfold outcomeOf
    obtain h | h | h := lt_trichotomy net 0
    · rw [if_neg (by omega), if_neg (by omega), if_neg (by omega), if_pos h]
    · rw [if_pos h, if_neg (by omega), if_neg (by omega)]
    · rw [if_neg (by omega), if_pos h, if_pos h]
  unfold probeStep
  simp only [hd, ho]
  rfl

theorem Part.probeStep_of_short (d : Dir) (h : (p.probeCounted d).rsq.probePulses < p.settings.probeTravel) :
    p.probeStep d = p.probeCounted d := (probeStep_eq d p).trans (if_neg (Nat.not_le.mpr h))

theorem Part.probeStep_of_travelled (d : Dir) (h : p.settings.probeTravel ≤ (p.probeCounted d).rsq.probePulses) :
    p.probeStep d = (p.probeCounted d).raceEnds (outcomeOf (p.probeCounted d).rsq.probeNet) :=
  (probeStep_eq d p).trans (if_pos h)

end

/-- Settles O25: both ends of the race take PCU's answer on the part as it stands. -/
theorem probeRaceEnds : Obligations.ProbeRaceEnds := by
  intro s hw hs ha
  have hc := hw.2
  have hh : s.part.adu.isHolder = true := ha.1.mpr (by simp [hs])
  refine ⟨fun hd => ?_, fun n ht hq => State.runExpiry_of_restarted (timer := (·.rsq.probeTick)) hq ht, fun d => ?_⟩
  · refine ⟨s.part.windowReached.untimed.raceEnds .balanced, ?_, ?_⟩
    · refine (State.runExpiry_of_stands (timer := (·.rsq.probeTick)) (f := Part.probeWindowEnds) hd).trans ?_
      rw [State.run_eq, Part.whenWorking_of_high _ _ hw.1, Part.probeWindowEnds_eq hs]
      rfl
    · split
      next needed retarget h =>
        exact (Part.creepsAs_untimed needed _ _ s.part.windowReached).mp
          (Part.raceEnds_creepsAs (p := s.part.windowReached.untimed) hc hs h)
      next h =>
        exact (Part.replansAs_untimed _ s.part.windowReached).mp
          (Part.raceEnds_replansAs (p := s.part.windowReached.untimed) hc hs hh h)
  · have hq : (s.part.stepSampled d).stepEvent d = (s.part.stepSampled d).probeStep d := by
      simp only [Part.stepEvent, show (s.part.stepSampled d).rsq.state = .probe from hs]
    refine ⟨_, (s.part.stepSampled d).probeCounted d, State.exec_encoderStep hw.1 d, ?_, ?_, fun ht => ?_, fun ht outcome ho => ?_⟩
    · simp only [Part.stepEvent_pins, Part.stepEvent_liu]; rfl
    · simp only [Part.stepEvent_liu]; exact stepPosition_eq d _
    · rw [hq, Part.probeStep_of_short (p := s.part.stepSampled d) d ht]
    · rw [hq, Part.probeStep_of_travelled (p := s.part.stepSampled d) d ht, ho]
      split
      next needed retarget h => exact Part.raceEnds_creepsAs (p := (s.part.stepSampled d).probeCounted d) hc hs h
      next h => exact Part.raceEnds_replansAs (p := (s.part.stepSampled d).probeCounted d) hc hs hh h

end Sys2Proof.Machine
end

section
/-! PROOF. A step in CREEP (R23 to R27): its measurements, and the end taken first. -/

namespace Sys2Proof.Machine

-- Checked one after another: side by side, each waiting proof keeps a thread of its own.
set_option Elab.async false

section
variable {p : Part}

/-! ## The ends of CREEP -/

/-- The distance to the target by its two figures (R26). -/
theorem distance_le_iff (position level z : Nat) :
    (position - level) + (level - position) ≤ z ↔ position ≤ level + z ∧ level ≤ position + z := by omega

/-- The ends that the model tests are those of R24 to R26: a car within Z of its target has not overrun it. -/
theorem Part.creepEnds_eq (p : Part) : p.creepEnds = p.creepFailures := by
  unfold creepEnds creepFailures targetTest
  simp only [distance_le_iff]
  rw [List.append_assoc _ _ (if _ ∨ _ then _ else _)]
  congr 1
  by_cases hz : p.liu.doorZone.level = true ∧ p.liu.position ≤ p.pcu.plan.level + p.settings.halfWidth
      ∧ p.pcu.plan.level ≤ p.liu.position + p.settings.halfWidth
  · rw [if_pos hz, if_pos hz, if_neg (by omega)]; rfl
  · rw [if_neg hz, if_neg hz]
    match hd : p.pcu.plan.direction with
    | none => simp
    | some .up => by_cases h : p.pcu.plan.level + p.settings.halfWidth < p.liu.position <;> simp [h]
    | some .down => by_cases h : p.liu.position + p.settings.halfWidth < p.pcu.plan.level <;> simp [h]

/-- The entry to LEVEL, from CREEP (R27), before ADU is told the level draw. -/
theorem Part.enterAtRest_level (hc : p.lpc.committed = true) (hs : p.rsq.state = .creep) :
    p.enterAtRest .level = { p with
      rsq := p.rsq.rested .level .none false true, pcu := { p.pcu with waitTimer := .stopped }
      fre := p.fre.offer (p.presence 6 p.presenceDraw none (p.adu.state == AdmissionState.solo))
      anu := { p.anu with patience := .stopped } } := by
  rw [enterAtRest_eq (code := 6) hc rfl]
  simp [hs, Pcu.rescueStateChanged, RescueState.waiting, Anu.rescueStateChanged, presenceDraw_eq, RescueState.doorRequested,
    RescueState.alarmed]

theorem Part.enterLevel_levelsAs (hc : p.lpc.committed = true) (hs : p.rsq.state = .creep) : p.enterLevel.levelsAs p := by
  unfold enterLevel
  rw [enterAtRest_level hc hs, neededDraw_eq]
  exact ⟨rfl, rfl, rfl, rfl, rfl, by simp [sameOutside, mapRsq, mapAnu, requestPhrase]⟩

/-- Of several ends the one taken first acts, on a part in which only the choices have moved on (R25). -/
theorem Part.firstOf_endsCreep (ends : List CreepEnd) (p : Part) (h : ends ≠ []) :
    ∃ e ∈ ends, ∃ choices, p.firstOf ends = ({ p with choices := choices } : Part).endCreep e := by
  match ends with
  | [e] => exact ⟨e, by simp, p.choices, rfl⟩
  | e :: e' :: es =>
    refine ⟨_, ?_, p.choices + 1, rfl⟩
    have hl : Config.eventOrder p.choices % ((e' :: es).length + 1) < (e :: e' :: es).length := Nat.mod_lt _ (Nat.succ_pos _)
    rw [List.getD_eq_getElem _ _ hl]
    exact List.getElem_mem _

/-- The end taken is LEVEL at an arrival, HALTED with its cause at a failure (R25, R27). -/
theorem Part.endCreep_ends (hc : p.lpc.committed = true) (hs : p.rsq.state = .creep) (e : CreepEnd) :
    (e = .arrival → (p.endCreep e).levelsAs p) ∧ ∀ cause, e = .failure cause → (p.endCreep e).haltsAs cause p := by
  refine ⟨?_, ?_⟩
  · rintro rfl; exact enterLevel_levelsAs hc hs
  · rintro cause rfl; exact enterHalted_haltsAs cause hc (by simp [hs])

/-- The part as a step in CREEP has been measured (R24, R25). -/
def Part.creepCounted (d : Dir) (p : Part) : Part :=
  p.mapRsq fun r =>
    { r with
      speedCount := r.speedCount + 1
      progressNet := r.progressNet + (if p.pcu.plan.direction = some d then 1 else -1)
      netReverse := if p.pcu.plan.direction = some d then r.netReverse - 1 else r.netReverse + 1 }

theorem Part.creepStep_eq (d : Dir) (p : Part) :
    p.creepStep d = (p.creepCounted d).firstOf (p.creepCounted d).creepFailures := by
  have hr : p.mapRsq (Rsq.countStep p.pcu.plan.direction d) = p.creepCounted d := by
    unfold creepCounted Rsq.countStep
    by_cases h : p.pcu.plan.direction = some d
    · simp only [if_pos h]
    · simp only [if_neg h]; rfl
  unfold creepStep
  rw [hr]
  exact congrArg (fun ends => (p.creepCounted d).firstOf ends) (creepEnds_eq _)

end

/-- Settles O27: the step is measured, and the first of its ends acts. -/
theorem creepStepSupervised : Obligations.CreepStepSupervised := by
  intro s d hw hs
  have hq : (s.part.stepSampled d).stepEvent d = (s.part.stepSampled d).creepStep d := by
    simp only [Part.stepEvent, show (s.part.stepSampled d).rsq.state = .creep from hs]
  refine ⟨_, (s.part.stepSampled d).creepCounted d, State.exec_encoderStep hw.1 d, ?_, ?_, fun hn => ?_, fun hn => ?_⟩
  · simp only [Part.stepEvent_pins, Part.stepEvent_liu]; rfl
  · simp only [Part.stepEvent_liu]; exact stepPosition_eq d _
  · rw [hq, Part.creepStep_eq, hn]; rfl
  · obtain ⟨e, he, choices, hf⟩ := Part.firstOf_endsCreep _ ((s.part.stepSampled d).creepCounted d) hn
    refine ⟨e, he, choices, ?_⟩
    rintro p' rfl
    rw [hq, Part.creepStep_eq, hf]
    exact Part.endCreep_ends (p := { (s.part.stepSampled d).creepCounted d with choices := choices }) hw.2 hs e

end Sys2Proof.Machine
end

section
/-! PROOF. RESUME (R31, R155), and what every transaction of the port leaves behind it (R147, R148). -/

namespace Sys2Proof.Machine

-- Checked one after another: side by side, each waiting proof keeps a thread of its own.
set_option Elab.async false

/-! ## The port stands ready after a transaction -/

/-- The part is ready for a transaction: RSTN is high, and no release of select is awaited (R147, R153). -/
def Part.heedsPort (p : Part) : Prop := p.pins.resetLow = false ∧ p.lpc.awaitRelease = false

section
variable {p : Part}

theorem Lpc.clockByte_awaitRelease (status : List Byte) (viewed : Nat → List Byte) (b : Byte) (l : Lpc) :
    (l.clockByte status viewed b).awaitRelease = l.awaitRelease := by
  unfold clockByte; dsimp only
  repeat' split
  all_goals rfl

theorem Lpc.foldl_clockByte_awaitRelease (status : List Byte) (viewed : Nat → List Byte) (bytes : List Byte) (l : Lpc) :
    (bytes.foldl (fun l b => l.clockByte status viewed b) l).awaitRelease = l.awaitRelease := by
  induction bytes generalizing l with
  | nil => rfl
  | cons b bytes ih => exact (ih _).trans (clockByte_awaitRelease ..)

theorem Part.heedsPort.setResult (h : p.heedsPort) (r : CommandResult) : (p.setResult r).heedsPort := h

theorem Part.heedsPort.refuseTransaction (h : p.heedsPort) (r : CommandResult) : (p.refuseTransaction r).heedsPort := h

theorem Part.heedsPort.takeLoad (h : p.heedsPort) (staged : List Byte) : (p.takeLoad staged).heedsPort := by
  unfold Part.takeLoad; dsimp only
  repeat' split
  all_goals exact h

theorem Part.heedsPort.takeCommit (h : p.heedsPort) : p.takeCommit.heedsPort := by
  unfold Part.takeCommit
  repeat' split
  · exact h
  · exact h
  · exact ⟨by simpa using h.1, by simpa [Part.goIntoService] using h.2⟩

theorem Part.heedsPort.takeLoopback (h : p.heedsPort) : p.takeLoopback.heedsPort := by
  unfold Part.takeLoopback
  repeat' split
  · exact h
  · exact h
  · exact ⟨by simpa [Part.setResult] using h.1, by simpa [Part.setResult] using h.2⟩

theorem Part.heedsPort.judgeTick (h : p.heedsPort) (kind : TickKind) (d : TickData) : (p.judgeTick kind d).2.heedsPort := by
  unfold Part.judgeTick
  repeat' split
  · exact h
  · exact h
  · exact ⟨by simpa using h.1, by simpa using h.2⟩

theorem Part.heedsPort.takeTick (h : p.heedsPort) (kind : TickKind) (staged : List Byte) : (p.takeTick kind staged).heedsPort := by
  have hj := h.judgeTick kind (TickData.ofBytes staged)
  unfold Part.takeTick
  split
  · exact h
  · split <;> rename_i hq <;> rw [hq] at hj <;> exact hj

theorem Part.heedsPort.takeResume (h : p.heedsPort) : p.takeResume.heedsPort := by
  obtain ⟨_, hr⟩ | ⟨_, _, _, _, hr⟩ | ⟨_, _, hr⟩ := p.takeResume_cases <;> rw [hr]
  · exact ⟨by simpa [Part.setResult] using h.1, by simpa [Part.setResult] using h.2⟩
  · exact h
  · exact h

/-- R153: a RESTART finds select released. -/
theorem Part.heedsPort.takeRestart (h : p.heedsPort) : p.takeRestart.heedsPort := ⟨h.1, rfl⟩

/-- What the part keeps of a transaction: it is ready for the next one, which finds the mark of R31 clear. -/
theorem Part.heedsPort.transaction (h : p.heedsPort) (bytes : List Byte) (bits : Nat) {finish : Lpc → Part → Part}
    (hf : ∀ l q, q.heedsPort → (finish l q).heedsPort) :
    (p.transaction bytes bits finish).heedsPort ∧ (p.transaction bytes bits finish).rsq.cancelCame = false := by
  have hc : (p.clock bytes bits).release.heedsPort :=
    ⟨h.1, (Lpc.foldl_clockByte_awaitRelease p.statusRecord (fun i => p.viewRecord i) bytes p.lpc.select).trans h.2⟩
  unfold Part.transaction
  rw [if_neg (by simp [h.2])]
  exact ⟨hf _ _ hc, rfl⟩

theorem Part.heedsPort.modify (h : p.heedsPort) (c : PortCommand) (t : Tail) {take : List Byte → Part → Part}
    (hf : ∀ bytes q, q.heedsPort → (take bytes q).heedsPort) :
    (p.modify c t take).heedsPort ∧ (p.modify c t take).rsq.cancelCame = false := by
  refine h.transaction _ _ fun l q hq => ?_
  split
  · exact hf _ _ hq
  · exact hq.refuseTransaction _

end

/-- The commands that are transactions of the lift port (R148). -/
def IsTransaction : Instr → Prop
  | .load _ | .commit _ | .restart _ | .loopback _ | .tickA _ | .tickB _ | .resume _ | .status _ | .view _
  | .unknownCommand _ _ | .incompleteCommandByte _ => True
  | _ => False

/-- Every transaction leaves the port ready, and the mark of R31 clear. -/
theorem exec_transaction {c : Instr} {s t : State} (hc : IsTransaction c) (h : s.part.heedsPort) (ht : exec c s = .next t) :
    t.part.heedsPort ∧ t.part.rsq.cancelCame = false := by
  have run : ∀ f : Part → Part, (f s.part).heedsPort ∧ (f s.part).rsq.cancelCame = false → s.run f = .next t →
      t.part.heedsPort ∧ t.part.rsq.cancelCame = false := by
    intro f hf hr
    rw [State.run_eq, Part.whenWorking_of_high _ _ h.1] at hr
    rw [← Host.Outcome.next.inj hr]
    exact hf
  cases c with
  | load tail => exact run _ (h.modify .load tail fun _ _ hq => hq.takeLoad _) ht
  | commit tail => exact run _ (h.modify .commit tail fun _ _ hq => hq.takeCommit) ht
  | restart tail => exact run _ (h.modify .restart tail fun _ _ hq => hq.takeRestart) ht
  | loopback tail => exact run _ (h.modify .loopback tail fun _ _ hq => hq.takeLoopback) ht
  | tickA tail => exact run _ (h.modify .tickA tail fun _ _ hq => hq.takeTick .a _) ht
  | tickB tail => exact run _ (h.modify .tickB tail fun _ _ hq => hq.takeTick .b _) ht
  | resume tail => exact run _ (h.modify .resume tail fun _ _ hq => hq.takeResume) ht
  | status tail => exact run _ (h.transaction _ _ fun _ _ hq => hq) ht
  | view tail => exact run _ (h.transaction _ _ fun _ _ hq => hq) ht
  | incompleteCommandByte bits => exact run _ (h.transaction _ _ fun _ _ hq => hq.refuseTransaction _) ht
  | unknownCommand code tail =>
    rw [(State.runIf_next ht).2]
    rw [Part.whenWorking_of_high _ _ h.1]
    exact h.transaction _ _ fun _ _ hq => hq.refuseTransaction _
  | _ => exact hc.elim

/-! ## RESUME -/

section
variable {p : Part}

/-- The part as a RESUME of one byte has been clocked (R148). -/
def Part.resumeClocked (p : Part) : Part := p.mapLpc (Lpc.closed [0] [])

theorem exec_resume {s : State} (h : s.portReady) :
    exec (.resume ⟨[], 0⟩) s = .next { s with part := s.part.resumeClocked.takeResume.settled } := by
  change s.run (Part.modify .resume ⟨[], 0⟩ fun _ p => p.takeResume) = _
  rw [State.run_eq, Part.whenWorking_of_high _ _ h.1, Part.modify_ready .resume rfl _ _ _ h.2, if_pos (by decide)]
  rfl

theorem Part.resumeAccepted_iff :
    p.resumeAccepted = true ↔ (p.rsq.state = .blocked ∧ p.liu.cancel = true) ∨ p.rsq.state = .landed
      ∨ (p.rsq.state = .halted ∧ p.liu.cancel = true ∧ p.liu.chain.level = true) := by
  unfold resumeAccepted
  cases p.rsq.state <;> simp

theorem Part.resumeMeetsCancel_iff :
    p.resumeMeetsCancel = true ↔ p.rsq.state = .watch ∧ p.rsq.cancelCame = true := by
  simp [resumeMeetsCancel]

/-- The states of R31 are none in which the node holds a draw. -/
theorem Part.rests_of_resumeAccepted (h : p.resumeAccepted = true) (hf : p.admissionFits) :
    p.rsq.state ≠ .warn ∧ p.adu.isHolder = false := by
  have hs : p.rsq.state ∉ [RescueState.warn, .probe, .creep, .level, .doors] := by
    obtain ⟨hs, -⟩ | hs | ⟨hs, -⟩ := resumeAccepted_iff.mp h <;> simp [hs]
  exact ⟨fun hw => hs (by simp [hw]), by simpa using mt hf.1.mp hs⟩

theorem Part.settled_of_clear (h : p.rsq.cancelCame = false) : p.settled = p := by
  unfold settled; rw [← h]

/-- What an entry to WATCH makes of a part stands with the mark of R31 cleared on both sides. -/
theorem Part.watchesAs_settled {q : Part} (h : q.watchesAs p) : q.settled.watchesAs p.settled := by
  obtain ⟨hp, ha, ho, hn, hv⟩ := h
  have cleared : ∀ r : Rsq, q.rsq = r → r.cancelCame = false → q.settled.rsq = r := by
    rintro _ rfl hr; unfold settled; rw [← hr]
  refine ⟨hp, ha, by simpa [sameOutside] using ho, fun hs => ?_, fun hs => ?_⟩
  · obtain ⟨hr, hf⟩ := hn hs
    exact ⟨cleared _ hr rfl, hf⟩
  · obtain ⟨hr, hf⟩ := hv hs
    exact ⟨cleared _ hr rfl, hf⟩

end

/-- R31: a RESUME that is neither accepted nor falls together with the cancel condition changes the last-command result alone. -/
theorem exec_resume_refused {s : State} (h : s.portReady) (ha : s.part.resumeAccepted ≠ true) (hm : s.part.resumeMeetsCancel ≠ true) :
    exec (.resume ⟨[], 0⟩) s = .next { s with part := (s.part.resumeClocked.setResult .resumeRefused).settled } := by
  obtain ⟨h', -⟩ | ⟨-, h', -⟩ | ⟨-, -, hr⟩ := s.part.resumeClocked.takeResume_cases
  · exact absurd h' ha
  · exact absurd h' hm
  · rw [exec_resume h, hr]

/-- Settles O14: the three answers of takeResume, and after any transaction in WATCH the third. -/
theorem resumeFollowsItsTable : Obligations.ResumeFollowsItsTable := by
  intro s h
  dsimp only
  refine ⟨fun ha hc hf => ?_, fun hm => ?_, fun ha hm => ?_, fun c code tail bits t hl ht hw => ?_⟩
  · have ha' : s.part.resumeAccepted = true := Part.resumeAccepted_iff.mpr ha
    obtain ⟨hs, hh⟩ := Part.rests_of_resumeAccepted ha' hf
    have hq : s.part.resumeClocked.takeResume = s.part.resumeClocked.enterWatch.setResult .done := if_pos ha'
    refine ⟨s.part.resumeClocked.enterWatch.settled, ?_, ?_⟩
    · rw [exec_resume h, hq]; rfl
    · exact Part.watchesAs_settled (Part.enterWatch_watchesAs (p := s.part.resumeClocked) hc (.inl hs) hh)
  · obtain ⟨ha, -⟩ | ⟨-, -, result, hr, ht⟩ | ⟨-, hm', -⟩ := s.part.resumeClocked.takeResume_cases
    · exact absurd (Part.resumeAccepted_iff.mp ha) (by simp [Part.resumeClocked, hm.1])
    · refine ⟨result, s.part.choices + 1, hr, ?_⟩
      rw [exec_resume h, ht]; rfl
    · exact absurd (Part.resumeMeetsCancel_iff (p := s.part.resumeClocked) |>.mpr hm) (by simp [hm'])
  · exact exec_resume_refused h (fun h => ha (Part.resumeAccepted_iff.mp h)) fun h => hm (Part.resumeMeetsCancel_iff.mp h)
  · have hc : IsTransaction c := by
      simp only [List.mem_cons, List.not_mem_nil, or_false] at hl
      obtain rfl | rfl | rfl | rfl | rfl | rfl | rfl | rfl | rfl | rfl | rfl := hl <;> trivial
    obtain ⟨hp, hm⟩ := exec_transaction hc h ht
    rw [exec_resume_refused hp (by simp [Part.resumeAccepted, hw]) (by simp [Part.resumeMeetsCancel, hm]),
      Part.settled_of_clear (p := t.part.resumeClocked.setResult .resumeRefused) hm]
    rfl

end Sys2Proof.Machine
end

section
/-! PROOF. The landings that a plan looks for (R37, R38): the search of the zone, the nearest candidate in a direction, and the
nearer of two directions. -/

namespace Sys2Proof.Machine

-- Checked one after another: side by side, each waiting proof keeps a thread of its own.
set_option Elab.async false

section
variable {c : Settings} {position : Nat} {d : Dir} {t u : Target}

theorem Target.distance_eq_away (t : Target) (position : Nat) : t.distance position = t.away position := by
  unfold distance away; omega

theorem Settings.mem_eligible : t ∈ c.eligible ↔ c.hasLanding t := by
  unfold eligible hasLanding
  simp only [List.mem_filterMap, Prod.exists, List.mk_mem_zipIdx_iff_getElem?, Option.ite_none_right_eq_some, Option.some.injEq]
  exact ⟨fun ⟨l, i, hi, hl, ht⟩ => ⟨i, l, hi, hl, ht.symm⟩, fun ⟨i, l, hi, hl, ht⟩ => ⟨l, i, hi, hl, ht.symm⟩⟩

theorem Settings.isCandidate_iff : c.isCandidate position d t = true ↔ t.beyond c.halfWidth position d := by
  cases d <;> simp [isCandidate, Target.beyond]

/-! ## The zone (R37) -/

theorem Settings.zoneLanding_some (h : c.zoneLanding position = some t) :
    c.hasLanding t ∧ t.away position ≤ c.halfWidth :=
  ⟨mem_eligible.mp (List.mem_of_find?_eq_some h), by simpa [Target.distance_eq_away] using List.find?_some h⟩

theorem Settings.zoneLanding_eq_none :
    c.zoneLanding position = none ↔ ∀ t, c.hasLanding t → c.halfWidth < t.away position := by
  simp [zoneLanding, mem_eligible, Target.distance_eq_away]

/-! ## The nearest candidate (R38) -/

theorem nearest_eq_none (position : Nat) (ts : List Target) : nearest position ts = none ↔ ts = [] := by
  cases ts with
  | nil => simp [nearest]
  | cons t ts =>
    unfold nearest; repeat' split
    all_goals simp

/-- The landing found is one of the list, and none of the list is nearer. -/
theorem nearest_some {ts : List Target} (h : nearest position ts = some t) :
    t ∈ ts ∧ ∀ u ∈ ts, t.distance position ≤ u.distance position := by
  induction ts generalizing t with
  | nil => cases h
  | cons first rest ih =>
    unfold nearest at h
    split at h
    next hn =>
      obtain rfl := Option.some.inj h
      simp [(nearest_eq_none position rest).mp hn]
    next u hu =>
      obtain ⟨hm, hle⟩ := ih hu
      split at h <;> obtain rfl := Option.some.inj h
      next hf => exact ⟨List.mem_cons_self, List.forall_mem_cons.mpr ⟨le_rfl, fun v hv => hf.trans (hle v hv)⟩⟩
      next hf => exact ⟨List.mem_cons_of_mem _ hm, List.forall_mem_cons.mpr ⟨by omega, hle⟩⟩

theorem Settings.mem_candidates :
    t ∈ c.eligible.filter (c.isCandidate position d) ↔ c.hasLanding t ∧ t.beyond c.halfWidth position d := by
  rw [List.mem_filter, mem_eligible, isCandidate_iff]

theorem Settings.candidate_some (h : c.candidate position d = some t) :
    c.hasLanding t ∧ t.beyond c.halfWidth position d
      ∧ ∀ u, c.hasLanding u → u.beyond c.halfWidth position d → t.away position ≤ u.away position := by
  obtain ⟨hm, hle⟩ := nearest_some h
  obtain ⟨hl, hb⟩ := mem_candidates.mp hm
  refine ⟨hl, hb, fun u hu hub => ?_⟩
  simpa only [Target.distance_eq_away] using hle u (mem_candidates.mpr ⟨hu, hub⟩)

theorem Settings.candidate_eq_none :
    c.candidate position d = none ↔ ∀ t, c.hasLanding t → ¬ t.beyond c.halfWidth position d := by
  rw [candidate, nearest_eq_none, List.eq_nil_iff_forall_not_mem]
  simp only [mem_candidates, not_and]

/-! ## Either direction (R38) -/

theorem Settings.eitherCandidate_of_both (hd : c.candidate position .down = some t) (hu : c.candidate position .up = some u) :
    c.eitherCandidate position = if t.away position ≤ u.away position then some (.down, t) else some (.up, u) := by
  simp only [eitherCandidate, hd, hu, Target.distance_eq_away]

theorem Settings.eitherCandidate_of_down (hd : c.candidate position .down = some t) (hu : c.candidate position .up = none) :
    c.eitherCandidate position = some (.down, t) := by simp only [eitherCandidate, hd, hu]

theorem Settings.eitherCandidate_of_up (hd : c.candidate position .down = none) (hu : c.candidate position .up = some u) :
    c.eitherCandidate position = some (.up, u) := by simp only [eitherCandidate, hd, hu]

theorem Settings.eitherCandidate_of_neither (hd : c.candidate position .down = none) (hu : c.candidate position .up = none) :
    c.eitherCandidate position = none := by simp only [eitherCandidate, hd, hu]

end

end Sys2Proof.Machine
end

section
/-! PROOF. The steps of a plan (R36 to R43): the position, the zone, the load, and the figures that each gives. -/

namespace Sys2Proof.Machine

-- Checked one after another: side by side, each waiting proof keeps a thread of its own.
set_option Elab.async false

section
variable {c : Settings} {i : PlanInputs} {position : Nat}

/-! ## The order of the steps (R36) -/

theorem Settings.makePlan_of_invalid (h : i.valid = false) : c.makePlan i = .blockedPosition := by simp [makePlan, h]

theorem Settings.makePlan_of_zone {t : Target} (h : i.valid = true) (hz : c.zoneLanding i.position = some t) :
    c.makePlan i = c.zonePlan i t := by simp [makePlan, h, hz]

theorem Settings.makePlan_of_motion (h : i.valid = true) (hz : c.zoneLanding i.position = none) :
    c.makePlan i = c.motionPlan i := by simp [makePlan, h, hz]

/-- A plan of a valid position has been through the last steps of R36, on a time estimate of at least the fixed time. -/
theorem Settings.makePlan_finished (h : i.valid = true) :
    ∃ base estimate, c.makePlan i = c.finishPlan i base estimate ∧ c.fixedTime ≤ estimate := by
  match hz : c.zoneLanding i.position with
  | some t => exact ⟨_, _, makePlan_of_zone h hz, le_rfl⟩
  | none => exact ⟨_, _, makePlan_of_motion h hz, Nat.le_add_left ..⟩

/-! ## The draw check (R42) -/

theorem Settings.makePlan_levelDraw (h : i.valid = true) : (c.makePlan i).levelDraw = drawUnits c.baseDraw := by
  obtain ⟨base, estimate, hp, -⟩ := makePlan_finished h
  rw [hp]; rfl

theorem Settings.makePlan_blockCause (h : i.valid = true) :
    (c.makePlan i).blockCause = c.checkDraw (c.makePlan i).draw i.sEff := by
  obtain ⟨base, estimate, hp, -⟩ := makePlan_finished h
  rw [hp]; rfl

theorem Settings.checkDraw_of_within {draw sEff : Nat} (hc : draw ≤ c.drawCeiling) (hs : draw ≤ sEff) :
    c.checkDraw draw sEff = .none := by
  rw [checkDraw, if_neg (Nat.not_lt.mpr hc), if_neg (Nat.not_lt.mpr hs)]

theorem Settings.checkDraw_of_beyond {draw sEff : Nat} (h : c.drawCeiling < draw ∨ sEff < draw) :
    c.checkDraw draw sEff = .infeasible := by
  unfold checkDraw
  by_cases hc : c.drawCeiling < draw
  · rw [if_pos hc]
  · rw [if_neg hc, if_pos (h.resolve_left hc)]

/-! ## The choice of a motion plan (R38, R39) -/

theorem Settings.chooseByImbalance_balanced {d : Int} (h : d = 0 ∨ d.natAbs < c.balanceBand) :
    c.chooseByImbalance position d =
      { basis := .balanced, target := c.eitherCandidate position, motor := c.motor c.balanceBand } := if_pos h

/-- Beyond the balance band the choice turns on the candidate that gravity favours. -/
theorem Settings.chooseByImbalance_favoured {d : Int} (h0 : d ≠ 0) (hb : c.balanceBand ≤ d.natAbs) {t : Target}
    (ht : c.candidate position (favoured d) = some t) :
    c.chooseByImbalance position d = { basis := .favoured, target := some (favoured d, t), motor := 0 } := by
  rw [chooseByImbalance, if_neg (by omega), ht]

theorem Settings.chooseByImbalance_against {d : Int} (h0 : d ≠ 0) (hb : c.balanceBand ≤ d.natAbs)
    (ht : c.candidate position (favoured d) = none) :
    c.chooseByImbalance position d =
      { basis := .against
        target := (c.candidate position (oppositeDir (favoured d))).map fun t => (oppositeDir (favoured d), t)
        motor := c.motor d.natAbs } := by
  rw [chooseByImbalance, if_neg (by omega), ht]

theorem Settings.chooseByImbalance_known (d : Int) : (c.chooseByImbalance position d).basis ≠ .unknown := by
  unfold chooseByImbalance
  split
  · simp
  · split <;> simp

theorem oppositeDir_favoured (d : Int) : oppositeDir (favoured d) = if 0 < d then .up else .down := by
  unfold favoured; split <;> rfl

theorem Settings.chooseMotion_of_unknown (h : i.load = none) :
    c.chooseMotion i.position i.load = { basis := .unknown, target := c.eitherCandidate i.position, motor := 0 } := by
  rw [h]; rfl

theorem Settings.chooseMotion_of_known {l : Nat} (h : i.load = some l) :
    c.chooseMotion i.position i.load = c.chooseByImbalance i.position (c.imbalance l) := by
  rw [h]; rfl

/-! ## The figures of a motion plan (R40, R41, R43) -/

section
variable {m : MotionChoice} (hm : c.chooseMotion i.position i.load = m)
include hm

theorem Settings.motionPlan_basis : (c.motionPlan i).basis = m.basis := hm ▸ rfl

theorem Settings.motionPlan_motorDraw : (c.motionPlan i).motorDraw = m.motor := hm ▸ rfl

theorem Settings.motionPlan_target {d : Dir} {t : Target} (ht : m.target = some (d, t)) :
    (c.motionPlan i).direction = some d ∧ (c.motionPlan i).target = t.index ∧ (c.motionPlan i).level = t.level := by
  subst hm
  simp [motionPlan, finishPlan, ht]

theorem Settings.motionPlan_draws_of_unknown (hb : m.basis = .unknown) :
    (c.motionPlan i).draw = c.drawCeiling ∧ (c.motionPlan i).totalDraw = none := by
  subst hm
  exact ⟨if_pos hb, if_pos hb⟩

theorem Settings.motionPlan_draws_of_known (hb : m.basis ≠ .unknown) :
    (c.motionPlan i).totalDraw = some (c.baseDraw + c.frictionDraw + (c.motionPlan i).motorDraw)
      ∧ (c.motionPlan i).draw = drawUnits (c.baseDraw + c.frictionDraw + (c.motionPlan i).motorDraw) := by
  subst hm
  exact ⟨if_neg hb, if_neg hb⟩

end

theorem Settings.motionPlan_timeEstimate :
    (c.motionPlan i).timeEstimate =
      (((c.motionPlan i).level - i.position) + (i.position - (c.motionPlan i).level) + c.creepSpeed - 1) / c.creepSpeed
        + c.fixedTime := rfl

/-- R39: the plan of an unknown load. -/
theorem Settings.motionPlan_of_unknown (h : i.load = none) :
    (c.motionPlan i).basis = .unknown ∧ (c.motionPlan i).draw = c.drawCeiling ∧ (c.motionPlan i).totalDraw = none
      ∧ (c.motionPlan i).motorDraw = 0
      ∧ ∀ d t, c.eitherCandidate i.position = some (d, t) →
          (c.motionPlan i).direction = some d ∧ (c.motionPlan i).target = t.index ∧ (c.motionPlan i).level = t.level := by
  have hm := chooseMotion_of_unknown (c := c) h
  obtain ⟨hd, ht⟩ := motionPlan_draws_of_unknown hm rfl
  exact ⟨motionPlan_basis hm, hd, ht, motionPlan_motorDraw hm, fun d t h => motionPlan_target hm h⟩

end

/-- Settles O30: each step by the lemma of its branch. -/
theorem planFollowsItsSteps : Obligations.PlanFollowsItsSteps := by
  refine ⟨fun c position => ⟨fun t => Settings.zoneLanding_some, Settings.zoneLanding_eq_none, fun d t => Settings.candidate_some,
    fun d => Settings.candidate_eq_none, fun t u => Settings.eitherCandidate_of_both, fun t => Settings.eitherCandidate_of_down,
    fun u => Settings.eitherCandidate_of_up, Settings.eitherCandidate_of_neither⟩, ?_⟩
  rintro c i _ rfl
  refine ⟨fun hv => ?_, fun hv => ?_, fun t hv hz => ?_, fun hv hz => ?_, fun m => rfl⟩
  · rw [Settings.makePlan_of_invalid hv]
    exact ⟨rfl, rfl, rfl, rfl⟩
  · rw [Settings.makePlan_blockCause hv]
    exact ⟨Settings.makePlan_levelDraw hv, fun ⟨hc, hs⟩ => Settings.checkDraw_of_within hc hs, Settings.checkDraw_of_beyond⟩
  · rw [Settings.makePlan_of_zone hv hz]
    exact ⟨rfl, rfl, rfl, rfl, rfl, rfl, rfl, rfl, rfl⟩
  · rw [Settings.makePlan_of_motion hv hz]
    refine ⟨rfl, Settings.motionPlan_of_unknown, fun l hl d hd => ?_, Settings.motionPlan_timeEstimate⟩
    have hm : c.chooseMotion i.position i.load = c.chooseByImbalance i.position d := by
      rw [Settings.chooseMotion_of_known hl, hd]; rfl
    obtain ⟨ht, hu⟩ := Settings.motionPlan_draws_of_known hm (Settings.chooseByImbalance_known d)
    refine ⟨ht, hu, fun hb => ?_, fun h0 hb dir hdir => ⟨fun t hc => ?_, fun hc => ?_⟩⟩
    · have hm := hm.trans (Settings.chooseByImbalance_balanced hb)
      exact ⟨Settings.motionPlan_basis hm, Settings.motionPlan_motorDraw hm, fun d t h => Settings.motionPlan_target hm h⟩
    · obtain rfl : dir = favoured d := hdir
      have hm := hm.trans (Settings.chooseByImbalance_favoured h0 hb hc)
      exact ⟨Settings.motionPlan_basis hm, Settings.motionPlan_motorDraw hm, Settings.motionPlan_target hm rfl⟩
    · obtain rfl : dir = favoured d := hdir
      have hm := hm.trans (Settings.chooseByImbalance_against h0 hb hc)
      refine ⟨Settings.motionPlan_basis hm, Settings.motionPlan_motorDraw hm, fun other ho t h => ?_⟩
      rw [← oppositeDir_favoured] at ho
      subst ho
      exact Settings.motionPlan_target hm (by simp only [h, Option.map_some])

end Sys2Proof.Machine
end

section
/-! PROOF. The key (R44): its fields, read back from its bits, in every plan and in every key recomputed in place (R45). -/

namespace Sys2Proof.Machine

-- Checked one after another: side by side, each waiting proof keeps a thread of its own.
set_option Elab.async false

/-! ## The fields of a key -/

/-- A word before another counts in steps of the other's size. -/
theorem toNat_append_eq {m n : Nat} (x : BitVec m) (y : BitVec n) : (x ++ y).toNat = x.toNat * 2 ^ n + y.toNat := by
  rw [BitVec.toNat_append, ← Nat.shiftLeft_add_eq_or_of_lt y.isLt, Nat.shiftLeft_eq]

/-- The turn counts the steps of the node numbers from the node after the last released to the node's own. -/
theorem turn_toNat (own last : Node) : (own - last - 1#4).toNat = (own.toNat + 15 - last.toNat) % 16 := by bv_omega

section
variable (occupied : Bool) (waited units : Nat) (own last : Node) (refusals : Nat)

theorem composeKey_toNat :
    (composeKey occupied waited units own last refusals).toNat =
      (if occupied then 0 else 1) * 2 ^ 23 + (7 - min 7 (waited / 60)) * 2 ^ 20 + units % 256 * 2 ^ 12
        + (own.toNat + 15 - last.toNat) % 16 * 2 ^ 8 + (15 - min 15 refusals) * 2 ^ 4 + own.toNat := by
  have hw : (7 - min 7 (waited / 60)) % 2 ^ 3 = 7 - min 7 (waited / 60) := Nat.mod_eq_of_lt (by omega)
  have hr : (15 - min 15 refusals) % 2 ^ 4 = 15 - min 15 refusals := Nat.mod_eq_of_lt (by omega)
  have ho : (if occupied then 0#1 else 1#1).toNat = if occupied then 0 else 1 := by cases occupied <;> rfl
  simp only [composeKey, waitClass, toNat_append_eq, turn_toNat, BitVec.toNat_ofNat, hw, hr, ho]
  omega

end

/-- A number made of fields, each below the size of its place, gives each of them back. -/
theorem fields_of_sum {o w u t r n k : Nat} (hw : w < 8) (hu : u < 256) (ht : t < 16) (hr : r < 16) (hn : n < 16)
    (hk : k = o * 2 ^ 23 + w * 2 ^ 20 + u * 2 ^ 12 + t * 2 ^ 8 + r * 2 ^ 4 + n) :
    k / 2 ^ 23 = o ∧ k / 2 ^ 20 % 8 = w ∧ k / 2 ^ 12 % 256 = u ∧ k / 2 ^ 8 % 16 = t ∧ k / 2 ^ 4 % 16 = r ∧ k % 16 = n := by
  omega

/-- R44: each field stands in its own bits. -/
theorem composeKey_fields {occupied : Bool} {waited units : Nat} {own last : Node} {refusals : Nat} {key : Key}
    (hk : composeKey occupied waited units own last refusals = key) :
    key.toNat / 2 ^ 23 = (if occupied then 0 else 1)
      ∧ key.toNat / 2 ^ 20 % 8 = 7 - min 7 (waited / 60)
      ∧ key.toNat / 2 ^ 12 % 256 = units % 256
      ∧ key.toNat / 2 ^ 8 % 16 = (own.toNat + 15 - last.toNat) % 16
      ∧ key.toNat / 2 ^ 4 % 16 = 15 - min 15 refusals
      ∧ key.toNat % 16 = own.toNat := by
  rw [← hk]
  exact fields_of_sum (by omega) (Nat.mod_lt _ (by omega)) (Nat.mod_lt _ (by omega)) (by omega) own.isLt (composeKey_toNat ..)

/-! ## The key of a plan -/

section
variable {c : Settings} {i : PlanInputs}

theorem timeUnitsOf_eq (estimate : Nat) : timeUnitsOf estimate = min 255 ((estimate + 1) / 2) := rfl

theorem Settings.makePlan_key_eq_none : (c.makePlan i).key = none ↔ i.valid = false := by
  refine ⟨fun h => ?_, fun h => by rw [makePlan_of_invalid h]; rfl⟩
  by_contra hv
  obtain ⟨base, estimate, hp, -⟩ := makePlan_finished (c := c) (Bool.eq_true_of_not_eq_false hv)
  rw [hp] at h
  cases h

/-- The key of a plan is composed of the plan's own figures and the counts that outlive it. -/
theorem Settings.makePlan_key {key : Key} (h : (c.makePlan i).key = some key) :
    composeKey (c.makePlan i).occupied i.waitSeconds (c.makePlan i).timeUnits c.node i.lastReleased i.refusals = key
      ∧ (c.makePlan i).timeUnits = timeUnitsOf (c.makePlan i).timeEstimate
      ∧ (c.makePlan i).occupied = c.isOccupied i.load ∧ c.fixedTime ≤ (c.makePlan i).timeEstimate := by
  have hv : i.valid = true := by
    by_contra hv
    rw [makePlan_key_eq_none.mpr (Bool.eq_false_of_not_eq_true hv)] at h
    cases h
  obtain ⟨base, estimate, hp, he⟩ := makePlan_finished (c := c) hv
  rw [hp] at h ⊢
  exact ⟨Option.some.inj h, rfl, rfl, he⟩

theorem Settings.isOccupied_iff (load : Option Nat) :
    c.isOccupied load = true ↔ load = none ∨ ∃ l, load = some l ∧ c.occupancy ≤ l := by
  cases load <;> simp [isOccupied]

end

/-- R45: the key recomputed in place, where the plan has one. -/
theorem Part.rekeyedPlan_key {p : Part} {key : Key} (h : p.rekeyedPlan.key = some key) :
    composeKey p.pcu.plan.occupied p.pcu.waitSeconds p.pcu.plan.timeUnits p.settings.node p.pvw.lastReleased p.pcu.refusals
      = key := by
  obtain ⟨_, -, hk⟩ := Option.map_eq_some_iff.mp h
  exact hk

/-- Settles O29: the fields of the composed key, on the figures of the plan. -/
theorem planKeyFields : Obligations.PlanKeyFields := by
  refine ⟨fun c i => ⟨Settings.makePlan_key_eq_none, fun key h => ?_⟩, fun p => ⟨fun h => if_pos h, fun key h => ?_⟩⟩
  · obtain ⟨hk, hu, ho, he⟩ := Settings.makePlan_key h
    obtain ⟨occupied, wait, time, turn, refusals, node⟩ := composeKey_fields hk
    rw [timeUnitsOf_eq] at hu
    refine ⟨occupied, wait, by omega, turn, refusals, node, ?_, fun hf => by omega⟩
    rw [ho]
    exact Settings.isOccupied_iff i.load
  · obtain ⟨occupied, wait, time, turn, refusals, node⟩ := composeKey_fields (Part.rekeyedPlan_key h)
    exact ⟨occupied, wait, fun hl hu => by omega, turn, refusals, node⟩

end Sys2Proof.Machine
end

section
/-! PROOF. PCU's answer to the probe outcome (R46 to R48). -/

namespace Sys2Proof.Machine

-- Checked one after another: side by side, each waiting proof keeps a thread of its own.
set_option Elab.async false

section
variable {c : Settings} {plan : Plan}

theorem Settings.coastDraw_eq (c : Settings) : c.coastDraw = max 1 ((c.baseDraw + c.frictionDraw + 49) / 50) := rfl

theorem Settings.balancedDraw_eq (c : Settings) :
    c.balancedDraw = max 1 ((c.baseDraw + c.frictionDraw + c.motor c.balanceBand + 49) / 50) := rfl

/-- R47: the plans whose claim covers a drive against an unknown imbalance. -/
theorem Plan.coversDrive_iff : plan.coversDrive c = true ↔ plan.basis = .unknown
    ∨ ((plan.basis = .balanced ∨ plan.basis = .against) ∧ c.motor c.balanceBand ≤ plan.motorDraw) := by
  unfold coversDrive
  cases plan.basis <;> simp

variable {claimed position : Nat} {d : Dir}

/-- R46: the car moves as planned. -/
theorem Settings.probeReplan_of_planned (h : plan.direction = some d) :
    c.probeReplan plan claimed position (.observed d) = .proceed c.coastDraw none := if_pos h

/-- R47, first case: the car moves the other way, to a landing. -/
theorem Settings.probeReplan_of_candidate (h : plan.direction ≠ some d) {t : Target} (ht : c.candidate position d = some t) :
    c.probeReplan plan claimed position (.observed d) = .proceed c.coastDraw (some (d, t)) := by
  rw [probeReplan, if_neg h, ht]

/-- R47, the other cases: no landing lies where the car moves. -/
theorem Settings.probeReplan_of_no_candidate (h : plan.direction ≠ some d) (ht : c.candidate position d = none) :
    c.probeReplan plan claimed position (.observed d) =
      if plan.coversDrive c then .proceed claimed none else .replan := by
  rw [probeReplan, if_neg h, ht]

/-- R48: a balanced car. -/
theorem Settings.probeReplan_balanced :
    c.probeReplan plan claimed position .balanced =
      if c.balancedDraw ≤ claimed then .proceed c.balancedDraw (c.eitherCandidate position) else .replan := rfl

end

/-- Settles O26: the table row by row; the plans that cover the drive are those of its rows. -/
theorem probeReplanTable : Obligations.ProbeReplanTable := by
  intro c plan claimed position d
  dsimp only
  rw [← c.coastDraw_eq, ← c.balancedDraw_eq]
  refine ⟨Settings.probeReplan_of_planned, fun h t => Settings.probeReplan_of_candidate h, fun h ht => ?_, fun hb => ?_, fun hb => ?_⟩
  · rw [Settings.probeReplan_of_no_candidate h ht]
    refine ⟨fun hc => if_pos (Plan.coversDrive_iff.mpr hc), fun hn => if_neg fun hc => ?_⟩
    obtain hu | ⟨hb, hm⟩ := Plan.coversDrive_iff.mp hc
    · simp [hu] at hn
    · obtain hf | ⟨-, hl⟩ := hn
      · simp [hf] at hb
      · omega
  · rw [Settings.probeReplan_balanced, if_pos hb]
  · rw [Settings.probeReplan_balanced, if_neg (Nat.not_le.mpr hb)]

end Sys2Proof.Machine
end

section
/-! PROOF. The wait-seconds count (R33), and the key recomputed as its class changes (R45, R59, R87). -/

namespace Sys2Proof.Machine

-- Checked one after another: side by side, each waiting proof keeps a thread of its own.
set_option Elab.async false

section
variable {p : Part}

/-! ## An entry to BLOCKED, in service or not -/

theorem Part.changeState_rsq (new : RescueState) :
    (p.changeState new).rsq = { p.rsq.stopTimers with state := new, cancelCame := false } := by
  simp only [changeState, offerPresence_rsq, mapAnu_rsq, mapPcu_rsq, mapRsq_rsq]

theorem Part.enterBlocked_rsq (cause : Cause) : (p.enterBlocked cause).rsq = p.rsq.rested .blocked cause false true := by
  simp only [enterBlocked, requestPhrase_rsq, mapRsq_rsq, enterAtRest, changeState_rsq]
  rfl

/-- The solo rule on a draw beyond the allowance in WAIT (R57): the claim is dropped, and the line is the cause. -/
theorem Part.soloRule_of_beyond (hd : p.settings.soloAllowance < p.pcu.plan.draw) (hs : p.rsq.state = .wait) :
    p.soloRule.rsq = p.rsq.rested .blocked .line false true ∧ p.soloRule.adu.state = .none := by
  have hd : ¬ (p.mapFre (Fre.removeKind .claim)).pcu.plan.draw ≤ (p.mapFre (Fre.removeKind .claim)).settings.soloAllowance :=
    Nat.not_le.mpr hd
  have hs : ∀ a, ((p.mapFre (Fre.removeKind .claim)).mapAdu a).rsq.state = .wait := fun _ => hs
  simp only [soloRule, if_neg hd, lineBlocked, hs, if_true, enterBlocked_rsq, enterBlocked_adu]
  exact ⟨rfl, rfl⟩

/-! ## The deferral answer, taken anew (R87) -/

/-- The part whose view holds the deferral answer for the key as it stands. -/
def Part.answered (p : Part) : Part :=
  { p with pvw := { p.pvw with deferral := deferralAnswer p.pcu.plan.key p.pvw.records } }

theorem Part.reevaluateDeferral_eq (p : Part) :
    p.reevaluateDeferral =
      if p.pvw.deferral = true ∧ p.answered.pvw.deferral = false ∧ p.adu.state = .defer then p.answered.queueing true
      else p.answered := by
  have turned : ((p.pvw.deferral && !p.answered.pvw.deferral) = true ∧ p.adu.state = .defer)
      ↔ p.pvw.deferral = true ∧ p.answered.pvw.deferral = false ∧ p.adu.state = .defer := by
    rw [Bool.and_eq_true, Bool.not_eq_true', and_assoc]
  exact if_congr turned rfl rfl

theorem Part.reevaluateDeferral_of_not_defer (h : p.adu.state ≠ .defer) : p.reevaluateDeferral = p.answered := by
  rw [reevaluateDeferral_eq, if_neg fun ⟨_, _, hd⟩ => h hd]

/-- The queueing procedure where no peer keeps the claim back, on a line that is available (R53). -/
theorem Part.queueing_of_answer_no {key : Key} (hl : p.lineAvailable = true) (hk : p.pcu.plan.key = some key)
    (hd : deferralAnswer (some key) p.pvw.records = false) : p.queueing true = p.claimQueued key := by
  simp [queueing, hl, hk, hd, offerClaim, mapAdu, mapFre, claimQueued]

theorem Part.queueing_of_unavailable (asked : Bool) (hl : p.lineAvailable = false) : p.queueing asked = p.soloRule := by
  simp [queueing, hl]

/-- In DEFER an answer that turns from yes to no is a retry trigger. -/
theorem Part.reevaluateDeferral_answerTakenAs (h : p.adu.state = .defer) :
    p.reevaluateDeferral.answerTakenAs p.pvw.deferral p.answered := by
  have turned : p.pvw.deferral = true → p.answered.pvw.deferral = false →
      p.reevaluateDeferral = p.answered.queueing true := fun hw ha => by
    rw [reevaluateDeferral_eq, if_pos ⟨hw, ha, h⟩]
  refine ⟨fun hn => ?_, fun hw ha hl key hk => ?_, fun hw ha hl hd hs => ?_⟩
  · rw [reevaluateDeferral_eq, if_neg]
    rintro ⟨hw, ha, -⟩
    obtain hn | hn := hn
    · simp [hw] at hn
    · simp [ha] at hn
  · rw [turned hw ha]
    exact queueing_of_answer_no hl hk (by rw [← hk]; exact ha)
  · rw [turned hw ha, queueing_of_unavailable true hl]
    exact soloRule_of_beyond hd hs

/-! ## The key in place (R45, R59) -/

theorem Part.recomputeKey_of_idle (h : p.rsq.state ≠ .wait ∧ p.rsq.state ≠ .blocked ∨ p.pcu.plan.key = none) :
    p.recomputeKey = p := by
  refine if_neg fun ⟨hs, hk⟩ => ?_
  obtain ⟨hw, hb⟩ | h := h
  · cases hr : p.rsq.state <;> simp_all [RescueState.waiting]
  · simp [h] at hk

theorem Part.rekeyed_eq (hk : p.pcu.plan.key ≠ none) :
    p.rekeyed = (p.mapPcu fun c => { c with plan := p.rekeyedPlan }).answered := by
  obtain ⟨key, hk⟩ := Option.ne_none_iff_exists'.mp hk
  simp [rekeyed, answered, mapPcu, rekeyedPlan, hk]

/-- A key recomputed in WAIT or BLOCKED: ADU takes it by its state, then PVW. -/
theorem Part.recomputeKey_rekeysAs (hs : p.rsq.state = .wait ∨ p.rsq.state = .blocked) (hk : p.pcu.plan.key ≠ none) :
    p.recomputeKey.rekeysAs p := by
  have hg : p.rsq.state.waiting = true ∧ p.pcu.plan.key.isSome = true := by
    refine ⟨?_, Option.isSome_iff_ne_none.mpr hk⟩
    obtain hs | hs := hs <;> rw [hs] <;> rfl
  rintro _ rfl key hkey
  rw [rekeyed_eq hk] at hkey ⊢
  unfold recomputeKey
  rw [if_pos hg]
  generalize hr : (p.mapPcu fun c => { c with plan := p.rekeyedPlan }) = r at hkey ⊢
  have ha : r.adu = p.adu := hr ▸ rfl
  have hv : r.pvw = p.pvw := hr ▸ rfl
  have hkey : r.pcu.plan.key = some key := hkey
  simp only [ha]
  refine ⟨fun h => ?_, fun h => ?_, fun h => ?_, fun h => ?_⟩
  · simp only [h, offerClaim, hkey]
    exact reevaluateDeferral_of_not_defer (by simp [ha, h])
  · simp only [h]
    exact reevaluateDeferral_of_not_defer (by simp [ha, h])
  · simp only [h, ← hv]
    exact reevaluateDeferral_answerTakenAs (ha ▸ h)
  · have hd : r.adu.state ≠ .defer := by
      rw [ha]
      rintro hd
      simp [hd] at h
    cases hq : p.adu.state
    case queued | claiming => simp [hq] at h
    all_goals exact reevaluateDeferral_of_not_defer hd

/-! ## A second of waiting (R33) -/

/-- The part as one more second of waiting has been counted. -/
def Part.secondCounted (p : Part) : Part :=
  { p with pcu := { p.pcu with waitSeconds := min 65535 (p.pcu.waitSeconds + 1), waitTimer := .running 250000 } }

theorem Part.waitSecondPasses_eq (ht : p.pcu.waitTimer.isRunning = true) :
    p.waitSecondPasses =
      if min 7 (p.secondCounted.pcu.waitSeconds / 60) = min 7 (p.pcu.waitSeconds / 60) then p.secondCounted
      else p.secondCounted.recomputeKey := if_pos ht

end

/-- Settles O31: the second is counted, and a change of the wait class moves the key. -/
theorem waitSecondCounts : Obligations.WaitSecondCounts := by
  intro s hw he
  refine ⟨s.part.waitSecondPasses, ?_, ?_⟩
  · refine (State.runExpiry_of_stands (timer := (·.pcu.waitTimer)) (f := Part.waitSecondPasses) he.2).trans ?_
    rw [State.run_eq, Part.whenWorking_of_high _ _ hw]
  · rintro waited rfl
    refine ⟨fun h => ?_, fun hc hs hk => ?_⟩
    · rw [Part.waitSecondPasses_eq he.1]
      split
      next => rfl
      next hc => exact Part.recomputeKey_of_idle (p := s.part.secondCounted) (h.resolve_left hc)
    · rw [(Part.waitSecondPasses_eq he.1).trans (if_neg hc)]
      exact Part.recomputeKey_rekeysAs (p := s.part.secondCounted) hs hk

end Sys2Proof.Machine
end

section
/-! PROOF. The retry timer, the deferral limit timer and the line-stuck timer of ADU (R52, R54 to R57). -/

namespace Sys2Proof.Machine

-- Checked one after another: side by side, each waiting proof keeps a thread of its own.
set_option Elab.async false

section
variable {p : Part}

/-! ## The retry trigger and the queueing procedure, case by case (R53, R54, R55, R57) -/

theorem Part.retryTrigger_of_defer (h : p.adu.state = .defer) : p.retryTrigger = p.queueing true := by
  simp [retryTrigger, h]

theorem Part.retryTrigger_of_queued (h : p.adu.state = .queued) : p.retryTrigger = p.lineTest := by
  simp [retryTrigger, h]

/-- Where no claim waits a retry trigger has no effect. -/
theorem Part.retryTrigger_of_settled (h : p.adu.state ∉ [AdmissionState.defer, .queued]) : p.retryTrigger = p := by
  unfold retryTrigger
  split <;> simp_all

theorem Part.lineTest_of_available (h : p.lineAvailable = true) : p.lineTest = p := if_pos h

theorem Part.lineTest_of_unavailable (h : p.lineAvailable = false) : p.lineTest = p.soloRule := by simp [lineTest, h]

/-- A better-placed peer keeps a claim that is in DEFER there, and the deferral limit timer runs on (R54). -/
theorem Part.queueing_of_answer_yes {key : Key} (hs : p.adu.state = .defer) (hl : p.lineAvailable = true)
    (hk : p.pcu.plan.key = some key) (hd : deferralAnswer (some key) p.pvw.records = true) : p.queueing true = p := by
  simp [queueing, hl, hk, hd, mapAdu, Adu.enterDefer, hs]

/-- At the deferral limit no peer is asked (R54). -/
theorem Part.queueing_at_limit {key : Key} (hl : p.lineAvailable = true) (hk : p.pcu.plan.key = some key) :
    p.queueing false = p.claimQueued key := by
  simp [queueing, hl, hk, offerClaim, mapAdu, mapFre, claimQueued]

/-- A claim that waits finds the line unavailable at a retry trigger (R53, R57). -/
theorem Part.retryTrigger_of_unavailable (h : p.adu.state = .defer ∨ p.adu.state = .queued) (hl : p.lineAvailable = false) :
    p.retryTrigger = p.soloRule := by
  obtain h | h := h
  · rw [retryTrigger_of_defer h, queueing_of_unavailable true hl]
  · rw [retryTrigger_of_queued h, lineTest_of_unavailable hl]

theorem Part.retryExpires_eq (ht : p.adu.retryTimer.isRunning = true) :
    p.retryExpires = (p.mapAdu fun a => { a with retryTimer := .stopped }).retryTrigger := if_pos ht

theorem Part.deferralExpires_eq (hs : p.adu.state = .defer) (ht : p.adu.deferralTimer.isRunning = true) :
    p.deferralExpires = (p.mapAdu fun a => { a with deferralTimer := .stopped }).queueing false := if_pos ⟨hs, ht⟩

/-- Without the line the deferral limit comes to the solo rule, which stops the expired timer in any case (R54, R57, R71). -/
theorem Part.deferralExpires_soloRuledAs (hc : p.lpc.committed = true) (hw : p.rsq.state = .wait) (hs : p.adu.state = .defer)
    (ht : p.adu.deferralTimer.isRunning = true) (hl : p.lineAvailable = false) : p.deferralExpires.soloRuledAs p := by
  have hq := queueing_of_unavailable (p := p.mapAdu fun a => { a with deferralTimer := .stopped }) false hl
  rw [deferralExpires_eq hs ht, hq]
  exact soloRule_soloRuledAs (p := p.mapAdu fun a => { a with deferralTimer := .stopped }) hc hw

/-! ## The line-stuck timer (R52, R56) -/

/-- The line becomes unavailable by the timer's expiry exactly where LIF reports STUCK and no DUPLICATE is recorded. -/
theorem Part.stuckExpires_adu (ht : p.adu.stuckTimer.isRunning = true) :
    p.stuckExpires.adu = { p.adu with
      stuckTimer := .expired
      retryTimer := if p.lif.lineState = .stuck ∧ p.fre.duplicate = false ∧ p.adu.state = .queued then .running 1250000
        else p.adu.retryTimer } := by
  have hn : p.adu.stuckTimer.hasExpired = false := by
    cases h : p.adu.stuckTimer <;> simp_all [Timer.isRunning, Timer.hasExpired]
  have he : Timer.expired.hasExpired = true := rfl
  have hr : Config.retryTime = 1250000 := by decide
  have became : (p.lineAvailable = true ∧ (!(p.mapAdu fun a => { a with stuckTimer := .expired }).lineAvailable) = true)
      ↔ p.lif.lineState = .stuck ∧ p.fre.duplicate = false := by
    unfold lineAvailable
    cases hl : p.lif.lineState <;> simp [hl, hn, he]
  unfold stuckExpires lineBecameUnavailable
  simp only [ht, if_true, became]
  by_cases hb : p.lif.lineState = .stuck ∧ p.fre.duplicate = false
  · by_cases hq : p.adu.state = .queued <;> simp [hb, hq, mapAdu, hr]
  · have hb' : ¬ (p.lif.lineState = .stuck ∧ p.fre.duplicate = false ∧ p.adu.state = .queued) := fun ⟨a, b, _⟩ => hb ⟨a, b⟩
    simp [hb, hb', mapAdu]

/-- The expiry moves the admission record alone. -/
theorem Part.stuckExpires_sameOutside (p : Part) : p.stuckExpires.sameOutside [.adu] p := by
  unfold stuckExpires lineBecameUnavailable; dsimp only
  repeat' split
  all_goals simp [sameOutside]

/-- An expired line-stuck timer leaves a STUCK line unavailable (R52). -/
theorem Part.lineAvailable_of_stuck (hl : p.lif.lineState = .stuck) (ht : p.adu.stuckTimer = .expired) :
    p.lineAvailable = false := by
  simp [lineAvailable, hl, ht, Timer.hasExpired]

end

/-- Settles O32: the retry trigger by the admission state and the line, the deferral limit by the line, and the line-stuck timer. -/
theorem admissionAndLineTimersExpire : Obligations.AdmissionAndLineTimersExpire := by
  refine ⟨fun s hw hs key hk => ⟨fun he => ?_, fun he hd => ?_⟩, fun s hw he => ?_⟩
  · refine ⟨_, State.runExpiry_of_expires (timer := (·.adu.retryTimer)) Part.retryExpires hw he, fun p hp => ?_⟩
    have hs : p.rsq.state = .wait := by rw [hp]; exact hs
    have hk : p.pcu.plan.key = some key := by rw [hp]; exact hk
    have hc : p.lpc.committed = true := by rw [hp]; exact hw.2
    rw [show s.part.retryExpires = p.retryTrigger from hp ▸ Part.retryExpires_eq he.1]
    refine ⟨Part.retryTrigger_of_settled, fun h hl => ?_, fun h hl hy => ?_, fun h hl hn => ?_, fun h hl => ?_⟩
    · rw [Part.retryTrigger_of_queued h, Part.lineTest_of_available hl]
    · rw [Part.retryTrigger_of_defer h, Part.queueing_of_answer_yes h hl hk hy]
    · rw [Part.retryTrigger_of_defer h, Part.queueing_of_answer_no hl hk hn]; rfl
    · rw [Part.retryTrigger_of_unavailable h hl]
      exact Part.soloRule_soloRuledAs hc hs
  · refine ⟨_, State.runExpiry_of_expires (timer := (·.adu.deferralTimer)) Part.deferralExpires hw he, fun hl => ?_,
      Part.deferralExpires_soloRuledAs hw.2 hs hd he.1⟩
    rw [Part.deferralExpires_eq hd he.1]
    exact Part.queueing_at_limit (p := s.part.mapAdu _) hl hk
  · refine ⟨s.part.stuckExpires, ?_, Part.stuckExpires_adu he.1, fun hl => ?_, Part.stuckExpires_sameOutside _⟩
    · refine (State.runExpiry_of_stands (timer := (·.adu.stuckTimer)) (f := Part.stuckExpires) he.2).trans ?_
      rw [State.run_eq, Part.whenWorking_of_high _ _ hw]
    · refine Part.lineAvailable_of_stuck ?_ ?_
      · simpa using hl
      · rw [Part.stuckExpires_adu he.1]

end Sys2Proof.Machine
end

section
/-! PROOF. The admission state beside the rescue state (R50, R58, R69, R70): the withdrawn mark of a claim that waits to be sent. -/

namespace Sys2Proof.Machine

set_option Elab.async false

/-- A node in WAIT whose Claim waits for an idle line while the withdrawn mark stands. `admissionFits` does not exclude it: it
speaks of the mark in CLAIMING alone. -/
def markedQueued : Part :=
  { State.reset.part with
    rsq := { Rsq.reset with state := .wait }
    adu := { Adu.reset with state := .queued, withdrawn := true }
    fre := { Fre.reset with queue := [{ frame := .claim 0 1, attempts := 0 }] }
    lpc := { State.reset.part.lpc with committed := true } }

theorem markedQueued_fits : markedQueued.commitFits ∧ markedQueued.admissionFits := by
  unfold Part.commitFits Part.admissionFits; decide

/-- The line is idle, so the attempt at the Claim begins, and ADU enters CLAIMING with the mark as it stands (R58). -/
theorem markedQueued_startAttempt :
    markedQueued.startAttempt.adu.state = .claiming ∧ markedQueued.startAttempt.adu.withdrawn = true
      ∧ markedQueued.startAttempt.adu.pendingSeek = false ∧ markedQueued.startAttempt.rsq.state = .wait := by
  decide

/-- Refutes O58: with the withdrawn mark left in QUEUED, ATTEMPT_START answers a withdrawn Claim on the line in WAIT with no seek
pending. -/
theorem not_admissionFitsTheSequence : ¬ Obligations.AdmissionFitsTheSequence := by
  rintro ⟨-, keeps⟩
  obtain ⟨hc, ha⟩ := markedQueued_fits
  obtain ⟨hs, hw, hp, hr⟩ := markedQueued_startAttempt
  have ht : step { part := markedQueued, pending := [.attemptStart], announced := [] }
      = .next { part := markedQueued.startAttempt, pending := [], announced := [] } := rfl
  obtain ⟨-, -, -, seeking, -⟩ := keeps _ _ hc ha ht
  have := (seeking hs hw).mpr hr
  simp [hp] at this

end Sys2Proof.Machine
end

section
/-! PROOF. What the operations of RSQ, ADU, PCU and PVW leave of the frame engine's record: everything but the queue and the offer
held against the entry in flight (R91, R92). -/

namespace Sys2Proof.Machine

-- Checked one after another: side by side, each waiting proof keeps a thread of its own.
set_option Elab.async false

/-- FRE's record but for its queue and the entry in flight: the traffic in progress, the roll-call list and DUPLICATE. -/
def Fre.rest (r : Fre) : Fre := { r with queue := [], inFlight := none }

@[simp] theorem Fre.removeKind_rest (k : FrameKind) (r : Fre) : (r.removeKind k).rest = r.rest := by
  unfold removeKind; split <;> rfl
@[simp] theorem Fre.put_rest (f : Frame) (r : Fre) : (r.put f).rest = r.rest := by unfold put; split <;> rfl
@[simp] theorem Fre.offer_rest (f : Frame) (r : Fre) : (r.offer f).rest = r.rest := by unfold offer; split <;> simp

@[simp] theorem Fre.cleanAttempt_rest (r : Fre) : r.cleanAttempt.rest = r.rest := by unfold cleanAttempt; split <;> rfl

/-! ## The parts of a record that stand with its rest -/

section
variable {a b : Fre}

theorem Fre.phase_of_rest (h : a.rest = b.rest) : a.phase = b.phase := congrArg (·.phase) h
theorem Fre.list_of_rest (h : a.rest = b.rest) : a.list = b.list := congrArg (·.list) h
theorem Fre.duplicate_of_rest (h : a.rest = b.rest) : a.duplicate = b.duplicate := congrArg (·.duplicate) h

end

/-! ## RSQ and ADU -/

section
variable (p : Part)

@[simp] theorem Part.offerPresence_rest : p.offerPresence.fre.rest = p.fre.rest := by unfold offerPresence; split <;> simp
@[simp] theorem Part.offerClaim_rest : p.offerClaim.fre.rest = p.fre.rest := by unfold offerClaim; split <;> simp
@[simp] theorem Part.changeState_rest (new : RescueState) : (p.changeState new).fre.rest = p.fre.rest := by simp [changeState]
@[simp] theorem Part.enterAtRest_rest (new : RescueState) : (p.enterAtRest new).fre.rest = p.fre.rest := by simp [enterAtRest]
@[simp] theorem Part.requestPhrase_rest (ev : Announcement) : (p.requestPhrase ev).fre.rest = p.fre.rest := rfl
@[simp] theorem Part.enterVerify_rest : p.enterVerify.fre.rest = p.fre.rest := by simp [enterVerify]
@[simp] theorem Part.enterWatch_rest : p.enterWatch.fre.rest = p.fre.rest := by unfold enterWatch; dsimp only; split <;> simp
@[simp] theorem Part.enterProbe_rest : p.enterProbe.fre.rest = p.fre.rest := by simp [enterProbe]
@[simp] theorem Part.enterBlocked_rest (cause : Cause) : (p.enterBlocked cause).fre.rest = p.fre.rest := by simp [enterBlocked]
@[simp] theorem Part.ended_rest (o : ReleaseOutcome) : (p.ended o).fre.rest = p.fre.rest := by
  unfold ended; dsimp only; repeat' split
  all_goals simp
@[simp] theorem Part.enterLanded_rest : p.enterLanded.fre.rest = p.fre.rest := by
  unfold enterLanded; dsimp only; split <;> simp
@[simp] theorem Part.enterDoors_rest : p.enterDoors.fre.rest = p.fre.rest := by
  unfold enterDoors; dsimp only; split <;> simp
@[simp] theorem Part.takeMoving_rest (r : Option MovingReport) : (p.takeMoving r).fre.rest = p.fre.rest := by
  unfold takeMoving movingReport; dsimp only; repeat' split
  all_goals simp
@[simp] theorem Part.enterWarn_rest : p.enterWarn.fre.rest = p.fre.rest := by simp [enterWarn]
@[simp] theorem Part.withdraw_rest : p.withdraw.fre.rest = p.fre.rest := by unfold withdraw; split <;> simp
@[simp] theorem Part.admitted_rest : p.admitted.fre.rest = p.fre.rest := by
  unfold admitted; repeat' split
  all_goals simp
@[simp] theorem Part.lineBlocked_rest : p.lineBlocked.fre.rest = p.fre.rest := by unfold lineBlocked; split <;> simp
@[simp] theorem Part.soloRule_rest : p.soloRule.fre.rest = p.fre.rest := by unfold soloRule; dsimp only; split <;> simp
@[simp] theorem Part.queueing_rest (asked : Bool) : (p.queueing asked).fre.rest = p.fre.rest := by
  unfold queueing; repeat' split
  all_goals simp
@[simp] theorem Part.seek_rest : p.seek.fre.rest = p.fre.rest := by
  unfold seek; repeat' split
  all_goals simp
@[simp] theorem Part.enterWait_rest (confirm : Bool) : (p.enterWait confirm).fre.rest = p.fre.rest := by
  unfold enterWait; dsimp only; split <;> simp
@[simp] theorem Part.withdrawToBlocked_rest (cause : Cause) : (p.withdrawToBlocked cause).fre.rest = p.fre.rest := by
  simp [withdrawToBlocked]

/-! ## PCU and PVW -/

@[simp] theorem Part.reevaluateDeferral_rest : p.reevaluateDeferral.fre.rest = p.fre.rest := by
  unfold reevaluateDeferral; dsimp only; split <;> simp
@[simp] theorem Part.requestPlan_rest : p.requestPlan.fre.rest = p.fre.rest := by simp [requestPlan]
@[simp] theorem Part.replanBlocked_rest : p.replanBlocked.fre.rest = p.fre.rest := by
  unfold replanBlocked; dsimp only; split <;> simp
@[simp] theorem Part.recomputeKey_rest : p.recomputeKey.fre.rest = p.fre.rest := by
  unfold recomputeKey; dsimp only; repeat' split
  all_goals simp
@[simp] theorem Part.limitChanged_rest : p.limitChanged.fre.rest = p.fre.rest := by
  unfold limitChanged clears; dsimp only; repeat' split
  all_goals simp
@[simp] theorem Part.recomputeLimit_rest : p.recomputeLimit.fre.rest = p.fre.rest := by
  unfold recomputeLimit; dsimp only; split <;> simp
@[simp] theorem Part.updateRecord_rest (n : Node) (f : PeerRecord → PeerRecord) (always : Bool) :
    (p.updateRecord n f always).fre.rest = p.fre.rest := by
  unfold updateRecord; dsimp only; split <;> simp
@[simp] theorem Part.setLastReleased_rest (n : Node) : (p.setLastReleased n).fre.rest = p.fre.rest := by
  unfold setLastReleased; split <;> simp
@[simp] theorem Part.peerFrame_rest (f : Frame) : (p.peerFrame f).fre.rest = p.fre.rest := by
  unfold peerFrame; repeat' split
  all_goals simp
@[simp] theorem Part.cleanWindow_rest (list : List (Node × Nat)) : (p.cleanWindow list).fre.rest = p.fre.rest := by
  unfold cleanWindow; dsimp only; repeat' split
  all_goals simp

end

end Sys2Proof.Machine
end

section
/-! PROOF. The limits of an admission (R62, R71) under the operations of RSQ, ADU, PCU and PVW: a grant is within S_eff over the line,
or within the solo allowance without it, and stands so to the end of the event that brought it. -/

namespace Sys2Proof.Machine

-- Checked one after another: side by side, each waiting proof keeps a thread of its own.
set_option Elab.async false

/-! ## A grant within its limit -/

/-- What an admission made since the step began has to meet (R62, R71). Where `line` is not set none has been made over the line. -/
structure Part.Within (line : Bool) (p : Part) : Prop where
  overLine : p.adu.state = .holder → line = true ∧ p.adu.heldDraw = p.adu.admittedDraw
    ∧ p.adu.admittedDraw + (p.fre.list.map (·.2)).sum ≤ p.pvw.sEff.getD 0
  solo     : p.adu.state = .solo → p.adu.heldDraw = p.adu.admittedDraw ∧ p.adu.admittedDraw ≤ p.settings.soloAllowance
    ∧ p.lineAvailable = false

section
variable {line : Bool} {p q : Part}

theorem Adu.states_of_not_isHolder {a : Adu} (h : a.isHolder = false) : a.state ≠ .holder ∧ a.state ≠ .solo := by
  simpa [isHolder] using h

/-- A node that holds nothing is within every limit. -/
theorem Part.Within.of_bare (h : p.adu.isHolder = false) : p.Within line := by
  obtain ⟨hh, hs⟩ := Adu.states_of_not_isHolder h
  exact ⟨fun e => absurd e hh, fun e => absurd e hs⟩

/-- Only a grant over the line makes a holder. -/
theorem Part.Within.not_holder (h : p.Within false) : p.adu.state ≠ .holder := fun e => by simpa using (h.overLine e).1

theorem Part.Within.mono (h : p.Within false) (line : Bool) : p.Within line :=
  ⟨fun e => absurd e h.not_holder, h.solo⟩

/-- The limits read the holding, S_eff, the roll-call list, the line as ADU takes it, and the image. -/
theorem Part.Within.transfer (h : p.Within line)
    (holding : q.adu.state = p.adu.state ∧ q.adu.heldDraw = p.adu.heldDraw ∧ q.adu.admittedDraw = p.adu.admittedDraw)
    (view : p.adu.state = .holder → q.pvw.sEff = p.pvw.sEff) (list : q.fre.list = p.fre.list)
    (wire : p.adu.state = .solo → p.lineAvailable = false → q.lineAvailable = false) (port : q.lpc.image = p.lpc.image) :
    q.Within line := by
  obtain ⟨hs, hh, ha⟩ := holding
  refine ⟨fun e => ?_, fun e => ?_⟩
  · rw [hs] at e
    rw [hh, ha, view e, list]
    exact h.overLine e
  · rw [hs] at e
    obtain ⟨h1, h2, h3⟩ := h.solo e
    rw [hh, ha]
    exact ⟨h1, by simpa [settings, port] using h2, wire e h3⟩

theorem Part.lineAvailable_congr (hl : q.lif.lineState = p.lif.lineState) (ht : q.adu.stuckTimer = p.adu.stuckTimer)
    (hd : q.fre.duplicate = p.fre.duplicate) : q.lineAvailable = p.lineAvailable := by
  simp [lineAvailable, hl, ht, hd]

/-- An operation that grants nothing, moves neither S_eff nor the line state, and of FRE at most the queue. -/
theorem Part.Within.congr (h : p.Within line) (ha : q.adu = p.adu := by simp) (hv : q.pvw.sEff = p.pvw.sEff := by simp)
    (hr : q.fre.rest = p.fre.rest := by simp) (hl : q.lif = p.lif := by simp) (hp : q.lpc = p.lpc := by simp) :
    q.Within line :=
  h.transfer (by simp [ha]) (fun _ => hv) (Fre.list_of_rest hr)
    (fun _ hn => (lineAvailable_congr (by rw [hl]) (by rw [ha]) (Fre.duplicate_of_rest hr)).trans hn) (by rw [hp])

/-- An update of ADU's marks, or of a timer that the line does not depend on. -/
theorem Part.Within.mapAdu_same (h : p.Within line) (f : Adu → Adu) (hs : (f p.adu).state = p.adu.state := by rfl)
    (hh : (f p.adu).heldDraw = p.adu.heldDraw := by rfl) (ha : (f p.adu).admittedDraw = p.adu.admittedDraw := by rfl)
    (ht : (f p.adu).stuckTimer = p.adu.stuckTimer := by rfl) : (p.mapAdu f).Within line :=
  h.transfer (q := p.mapAdu f) ⟨hs, hh, ha⟩ (fun _ => rfl) rfl
    (fun _ hn => (lineAvailable_congr (p := p) (q := p.mapAdu f) rfl ht rfl).trans hn) rfl

/-- Before an admission over the line the view is free to move (R85). -/
theorem Part.Within.mapPvw (h : p.Within false) (f : Pvw → Pvw) : (p.mapPvw f).Within false :=
  h.transfer (q := p.mapPvw f) ⟨rfl, rfl, rfl⟩ (fun e => absurd e h.not_holder) rfl (fun _ => id) rfl

/-- An update of FRE that leaves the roll-call list and DUPLICATE. -/
theorem Part.Within.mapFre_same (h : p.Within line) (f : Fre → Fre) (hl : (f p.fre).list = p.fre.list := by rfl)
    (hd : (f p.fre).duplicate = p.fre.duplicate := by rfl) : (p.mapFre f).Within line :=
  h.transfer (q := p.mapFre f) ⟨rfl, rfl, rfl⟩ (fun _ => rfl) hl
    (fun _ hn => (lineAvailable_congr (p := p) (q := p.mapFre f) rfl rfl hd).trans hn) rfl

/-- An update of LIF that leaves the line state. -/
theorem Part.Within.mapLif_same (h : p.Within line) (f : Lif → Lif) (hl : (f p.lif).lineState = p.lif.lineState := by rfl) :
    (p.mapLif f).Within line :=
  h.transfer (q := p.mapLif f) ⟨rfl, rfl, rfl⟩ (fun _ => rfl) rfl
    (fun _ hn => (lineAvailable_congr (p := p) (q := p.mapLif f) hl rfl rfl).trans hn) rfl

/-! ## Operations that leave nothing held -/

@[simp] theorem Part.ended_bare (o : ReleaseOutcome) (p : Part) : (p.ended o).adu.isHolder = false := by simp [ended_eq]

theorem Part.neededDraw_of_bare (needed : Nat) (h : p.adu.isHolder = false) : p.neededDraw needed = p := by
  simp [neededDraw, h]

@[simp] theorem Part.enterLanded_bare (p : Part) : p.enterLanded.adu.isHolder = false := by
  unfold enterLanded; dsimp only; split <;> simp

@[simp] theorem Part.enterHalted_bare (cause : Cause) (p : Part) : (p.enterHalted cause).adu.isHolder = false := by
  simp [enterHalted]

@[simp] theorem Part.withdraw_bare (p : Part) : p.withdraw.adu.isHolder = false := by
  unfold withdraw; split
  case h_5 | h_6 => exact ended_bare ..
  all_goals simp_all [Adu.isHolder]

@[simp] theorem Part.withdrawToBlocked_bare (cause : Cause) (p : Part) :
    (p.withdrawToBlocked cause).adu.isHolder = false := by simp [withdrawToBlocked]

theorem Part.enterLevel_of_bare (h : p.adu.isHolder = false) : p.enterLevel.adu = p.adu := by
  unfold enterLevel
  rw [neededDraw_of_bare _ (by simpa using h)]
  simp

theorem Part.endCreep_bare (h : p.adu.isHolder = false) (e : CreepEnd) : (p.endCreep e).adu.isHolder = false := by
  cases e with
  | arrival => exact (congrArg Adu.isHolder (enterLevel_of_bare h)).trans h
  | failure cause => exact enterHalted_bare cause p

/-! ## The admission of a claim -/

theorem Part.Within.enterDoors (h : p.Within line) : p.enterDoors.Within line := by
  unfold Part.enterDoors; dsimp only; split
  · exact .of_bare (enterLanded_bare _)
  · exact h.congr

theorem Part.Within.admitted (h : p.Within line) : p.admitted.Within line := by
  unfold Part.admitted
  repeat' split
  · exact h.enterDoors
  · exact h.congr
  · exact h

/-- The solo rule grants a draw within the allowance, without the line (R71). -/
theorem Part.soloRule_within (hl : p.lineAvailable = false) : p.soloRule.Within line := by
  unfold soloRule; dsimp only; split
  next hu =>
    refine Part.Within.admitted ⟨fun e => ?_, fun _ => ⟨rfl, hu, ?_⟩⟩
    · simp [Adu.grant] at e
    · rw [lineAvailable_congr (p := p) (by rfl) (by rfl) (Fre.duplicate_of_rest (Fre.removeKind_rest .claim p.fre)), hl]
  next => exact .of_bare (by simp [Adu.isHolder])

theorem Part.queueing_within (asked : Bool) (p : Part) : (p.queueing asked).Within line := by
  have deferred : ∀ a : Adu, a.enterDefer.isHolder = false := by
    intro a; unfold Adu.enterDefer; split <;> simp_all [Adu.isHolder]
  unfold queueing
  split
  next hl => exact soloRule_within (by simpa using hl)
  next =>
    split
    · exact .of_bare (deferred p.adu)
    · exact .of_bare rfl

theorem Part.Within.seek (h : p.Within line) : p.seek.Within line := by
  unfold Part.seek
  split
  · exact queueing_within ..
  · split
    · exact h.mapAdu_same _
    · exact h
  all_goals exact h

theorem Part.Within.retryTrigger (h : p.Within line) : p.retryTrigger.Within line := by
  unfold Part.retryTrigger
  split
  · exact queueing_within ..
  · unfold Part.lineTest
    split
    next => exact h
    next hl => exact soloRule_within (by simpa using hl)
  all_goals exact h

/-! ## PCU's plan and key -/

theorem Part.Within.reevaluateDeferral (h : p.Within line) : p.reevaluateDeferral.Within line := by
  unfold Part.reevaluateDeferral; dsimp only; split
  · exact queueing_within ..
  · exact h.congr

theorem Part.Within.requestPlan (h : p.Within line) : p.requestPlan.Within line :=
  Part.Within.reevaluateDeferral h.congr

theorem Part.Within.recomputeKey (h : p.Within line) : p.recomputeKey.Within line := by
  have hk : (p.mapPcu fun c => { c with plan := p.rekeyedPlan }).Within line := h.congr
  unfold Part.recomputeKey
  split
  · refine Part.Within.reevaluateDeferral ?_
    split
    · exact hk.congr
    · exact hk.mapAdu_same _
    all_goals exact hk
  · exact h

/-! ## WAIT and BLOCKED -/

theorem Part.Within.enterWait (h : p.Within line) (confirm : Bool) : (p.enterWait confirm).Within line := by
  unfold Part.enterWait; dsimp only
  refine Part.Within.seek ?_
  split <;> exact h.congr

theorem Part.Within.replanBlocked (h : p.Within line) : p.replanBlocked.Within line := by
  unfold Part.replanBlocked; dsimp only; split
  · exact h.requestPlan.congr
  · exact h.requestPlan.enterWait _

theorem Part.Within.clears (h : p.Within line) (causes : List Cause) : (p.clears causes).Within line := by
  unfold Part.clears
  split
  · exact h.replanBlocked
  · exact h

theorem Part.Within.validChanged (h : p.Within line) (valid : Bool) : (p.validChanged valid).Within line := by
  unfold Part.validChanged
  split
  · exact .of_bare (withdrawToBlocked_bare ..)
  · exact h.clears _

theorem Part.Within.cancelHolds (h : p.Within line) : p.cancelHolds.Within line := by
  unfold Part.cancelHolds
  split
  · exact h.congr
  · exact h.congr
  · exact h.congr
  · exact h.congr
  · exact .of_bare (by simp)
  · exact .of_bare (by simp)
  all_goals exact h

theorem Part.Within.decideCase (h : p.Within line) : p.decideCase.Within line := by
  have hz : (p.mapPcu fun c => { c with waitSeconds := 0 }).Within line := h.congr
  unfold Part.decideCase
  split
  · exact h.congr (hr := enterAtRest_rest ..)
  · dsimp only; split
    · exact hz.congr
    · split
      · exact hz.requestPlan.congr
      · exact hz.requestPlan.enterWait _

/-- A REPLAN begins with the end of the holding (R22). -/
theorem Part.replan_within (p : Part) : p.replan.Within line := by
  have hw : (((p.ended .replan).mapPcu fun c => { c with loadOverride := true }).enterAtRest .wait).Within line :=
    .of_bare (by simp)
  unfold replan; dsimp only; split
  · exact hw.congr
  · split
    · exact hw.requestPlan.congr
    · exact hw.requestPlan.seek

theorem Part.raceEnds_within (h : p.adu.isHolder = false) (outcome : ProbeOutcome) : (p.raceEnds outcome).Within line := by
  rw [raceEnds_eq]
  split
  · rw [neededDraw_of_bare _ (by simpa using h)]
    exact .of_bare (by simpa using h)
  · exact replan_within p

/-! ## The view -/

theorem Part.Within.limitChanged (h : p.Within line) : p.limitChanged.Within line := by
  unfold Part.limitChanged
  split
  · split
    · have hb : ((p.mapPcu fun c => { c with plan := { c.plan with blockCause := .infeasible } }).withdrawToBlocked
          .infeasible).choose.2.Within line := .of_bare (by simp)
      dsimp only; split
      · exact hb
      · exact hb.replanBlocked
    · exact h
  · exact h.clears _

theorem Part.Within.recomputeLimit (h : p.Within false) : p.recomputeLimit.Within false := by
  unfold Part.recomputeLimit; dsimp only; split
  · exact (h.mapPvw _).limitChanged
  · exact h.mapPvw _

theorem Part.Within.updateRecord (h : p.Within false) (n : Node) (f : PeerRecord → PeerRecord) (always : Bool) :
    (p.updateRecord n f always).Within false := by
  unfold Part.updateRecord; dsimp only; split
  · exact (h.mapPvw _).recomputeLimit
  · exact h.mapPvw _

theorem Part.Within.setLastReleased (h : p.Within line) (n : Node) : (p.setLastReleased n).Within line := by
  unfold Part.setLastReleased
  split
  · exact h
  · exact Part.Within.recomputeKey h.congr

theorem Part.Within.peerFrame (h : p.Within false) (f : Frame) : (p.peerFrame f).Within false := by
  unfold Part.peerFrame
  split
  · split
    · exact (h.updateRecord ..).reevaluateDeferral
    · exact ((h.mapPvw _).updateRecord ..).reevaluateDeferral
    · exact (h.updateRecord ..).reevaluateDeferral
    · exact ((h.updateRecord ..).setLastReleased _).reevaluateDeferral
  · exact h

theorem Part.Within.peerFrameHeard (h : p.Within false) (f : Frame) : (p.peerFrameHeard f).Within false := by
  have each : ∀ (first : Bool) (p : Part), p.Within false →
      (if first then p.peerFrame f else p.retryTrigger).Within false := by
    intro first p h
    cases first
    · exact h.retryTrigger
    · exact h.peerFrame f
  unfold Part.peerFrameHeard
  split
  · split
    · exact takeUnordered_keeps each (fun _ h => h.congr) _ h
    · exact (h.peerFrame f).retryTrigger
  · split
    · exact takeUnordered_keeps each (fun _ h => h.congr) _ h
    · exact (h.peerFrame f).retryTrigger
  · exact h.peerFrame f
  · exact h.peerFrame f

theorem Part.Within.cleanWindow (h : p.Within false) (list : List (Node × Nat)) : (p.cleanWindow list).Within false := by
  unfold Part.cleanWindow; dsimp only
  split
  · refine Part.Within.reevaluateDeferral (Part.Within.mapPvw ?_ _)
    have judged : ∀ r : Part, r.Within false →
        (match r.pvw.claim with
          | some (n, u) =>
            if r.claimFits u list then r.mapPvw fun v => { v with records := upsert n (.inferHolder u) v.records } else r
          | none => r).Within false := by
      intro r hr
      split
      · split
        · exact hr.mapPvw _
        · exact hr
      · exact hr
    refine judged _ ?_
    split
    · exact (h.mapPvw _).recomputeLimit
    · exact h.mapPvw _
  · exact h

theorem Part.Within.recordReachesStale (h : p.Within false) (n : Node) : (p.recordReachesStale n).Within false := by
  unfold Part.recordReachesStale
  repeat' split
  · exact ((h.mapPvw _).recomputeLimit).reevaluateDeferral
  all_goals exact h

theorem Part.Within.recordReachesRemoval (h : p.Within line) (n : Node) : (p.recordReachesRemoval n).Within line := by
  unfold Part.recordReachesRemoval
  repeat' split
  · exact Part.Within.reevaluateDeferral h.congr
  all_goals exact h

/-! ## Claim reports -/

theorem Part.requeue_bare (p : Part) : p.requeue.adu.isHolder = false := by
  unfold requeue; dsimp only; repeat' split
  all_goals simp [Adu.isHolder]

theorem Part.deferAndRetry_bare (p : Part) : p.deferAndRetry.adu.isHolder = false := by
  simp only [deferAndRetry, mapAdu_adu, Adu.enterDefer]
  split <;> simp_all [Adu.isHolder]

theorem Part.settleWithdrawn_bare (report : ClaimReport) (p : Part) :
    (p.settleWithdrawn report).adu.isHolder = false := by simp [Adu.isHolder, settleWithdrawn_state]

/-- A report that a window has ended clean carries the list as it stands; the claim that fits is granted within S_eff (R62). -/
theorem Part.Within.claimReport (h : p.Within line) (report : ClaimReport)
    (hc : ∀ draw list, report = .clean draw list → line = true ∧ list = p.fre.list) :
    (p.claimReport report).Within line := by
  unfold Part.claimReport
  split
  · split
    · dsimp only; split
      · exact queueing_within ..
      · exact .of_bare (settleWithdrawn_bare ..)
    · cases report with
      | lost | spoiled => exact .of_bare (requeue_bare p)
      | dropped => exact .of_bare (deferAndRetry_bare _)
      | clean draw list =>
        obtain ⟨rfl, rfl⟩ := hc draw list rfl
        dsimp only; split
        next hf =>
          refine Part.Within.admitted ⟨fun _ => ⟨rfl, rfl, ?_⟩, fun e => ?_⟩
          · have hs : draw + rollCallSum p.fre.list ≤ p.pvw.sEff.getD 0 := of_decide_eq_true hf
            simpa [Adu.grant, rollCallSum] using hs
          · simp [Adu.grant] at e
        next => exact .of_bare (deferAndRetry_bare _)
  · exact h

theorem Part.Within.giveReport (h : p.Within line) (report : Option PendingReport) : (p.giveReport report).Within line := by
  unfold Part.giveReport
  split
  · exact h.claimReport _ (by simp)
  · exact h.claimReport _ (by simp)
  · exact h.claimReport _ (by simp)
  · exact h

end

end Sys2Proof.Machine
end

section
/-! PROOF. The limits of an admission under the events of the line (R62, R71, R99, R104): a valid CLAIM of a peer, and the frame end. -/

namespace Sys2Proof.Machine

-- Checked one after another: side by side, each waiting proof keeps a thread of its own.
set_option Elab.async false

section
variable {line : Bool} {p q : Part}

/-! ## Events that bear on ADU's timers alone -/

@[simp] theorem Part.lineBecameUnavailable_isHolder (p : Part) : p.lineBecameUnavailable.adu.isHolder = p.adu.isHolder := by
  unfold lineBecameUnavailable; split <;> rfl

@[simp] theorem Part.recordDuplicate_isHolder (p : Part) : p.recordDuplicate.adu.isHolder = p.adu.isHolder := by
  unfold recordDuplicate; dsimp only; split <;> simp

@[simp] theorem Part.duplicateFrame_isHolder (p : Part) : p.duplicateFrame.adu.isHolder = p.adu.isHolder := by
  simp [duplicateFrame]

@[simp] theorem Part.duplicateResponse_isHolder (p : Part) : p.duplicateResponse.adu.isHolder = p.adu.isHolder := by
  simp [duplicateResponse]

@[simp] theorem Part.takeResponse_isHolder (sent : Bool) (p : Part) : (p.takeResponse sent).adu.isHolder = p.adu.isHolder := by
  unfold takeResponse; dsimp only; repeat' split
  all_goals simp

@[simp] theorem Part.stuckReached_isHolder (p : Part) : p.stuckReached.adu.isHolder = p.adu.isHolder := by
  unfold stuckReached; dsimp only; split
  · simp only [mapAdu_adu, mapLif_adu, heldReached_adu]; rfl
  · simp

@[simp] theorem Part.stuckExpires_isHolder (p : Part) : p.stuckExpires.adu.isHolder = p.adu.isHolder := by
  have expired : (p.mapAdu fun a => { a with stuckTimer := .expired }).adu.isHolder = p.adu.isHolder := rfl
  unfold stuckExpires; dsimp only; repeat' split
  · rw [lineBecameUnavailable_isHolder, expired]
  · exact expired
  · rfl

@[simp] theorem Adu.enterClaiming_isHolder (a : Adu) : a.enterClaiming.isHolder = a.isHolder := by
  unfold enterClaiming; split
  next h => simp only [isHolder, h]; rfl
  next => rfl

@[simp] theorem Part.startAttempt_isHolder (p : Part) : p.startAttempt.adu.isHolder = p.adu.isHolder := by
  unfold startAttempt; dsimp only; repeat' split
  all_goals simp

@[simp] theorem Part.echoRunReached_isHolder (p : Part) : p.echoRunReached.adu.isHolder = p.adu.isHolder := by
  unfold echoRunReached; dsimp only; repeat' split
  all_goals simp

@[simp] theorem Part.failEcho_isHolder (p : Part) : p.failEcho.adu.isHolder = p.adu.isHolder := by
  unfold failEcho; dsimp only; repeat' split
  all_goals simp

@[simp] theorem Part.loseArbitration_isHolder (p : Part) : p.loseArbitration.adu.isHolder = p.adu.isHolder := by
  unfold loseArbitration; dsimp only; repeat' split
  all_goals simp

/-! ## A data end: a peer's CLAIM opens its window (R99) -/

/-- What may be granted at a data end: not over the line; and where anything is, a window stands open on a line that is not STUCK. -/
structure Part.DataEnded (p : Part) : Prop where
  within : p.Within false
  window : p.adu.isHolder = true → p.fre.phase = .window ∧ p.lif.lineState ≠ .stuck

theorem Part.DataEnded.of_bare (h : p.adu.isHolder = false) : p.DataEnded := ⟨.of_bare h, by simp [h]⟩

theorem Part.openWindow_dataEnded (h : p.adu.isHolder = false) (hl : p.lif.silent = false) (f : Frame) (draw : Nat) :
    (p.openWindow f draw).DataEnded := by
  unfold openWindow; dsimp only; split
  · exact .of_bare h
  · refine ⟨Part.Within.peerFrame (.of_bare (by exact h)) f, fun _ => ⟨?_, ?_⟩⟩
    · exact Fre.phase_of_rest (peerFrame_rest ..)
    · rw [peerFrame_lif]
      intro hs
      have hs : p.lif.lineState = .stuck := hs
      simp [Lif.silent, hs] at hl

theorem Part.testReceived_dataEnded (h : p.adu.isHolder = false) (hl : p.lif.silent = false) : p.testReceived.DataEnded := by
  unfold testReceived
  split
  · exact .of_bare (by simpa using h)
  · exact .of_bare (by simpa using h)
  · exact .of_bare (by simpa using h)
  · split
    · exact .of_bare (by simpa using h)
    · unfold acceptFrame
      split
      · exact openWindow_dataEnded h hl _ _
      all_goals exact .of_bare h

theorem Part.boundary_dataEnded (h : p.adu.isHolder = false) (hl : p.lif.silent = false) (sent : Bool) :
    (p.boundary sent).DataEnded := by
  unfold boundary
  split
  · split
    · exact .of_bare h
    · exact testReceived_dataEnded h hl
  · repeat' split
    all_goals exact .of_bare (by simpa using h)
  all_goals exact .of_bare h

theorem Part.dataEndReached_dataEnded (h : p.adu.isHolder = false) : p.dataEndReached.DataEnded := by
  unfold dataEndReached; dsimp only
  repeat' split
  · exact .of_bare h
  next hl => exact boundary_dataEnded (p := p.mapLif _) h (Bool.eq_false_of_not_eq_true hl) _
  · exact .of_bare h

/-! ## The edge after a data end (R101, R111, R115) -/

theorem Fre.errorAttempt_keeps (r : Fre) : r.errorAttempt.list = r.list ∧ r.errorAttempt.duplicate = r.duplicate := by
  rw [errorAttempt_eq]; exact ⟨rfl, rfl⟩

/-- The traffic in progress is given up: the list, DUPLICATE and the line state stand (R100). -/
theorem Part.Within.abandon (h : p.Within line) (k : Option ErrorKind) (mark : Bool) : (p.abandon k mark).Within line := by
  have hk : (p.mapFre (Fre.countError k)).Within line := by cases k <;> exact h.mapFre_same _
  unfold Part.abandon; dsimp only
  refine Part.Within.mapFre_same (Part.Within.mapLif_same ?_ _) _
  split
  · obtain ⟨hl, hd⟩ := Fre.errorAttempt_keeps (p.mapFre (Fre.countError k)).fre
    exact (hk.mapFre_same _ hl hd).mapLif_same _
  · exact hk

theorem Part.Within.judgeEdge (h : p.Within line) (length : Nat) : (p.judgeEdge length).Within line := by
  unfold Part.judgeEdge
  repeat' split
  · exact h.mapFre_same _
  · exact h.abandon _ _
  · exact h.abandon _ _
  all_goals exact h

/-- A line that is LOST or STUCK does not become otherwise by an edge (R115). -/
theorem Part.lineTurnsDriven_lineAvailable (p : Part) : p.lineTurnsDriven.lineAvailable = p.lineAvailable := by
  have lost := p.lineTurnsDriven_lineState (x := .lost) (by simp) (by simp)
  have stuck := p.lineTurnsDriven_lineState (x := .stuck) (by simp) (by simp)
  simp only [lineAvailable, lineTurnsDriven_adu, lineTurnsDriven_fre, bne, Bool.beq_eq_decide_eq, lost, stuck]

theorem Part.Within.lineTurnsDriven (h : p.Within line) : p.lineTurnsDriven.Within line :=
  h.transfer (by simp) (fun _ => by simp) (by simp) (fun _ hn => p.lineTurnsDriven_lineAvailable.trans hn) (by simp)

theorem Part.edgeAfter_within (h : p.adu.isHolder = false) (length : Nat) : (p.edgeAfter length).Within line := by
  have hd := ((dataEndReached_dataEnded h).within.mono line).lineTurnsDriven
  unfold edgeAfter; dsimp only
  repeat' split
  · exact hd
  · exact hd.judgeEdge _
  · exact .of_bare h

/-! ## The frame end (R99, R104, R111, R118) -/

/-- The part as LIF has ended the traffic: as at the data end, on a line that is not STUCK. -/
theorem Part.DataEnded.atFrameEnd (h : p.DataEnded) : (p.mapLif Lif.atFrameEnd).Within false := by
  refine h.within.transfer (q := p.mapLif Lif.atFrameEnd) ⟨rfl, rfl, rfl⟩ (fun _ => rfl) rfl (fun hs hn => ?_) rfl
  obtain ⟨-, hl⟩ := h.window (by simp [Adu.isHolder, hs])
  simp only [lineAvailable, mapLif_lif, mapLif_adu, mapLif_fre, Lif.atFrameEnd] at hn ⊢
  by_cases hlost : p.lif.lineState = .lost
  · simp [hlost]
  · simpa [hl, hlost] using hn

theorem Lif.atFrameEnd_lineState (l : Lif) : l.atFrameEnd.lineState ≠ .stuck := by
  simp only [atFrameEnd]; split <;> simp

/-- The node's own frame has ended clean; a recovered line makes a new plan (R52, R97, R118). -/
theorem Part.ownFrameClean_within (h : p.adu.isHolder = false) (f : Frame) : (p.ownFrameClean f).Within line := by
  have recovers : ∀ r : Part, r.adu.isHolder = false → r.retryClean.Within line := by
    intro r hr
    unfold retryClean; dsimp only; split
    · exact .of_bare hr
    · exact Part.Within.clears (.of_bare (by exact hr)) _
  have hc : (if p.lif.retry = .sending then ((p.mapFre Fre.cleanAttempt).mapLif fun l => { l with echoRun := 0 }).retryClean
      else (p.mapFre Fre.cleanAttempt).mapLif fun l => { l with echoRun := 0 }).Within line := by
    split
    · exact recovers _ h
    · exact .of_bare h
  unfold ownFrameClean; dsimp only; split
  · exact hc.setLastReleased _
  all_goals exact hc

/-- A window ends clean: the node's own claim is settled with the list as it stands (R62, R104). -/
theorem Part.Within.windowEndsClean (h : p.Within false) : p.windowEndsClean.Within true := by
  have clean : (p.mapFre Fre.cleanAttempt).Within false := h.mapFre_same _ (Fre.list_of_rest (Fre.cleanAttempt_rest _))
    (Fre.duplicate_of_rest (Fre.cleanAttempt_rest _))
  have settled : ∀ r : Part, r.Within false → r.fre.list = p.fre.list → ∀ draw,
      ((r.cleanWindow p.fre.list).claimReport (.clean draw p.fre.list)).Within true := by
    intro r hr hl draw
    refine ((hr.cleanWindow _).mono true).claimReport _ fun draw' list e => ?_
    obtain ⟨-, rfl⟩ := ClaimReport.clean.inj e
    exact ⟨rfl, hl.symm.trans (Fre.list_of_rest (cleanWindow_rest ..)).symm⟩
  unfold Part.windowEndsClean; dsimp only
  split
  · exact settled _ (clean.mapLif_same _) (Fre.list_of_rest (Fre.cleanAttempt_rest _)) _
  · exact (h.cleanWindow _).mono true

theorem Part.handOn_within (h : p.Within false) (hw : p.adu.isHolder = true → p.fre.phase = .window) :
    p.handOn.Within true := by
  have bare (hp : p.fre.phase ≠ .window) : p.adu.isHolder = false := Bool.eq_false_of_not_eq_true (mt hw hp)
  unfold handOn
  split
  next hp =>
    have hb := bare (by simp [hp])
    repeat' split
    · exact ownFrameClean_within hb _
    · exact .of_bare (by simpa using hb)
    · exact (h.peerFrameHeard _).mono _
    · exact h.mono _
  next => exact h.windowEndsClean
  next =>
    split
    · exact (h.mapPvw _).mono _
    · exact h.mono _
  next => exact h.mono _

theorem Part.ownFrameClean_lineState (h : p.lif.lineState ≠ .stuck) (f : Frame) : (p.ownFrameClean f).lif.lineState ≠ .stuck := by
  have recovers : ∀ r : Part, r.retryClean.lif.lineState ≠ .stuck := by
    intro r; unfold retryClean; dsimp only; split <;> simp
  unfold ownFrameClean; dsimp only
  repeat' split
  all_goals simp [h, recovers]

theorem Part.handOn_lineState (h : p.lif.lineState ≠ .stuck) : p.handOn.lif.lineState ≠ .stuck := by
  have duplicate : p.recordDuplicate.lif.lineState = p.lif.lineState := by
    unfold recordDuplicate; dsimp only; split <;> simp
  have window : p.windowEndsClean.lif.lineState = p.lif.lineState := by
    unfold windowEndsClean; dsimp only; split <;> simp
  unfold handOn
  repeat' split
  · exact ownFrameClean_lineState h _
  all_goals simp [duplicate, window, h]

/-- ADU's line-stuck timer stops on a line that is STUCK no longer (R52). -/
theorem Part.Within.leaveStuck (h : p.Within line) (hl : p.lif.lineState ≠ .stuck) : p.leaveStuck.Within line := by
  have stopped : (p.mapAdu fun a => { a with stuckTimer := .stopped }).Within line := by
    refine h.transfer (q := p.mapAdu fun a => { a with stuckTimer := .stopped }) ⟨rfl, rfl, rfl⟩ (fun _ => rfl) rfl
      (fun _ hn => ?_) rfl
    simpa [lineAvailable, hl] using hn
  unfold Part.leaveStuck; dsimp only; split
  · exact stopped.clears _
  · exact stopped

theorem Lif.retryEnds_lineState (l : Lif) : l.retryEnds.lineState = l.lineState := by unfold retryEnds; split <;> rfl

theorem Part.frameEndReached_within (h : p.adu.isHolder = false) : p.frameEndReached.Within true := by
  have hd : (if p.lif.filtered then p.lineTurnsReleased else p).dataEndReached.DataEnded := by
    refine dataEndReached_dataEnded ?_
    split
    · simpa using h
    · exact h
  unfold frameEndReached
  split
  · exact .of_bare h
  split
  · exact .of_bare h
  dsimp only
  generalize (if p.lif.filtered then p.lineTurnsReleased else p).dataEndReached = r at hd ⊢
  have handed := handOn_within hd.atFrameEnd fun hh => (hd.window hh).1
  have state := handOn_lineState (p := r.mapLif Lif.atFrameEnd) (Lif.atFrameEnd_lineState _)
  have reported := ((handed.mapFre_same Fre.atFrameEnd).giveReport r.fre.report).mapLif_same Lif.retryEnds
    (Lif.retryEnds_lineState _)
  split
  · refine reported.leaveStuck ?_
    rw [mapLif_lif, Lif.retryEnds_lineState, giveReport_lif]
    exact state
  · exact reported

end

end Sys2Proof.Machine
end

section
/-! PROOF. The limits of an admission under the events of the lift side and of the port (R62, R71): a node that holds nothing is at most
admitted by a seek, and the draw granted is not lowered in the same event. -/

namespace Sys2Proof.Machine

-- Checked one after another: side by side, each waiting proof keeps a thread of its own.
set_option Elab.async false

/-! ## A seek does not lead to CREEP (R16 to R20) -/

section
variable {p : Part}

theorem Part.enterVerify_state (p : Part) : p.enterVerify.rsq.state = .verify := by simp [enterVerify]

theorem Part.enterWatch_state (p : Part) : p.enterWatch.rsq.state = .watch ∨ p.enterWatch.rsq.state = .verify := by
  unfold enterWatch; dsimp only; split
  · simp [enterVerify_state]
  · simp

theorem Part.enterWatch_not_creep (p : Part) : p.enterWatch.rsq.state ≠ .creep := by
  obtain h | h := p.enterWatch_state <;> simp [h]

theorem Part.enterLanded_not_creep (p : Part) : p.enterLanded.rsq.state ≠ .creep := by
  unfold enterLanded; dsimp only; split
  · exact enterWatch_not_creep _
  · simp

theorem Part.enterDoors_not_creep (p : Part) : p.enterDoors.rsq.state ≠ .creep := by
  unfold enterDoors; dsimp only; split
  · exact enterLanded_not_creep _
  · simp

theorem Part.takeMoving_not_creep (h : p.rsq.state ≠ .creep) (r : Option MovingReport) :
    (p.takeMoving r).rsq.state ≠ .creep := by
  unfold takeMoving movingReport; dsimp only
  repeat' split
  all_goals simp [h, enterProbe]

theorem Part.admitted_not_creep (h : p.rsq.state ≠ .creep) : p.admitted.rsq.state ≠ .creep := by
  unfold admitted
  repeat' split
  · exact enterDoors_not_creep p
  · exact takeMoving_not_creep (by simp) _
  · exact h

theorem Part.soloRule_not_creep (h : p.rsq.state ≠ .creep) : p.soloRule.rsq.state ≠ .creep := by
  unfold soloRule lineBlocked; dsimp only
  repeat' split
  · exact admitted_not_creep h
  · simp
  · exact h

theorem Part.queueing_not_creep (h : p.rsq.state ≠ .creep) (asked : Bool) : (p.queueing asked).rsq.state ≠ .creep := by
  unfold queueing
  repeat' split
  · exact soloRule_not_creep h
  · exact h
  · simpa using h

theorem Part.seek_not_creep (h : p.rsq.state ≠ .creep) : p.seek.rsq.state ≠ .creep := by
  unfold seek
  repeat' split
  · exact queueing_not_creep h _
  all_goals exact h

theorem Part.enterWait_not_creep (confirm : Bool) (p : Part) : (p.enterWait confirm).rsq.state ≠ .creep := by
  unfold enterWait; dsimp only
  refine seek_not_creep ?_
  split <;> simp

theorem Part.clears_not_creep (h : p.rsq.state ≠ .creep) (causes : List Cause) : (p.clears causes).rsq.state ≠ .creep := by
  unfold clears
  split
  next hb =>
    unfold replanBlocked; dsimp only; split
    · simp [requestPlan_rsq (p := p) (by simp [hb.1]), hb.1]
    · exact enterWait_not_creep _ _
  next => exact h

end

/-! ## Reports of LIU (R134) -/

section
variable {line : Bool} {p : Part}

/-- A node in WAIT or BLOCKED that acts on several reports in turn: a grant of one of them stands, since CREEP is not reached. -/
structure Part.Reporting (p : Part) : Prop where
  within : p.Within false
  state  : p.rsq.state ≠ .creep

theorem LiuReport.act_reporting (r : LiuReport) (h : p.Reporting) : (r.act p).Reporting := by
  unfold LiuReport.act
  split
  · rw [show p.testTarget = p from if_neg h.state]
    exact h
  · refine ⟨h.within.validChanged _, ?_⟩
    unfold Part.validChanged
    split
    · simp
    · exact Part.clears_not_creep h.state _
  · exact ⟨h.within.clears _, Part.clears_not_creep h.state _⟩
  · unfold Part.stallRaised
    split
    · exact ⟨h.within.congr, by simp [Part.enterVerify_state]⟩
    · exact h
  · unfold Part.stallWithdrawn
    split
    · exact ⟨h.within.congr, Part.enterWatch_not_creep _⟩
    · exact h
  · refine ⟨h.within.cancelHolds, ?_⟩
    unfold Part.cancelHolds
    split
    case h_1 | h_2 | h_3 | h_4 | h_5 | h_6 => exact Part.enterWatch_not_creep _
    all_goals exact h.state

/-- A node that holds nothing, in a state in which no seek is made. -/
structure Part.Idling (p : Part) : Prop where
  bare  : p.adu.isHolder = false
  state : p.rsq.state.waiting = false

theorem Part.enterWatch_waiting (p : Part) : p.enterWatch.rsq.state.waiting = false := by
  obtain h | h := p.enterWatch_state <;> rw [h] <;> rfl

theorem Part.endCreep_waiting (e : CreepEnd) (p : Part) : (p.endCreep e).rsq.state.waiting = false := by
  cases e <;> simp [endCreep, enterLevel, enterHalted, RescueState.waiting]

theorem Part.Idling.cancelHolds (h : p.Idling) : p.cancelHolds.Idling := by
  have ends (r : Part) (hr : r.adu.isHolder = false) : r.enterWatch.Idling := ⟨by simpa using hr, r.enterWatch_waiting⟩
  unfold Part.cancelHolds
  split
  case h_5 => exact ends _ (withdraw_bare p)
  case h_6 => exact ends _ (ended_bare ..)
  case h_1 | h_2 | h_3 | h_4 => exact ends p h.bare
  all_goals exact h

/-- Outside WAIT and BLOCKED no report leads to a seek. -/
theorem LiuReport.act_idling (r : LiuReport) (h : p.Idling) : (r.act p).Idling := by
  have wait : p.rsq.state ≠ .wait := fun e => by simpa [e, RescueState.waiting] using h.state
  have blocked : p.rsq.state ≠ .blocked := fun e => by simpa [e, RescueState.waiting] using h.state
  have clears (causes : List Cause) : p.clears causes = p := if_neg fun hb => blocked hb.1
  unfold LiuReport.act
  split
  · unfold Part.testTarget
    repeat' split
    · exact ⟨Part.endCreep_bare h.bare _, Part.endCreep_waiting _ p⟩
    all_goals exact h
  · rw [Part.validChanged, if_neg fun hv => wait hv.1, clears]
    exact h
  · rw [Part.loadChanged, clears]
    exact h
  · unfold Part.stallRaised
    split
    · exact ⟨by simpa using h.bare, by rw [Part.enterVerify_state]; rfl⟩
    · exact h
  · unfold Part.stallWithdrawn
    split
    · exact ⟨by simpa using h.bare, p.enterWatch_waiting⟩
    · exact h
  · exact h.cancelHolds

theorem Part.takeReports_within (h : p.adu.isHolder = false) (reports : List LiuReport) :
    (p.takeReports reports).Within line := by
  unfold takeReports
  split
  next hs =>
    have start : p.Reporting := ⟨.of_bare h, fun e => by simp [e, RescueState.waiting] at hs⟩
    exact (takeUnordered_keeps (fun r _ hq => r.act_reporting hq) (fun _ hq => ⟨hq.within.congr, hq.state⟩) reports
      start).within.mono line
  next hs =>
    have start : p.Idling := ⟨h, Bool.eq_false_of_not_eq_true hs⟩
    have kept : (reports.foldl (fun p r => r.act p) p).Idling :=
      List.foldlRecOn (motive := Part.Idling) _ _ start fun _ hq r _ => r.act_idling hq
    exact .of_bare kept.bare

theorem Part.acceptTick_within (h : p.adu.isHolder = false) (kind : TickKind) (d : TickData) (controller : ControllerState) :
    (p.acceptTick kind d controller).Within line := takeReports_within (p := p.mapLiu _) h _

theorem Part.evaluateConditions_within (h : p.adu.isHolder = false) : p.evaluateConditions.Within line :=
  takeReports_within (p := p.mapLiu _) h _

theorem Part.heartbeatExpires_within (h : p.adu.isHolder = false) : p.heartbeatExpires.Within line := by
  unfold heartbeatExpires
  split
  · exact evaluateConditions_within (p := p.mapLiu _) h
  · exact .of_bare h

/-! ## The inputs and the encoder (R126, R130) -/

theorem Part.testTarget_bare (h : p.adu.isHolder = false) : p.testTarget.adu.isHolder = false := by
  unfold testTarget
  repeat' split
  · exact endCreep_bare h _
  all_goals exact h

theorem Part.chainOpens_bare (h : p.adu.isHolder = false) : p.chainOpens.adu.isHolder = false := by
  unfold chainOpens
  split
  case h_2 => exact withdrawToBlocked_bare ..
  case h_3 => simp
  case h_4 | h_5 | h_6 => exact enterHalted_bare ..
  all_goals exact h

theorem Part.inputChanged_within (h : p.adu.isHolder = false) (i : Input) (level : Bool) :
    (p.inputChanged i level).Within line := by
  cases i with
  | mains => exact .of_bare h
  | chain =>
    unfold inputChanged; dsimp only; split
    · exact Part.Within.clears (.of_bare h) _
    · exact .of_bare (chainOpens_bare h)
  | doorZone =>
    unfold inputChanged; dsimp only; split
    · exact .of_bare (by simpa using h)
    · exact .of_bare (testTarget_bare h)
  | doorsOpen =>
    unfold inputChanged; dsimp only; repeat' split
    · exact .of_bare (by simpa using h)
    · exact .of_bare (enterLanded_bare p)
    · exact .of_bare h
  | brakeFeedback =>
    unfold inputChanged; dsimp only; repeat' split
    · exact .of_bare h
    · exact .of_bare (enterHalted_bare ..)
    · exact .of_bare h
    · exact .of_bare h

/-- A change of the mains moves the conditions alone (R130, R132). -/
theorem Part.debounceExpires_within (h : p.adu.isHolder = false) (i : Input) : (p.debounceExpires i).Within line := by
  have mains (q : Part) (hq : q.adu.isHolder = false) : q.mainsChanges.Within line := by
    have he := evaluateConditions_within (line := line) hq
    unfold mainsChanges; dsimp only; split
    · exact he.congr
    · exact he
  unfold debounceExpires; dsimp only
  repeat' split
  · exact .of_bare h
  next hi => subst hi; exact mains (p.mapLiu _) h
  · exact inputChanged_within (p := p.mapLiu _) h _ _
  · exact .of_bare h

theorem Part.stepEvent_within (h : p.adu.isHolder = false) (d : Dir) : (p.stepEvent d).Within line := by
  have creep (q : Part) (hq : q.adu.isHolder = false) (ends : List CreepEnd) : (q.firstOf ends).adu.isHolder = false := by
    unfold firstOf
    split
    · exact hq
    · exact endCreep_bare hq _
    · exact endCreep_bare (p := q.choose.2) hq _
  unfold stepEvent
  split
  · unfold probeStep; dsimp only; split
    · exact raceEnds_within (p := p.mapRsq _) h _
    · exact .of_bare h
  · exact .of_bare (creep (p.mapRsq _) h _)
  all_goals exact .of_bare h

theorem Part.sampleEncoder_within (h : p.adu.isHolder = false) : p.sampleEncoder.Within line := by
  unfold sampleEncoder
  split
  · exact .of_bare h
  · exact stepEvent_within (p := p.mapLiu _) h _
  · unfold encoderSkips; dsimp only; split
    · exact Part.Within.validChanged (.of_bare (by exact h)) _
    · exact .of_bare h

/-! ## The port (R147 to R155) -/

theorem Part.Within.setResult (h : p.Within line) (r : CommandResult) : (p.setResult r).Within line :=
  h.transfer (by simp) (fun _ => by simp) (by simp) (fun _ hn => hn) rfl

theorem Part.takeTick_within (h : p.adu.isHolder = false) (kind : TickKind) (staged : List Byte) :
    (p.takeTick kind staged).Within line := by
  have judged : (p.judgeTick kind (TickData.ofBytes staged)).2.Within line := by
    unfold judgeTick
    repeat' split
    · exact .of_bare h
    · exact .of_bare h
    · exact acceptTick_within h ..
  unfold takeTick
  split
  · exact .of_bare h
  · split <;> rename_i e <;> rw [e] at judged <;> exact judged.setResult _

/-- A transaction grants what the command taken at its end grants. -/
theorem Part.transaction_within (h : p.adu.isHolder = false) (bytes : List Byte) (bits : Nat) {finish : Lpc → Part → Part}
    (hf : ∀ l q, q.adu.isHolder = false → (finish l q).Within line) : (p.transaction bytes bits finish).Within line := by
  unfold transaction
  split
  · exact .of_bare h
  · exact (hf (p.clock bytes bits).lpc (p.clock bytes bits).release h).congr

theorem Part.modify_within (h : p.adu.isHolder = false) (c : PortCommand) (t : Tail) {take : List Byte → Part → Part}
    (hf : ∀ bytes q, q.adu.isHolder = false → (take bytes q).Within line) : (p.modify c t take).Within line := by
  refine transaction_within h _ _ fun l q hq => ?_
  split
  · exact hf _ _ hq
  · exact .of_bare hq

/-! ## The timers -/

theorem Part.verifyExpires_within (h : p.adu.isHolder = false) : p.verifyExpires.Within line := by
  unfold verifyExpires
  split
  · exact Part.Within.decideCase (.of_bare (by exact h))
  · exact .of_bare h

theorem Part.probeWindowEnds_within (h : p.adu.isHolder = false) : p.probeWindowEnds.Within line := by
  unfold probeWindowEnds
  split
  · exact raceEnds_within (p := p.mapRsq _) h _
  · exact .of_bare h

theorem Part.brakeExpires_bare (h : p.adu.isHolder = false) : p.brakeExpires.adu.isHolder = false := by
  unfold brakeExpires
  repeat' split
  · exact h
  · exact enterHalted_bare ..
  · exact h

theorem Part.progressWindowEnds_bare (h : p.adu.isHolder = false) : p.progressWindowEnds.adu.isHolder = false := by
  unfold progressWindowEnds
  repeat' split
  · exact enterHalted_bare ..
  · exact h
  · exact h

theorem Part.levelExpires_bare (h : p.adu.isHolder = false) : p.levelExpires.adu.isHolder = false := by
  unfold levelExpires
  split
  · exact enterHalted_bare ..
  · exact h

theorem Part.standstillExpires_within (h : p.adu.isHolder = false) : p.standstillExpires.Within line := by
  unfold standstillExpires
  split
  · exact Part.Within.enterDoors (.of_bare h)
  · exact .of_bare h

theorem Part.doorExpires_bare (h : p.adu.isHolder = false) : p.doorExpires.adu.isHolder = false := by
  unfold doorExpires
  split
  · exact enterHalted_bare ..
  · exact h

theorem Part.waitSecondPasses_within (h : p.adu.isHolder = false) : p.waitSecondPasses.Within line := by
  unfold waitSecondPasses; dsimp only
  repeat' split
  · exact .of_bare h
  · exact Part.Within.recomputeKey (.of_bare (by exact h))
  · exact .of_bare h

theorem Part.retryExpires_within (h : p.adu.isHolder = false) : p.retryExpires.Within line := by
  unfold retryExpires
  split
  · exact Part.Within.retryTrigger (.of_bare (by exact h))
  · exact .of_bare h

theorem Part.deferralExpires_within (h : p.adu.isHolder = false) : p.deferralExpires.Within line := by
  unfold deferralExpires
  split
  · exact queueing_within ..
  · exact .of_bare h

/-! ## A sample period -/

theorem Part.sampleLine_adu (p : Part) : p.sampleLine.2.adu = p.adu := by
  have edge (r : Part) (length : Nat) (early : Bool) : (r.edgeFound length early).2.adu = r.adu := by
    unfold edgeFound; dsimp only; repeat' split
    all_goals simp
  have goesOn (r : Part) : r.phaseGoesOn.2.adu = r.adu := by
    unfold phaseGoesOn; dsimp only; repeat' split
    all_goals rfl
  unfold sampleLine; dsimp only; repeat' split
  all_goals simp [edge, goesOn]

theorem Part.sample_adu (p : Part) : p.sample.2.adu = p.adu := by
  unfold sample; split
  · rfl
  · exact p.sampleLine_adu

/-- A sample period grants nothing: it queues what comes due. -/
theorem Part.period_isHolder (p : Part) : p.period.2.adu.isHolder = p.adu.isHolder := by
  have ordered (groups : List (List Instr)) (r : Part) : (r.inFreeOrder groups).2.adu = r.adu := by
    unfold inFreeOrder; split <;> rfl
  have probed (r : Part) : r.advanceProbe.2.adu = r.adu := by
    unfold advanceProbe; repeat' split
    all_goals rfl
  have sampled (r : Part) : r.advanceSamples.2.adu = r.adu := by
    unfold advanceSamples; split
    · simp only [mapAnu_adu]
    · rfl
  unfold period; dsimp only
  rw [ordered, sample_adu, sampled, probed]
  rfl

theorem Part.idle_isHolder (p : Part) : p.idle.2.adu.isHolder = p.adu.isHolder := by
  unfold idle
  repeat' split
  · rfl
  · exact p.period_isHolder
  · rfl

end

/-! ## Every step -/

section
variable {s t : State} {f : Part → Part}

theorem Part.whenWorking_within {p : Part} (h : p.adu.isHolder = false) (hf : (f p).Within true) :
    (p.whenWorking f).Within true := by
  unfold whenWorking; split
  · exact .of_bare h
  · exact hf

theorem State.run_within (h : s.part.adu.isHolder = false) (hf : (f s.part).Within true) (ht : s.run f = .next t) :
    t.part.Within true := by
  rw [State.run_next ht]; exact Part.whenWorking_within h hf

theorem State.runIf_within {ok : Bool} (h : s.part.adu.isHolder = false) (hf : (f s.part).Within true)
    (ht : s.runIf ok f = .next t) : t.part.Within true := by
  rw [(State.runIf_next ht).2]; exact Part.whenWorking_within h hf

theorem State.runDue_within {c : Instr} {due : Part → Bool} (h : s.part.adu.isHolder = false)
    (hf : (f s.part).Within true) (ht : s.runDue c due f = .next t) : t.part.Within true := by
  rw [State.runDue_eq] at ht
  obtain rfl := Host.Outcome.next.inj ht
  dsimp only; split
  · exact Part.whenWorking_within h hf
  · exact .of_bare h

/-- The expiry of a timer grants what its event grants. -/
theorem State.runExpiry_within {c : Instr} (timer : Part → Timer) (h : s.part.adu.isHolder = false)
    (hf : (f s.part).Within true) (ht : s.runExpiry c timer f = .next t) : t.part.Within true :=
  State.runDue_within h hf ht

theorem Part.whenListening_within {p : Part} (h : p.adu.isHolder = false) (hf : (f p).Within true) :
    (p.whenListening f).Within true := by
  unfold whenListening; split
  · exact .of_bare h
  · exact hf

/-- A command that finds a node holding nothing grants at most a draw within the limit. -/
theorem exec_within (c : Instr) (h : s.part.adu.isHolder = false) (ht : exec c s = .next t) : t.part.Within true := by
  cases c with
  | powerOn selected => obtain rfl := Host.Outcome.next.inj ht; exact .of_bare rfl
  | resetInput low selected =>
    obtain rfl := Host.Outcome.next.inj ht
    dsimp only; split
    · exact .of_bare rfl
    · unfold Part.resetRises; split
      · exact .of_bare rfl
      · exact .of_bare h
  | restart tail => exact State.run_within h (Part.modify_within h _ _ fun _ _ _ => .of_bare rfl) ht
  | load tail => exact State.run_within h (Part.modify_within h _ _ fun _ _ hq => .of_bare (by simpa using hq)) ht
  | commit tail => exact State.run_within h (Part.modify_within h _ _ fun _ _ hq => .of_bare (by simpa using hq)) ht
  | loopback tail => exact State.run_within h (Part.modify_within h _ _ fun _ _ hq => .of_bare (by simpa using hq)) ht
  | tickA tail => exact State.run_within h (Part.modify_within h _ _ fun _ _ hq => Part.takeTick_within hq _ _) ht
  | tickB tail => exact State.run_within h (Part.modify_within h _ _ fun _ _ hq => Part.takeTick_within hq _ _) ht
  | resume tail => exact State.run_within h (Part.modify_within h _ _ fun _ _ hq => .of_bare (by simpa using hq)) ht
  | status tail => exact State.run_within h (Part.transaction_within h _ _ fun _ _ hq => .of_bare hq) ht
  | view tail => exact State.run_within h (Part.transaction_within h _ _ fun _ _ hq => .of_bare hq) ht
  | unknownCommand code tail =>
    refine State.runIf_within h (Part.transaction_within h _ _ fun _ q hq => .of_bare ?_) ht
    exact (congrArg Adu.isHolder (q.refuseTransaction_adu _)).trans hq
  | incompleteCommandByte bits =>
    refine State.run_within h (Part.transaction_within h _ _ fun _ q hq => .of_bare ?_) ht
    exact (congrArg Adu.isHolder (q.refuseTransaction_adu _)).trans hq
  | heartbeatExpiry => exact State.runExpiry_within (·.liu.heartbeatTimer) h (Part.heartbeatExpires_within h) ht
  | debounceExpiry i => exact State.runExpiry_within (fun p => (p.liu.input i).timer) h (Part.debounceExpires_within h i) ht
  | encoderStep d =>
    obtain rfl := Host.Outcome.next.inj ht
    exact Part.whenWorking_within h (Part.sampleEncoder_within h)
  | illegalTransition =>
    obtain rfl := Host.Outcome.next.inj ht
    exact Part.whenWorking_within h (Part.sampleEncoder_within h)
  | inputPinChange i level =>
    obtain rfl := Host.Outcome.next.inj ht
    exact Part.whenWorking_within h (.of_bare h)
  | verifyTimerExpiry => exact State.runExpiry_within (·.rsq.verifyTimer) h (Part.verifyExpires_within h) ht
  | gateFallbackExpiry => exact State.runExpiry_within (·.rsq.gateTimer) h (.of_bare (by simpa using h)) ht
  | probeWindowExpiry => exact State.runExpiry_within (·.rsq.probeTick) h (Part.probeWindowEnds_within h) ht
  | brakeTimerExpiry => exact State.runExpiry_within (·.rsq.brakeTimer) h (.of_bare (Part.brakeExpires_bare h)) ht
  | progressWindowEnd =>
    exact State.runExpiry_within (·.rsq.progressTimer) h (.of_bare (Part.progressWindowEnds_bare h)) ht
  | speedWindowEnd => exact State.runExpiry_within (·.rsq.speedTimer) h (.of_bare (by simpa using h)) ht
  | levelTimerExpiry => exact State.runExpiry_within (·.rsq.levelTimer) h (.of_bare (Part.levelExpires_bare h)) ht
  | standstillExpiry => exact State.runExpiry_within (·.rsq.standstillTimer) h (Part.standstillExpires_within h) ht
  | doorTimerExpiry => exact State.runExpiry_within (·.rsq.doorTimer) h (.of_bare (Part.doorExpires_bare h)) ht
  | waitSecondsTimerExpiry => exact State.runExpiry_within (·.pcu.waitTimer) h (Part.waitSecondPasses_within h) ht
  | retryTimerExpiry => exact State.runExpiry_within (·.adu.retryTimer) h (Part.retryExpires_within h) ht
  | deferralLimitExpiry => exact State.runExpiry_within (·.adu.deferralTimer) h (Part.deferralExpires_within h) ht
  | lineStuckTimerExpiry => exact State.runExpiry_within (·.adu.stuckTimer) h (.of_bare (by simpa using h)) ht
  | recordStale n => exact State.run_within h ((Part.Within.recordReachesStale (.of_bare h) n).mono _) ht
  | recordRemoved n => exact State.run_within h (Part.Within.recordReachesRemoval (.of_bare h) n) ht
  | presenceTimerExpiry => exact State.runExpiry_within (·.fre.presenceTimer) h (.of_bare (by simpa using h)) ht
  | attemptStart => exact State.run_within h (.of_bare (by simpa using h)) ht
  | arbitrationLoss => exact State.run_within h (.of_bare (by simpa using h)) ht
  | transmitSymbolError => exact State.run_within h (.of_bare (by simpa using h)) ht
  | echoFailure => exact State.run_within h (.of_bare (by simpa using h)) ht
  | lineSymbolError e => exact State.runIf_within h (Part.whenListening_within h (.of_bare (by simpa using h))) ht
  | lineHeld => exact State.run_within h (Part.whenListening_within h (.of_bare (by simpa using h))) ht
  | lineStuck => exact State.run_within h (Part.whenListening_within h (.of_bare (by simpa using h))) ht
  | dataEnd => exact State.run_within h (Part.whenListening_within h ((Part.dataEndReached_dataEnded h).within.mono _)) ht
  | responseStart => exact State.run_within h (Part.whenListening_within h (.of_bare (by simpa using h))) ht
  | edgeAfterDataEnd length => exact State.runIf_within h (Part.whenListening_within h (Part.edgeAfter_within h length)) ht
  | rollCallResponse =>
    refine State.run_within h (.of_bare ?_) ht
    split
    · simpa using h
    · exact h
  | frameEnd => exact State.run_within h (Part.whenListening_within h (Part.frameEndReached_within h)) ht
  | lostRetryTimerExpiry => exact State.runExpiry_within (·.lif.lostTimer) h (.of_bare (by simpa using h)) ht
  | lostRetryPresence => exact State.run_within h (.of_bare (by simpa using h)) ht
  | loopbackTestEnd e => exact State.run_within h (.of_bare (by simpa using h)) ht
  | voiceDirectoryReadDone bytes => exact State.runIf_within h (.of_bare (by simpa [Part.announce] using h)) ht
  | voiceRefillReadDone bytes => exact State.runIf_within h (.of_bare h) ht
  | sampleInstant => exact State.run_within h (.of_bare (by simpa [Part.announce] using h)) ht
  | patienceTimerExpiry => exact State.runExpiry_within (·.anu.patience) h (.of_bare (by simpa [Part.announce] using h)) ht
  | classifiedSymbol length => exact State.runIf_within h (Part.whenListening_within h (.of_bare (by simpa using h))) ht
  | idleLineDriven =>
    refine State.run_within h (Part.whenListening_within h (.of_bare ?_)) ht
    split
    · exact h
    · simpa using h
  | symbolDueTime => exact State.runDue_within (due := (·.lif.symbolDue)) h (.of_bare h) ht

end

/-- Settles O33: a step is a command, which grants within the limit, or a sample period, which grants nothing. -/
theorem admissionWithinLimit : Obligations.AdmissionWithinLimit := by
  intro s t ht h
  have within : t.part.Within true := by
    unfold step at ht
    split at ht
    next c rest _ => exact exec_within (s := { s with pending := rest }) c h ht
    next =>
      obtain rfl := Host.Outcome.next.inj ht
      exact .of_bare (s.part.idle_isHolder.trans h)
  exact ⟨fun e => (within.overLine e).2, within.solo⟩

end Sys2Proof.Machine
end

section
/-! PROOF. The clean end of the node's own window (R62, R63, R69, R97, R104): what ADU finds as it takes the report, and the claim
granted, refused or given up. -/

namespace Sys2Proof.Machine

-- Checked one after another: side by side, each waiting proof keeps a thread of its own.
set_option Elab.async false

section
variable {p : Part}

/-! ## The frame end of the node's own window -/

/-- The node's own Claim has been heard back, and the frame end comes on a window without fault (R99, R104). -/
structure Part.OwnWindow (node : Node) (draw : Nat) (p : Part) : Prop where
  committed : p.lpc.committed = true
  traffic   : p.lif.traffic = true
  released  : p.lif.filtered = false
  dataEnd   : 48 ≤ p.lif.samples
  lineState : p.lif.lineState = .busy ∨ p.lif.lineState = .sending
  retry     : p.lif.retry = .none
  phase     : p.fre.phase = .window
  role      : p.fre.role = .claimant
  inFlight  : p.fre.inFlight = some { kind := .claim, held := none }
  report    : p.fre.report = none
  claimant  : p.fre.claimant = some (node, draw)
  noPeer    : p.pvw.claim = none
  claiming  : p.adu.state = .claiming
  fresh     : ∀ e ∈ p.fre.list, isStale e.1 p.pvw.records = false

/-- PVW's record after the list of a clean window in which no responder's record was stale (R80, R87). -/
def Part.viewAfterWindow (p : Part) : Pvw :=
  let records := applyEntries (peerEntries p.settings.node p.fre.list) p.pvw.records
  { p.pvw with records := records, deferral := deferralAnswer p.pcu.plan.key records }

/-- The part as ADU takes the clean report: the Claim has left the queue, the echo run is cleared, the list is applied (R80, R97). -/
def Part.windowHeard (p : Part) : Part :=
  { p with
    pvw := p.viewAfterWindow
    fre := { p.fre with queue := dropKind .claim p.fre.queue, inFlight := none }
    lif := { p.lif.atFrameEnd with echoRun := 0 } }

/-- With no record stale among its entries a clean list moves the records and the deferral answer alone (R80, R85). -/
theorem Part.cleanWindow_of_fresh (hc : p.lpc.committed = true) (hn : p.pvw.claim = none) (hd : p.adu.state ≠ .defer)
    (hf : ∀ e ∈ p.fre.list, isStale e.1 p.pvw.records = false) :
    p.cleanWindow p.fre.list = { p with pvw := p.viewAfterWindow } := by
  have stale : (peerEntries p.settings.node p.fre.list).any (fun e => isStale e.1 p.pvw.records) = false := by
    rw [List.any_eq_false]
    intro e he
    simp [hf e (List.mem_of_mem_filter he)]
  unfold cleanWindow
  simp only [hc, stale, if_true, Bool.false_eq_true, if_false, mapPvw, hn]
  rw [reevaluateDeferral_of_not_defer (by exact hd)]
  simp only [answered, viewAfterWindow, ← hn]

/-- FRE hands the list on: PVW applies it, and ADU takes it with the U of the CLAIM (R104). -/
theorem Part.frameEndReached_of_ownWindow {node : Node} {draw : Nat} (h : p.OwnWindow node draw) :
    p.frameEndReached = (p.windowHeard.claimReport (.clean draw p.fre.list)).mapFre Fre.afterTraffic := by
  have own : p.fre.isSender = true := by simp [Fre.isSender, h.role]
  have idle : (p.mapLif Lif.atFrameEnd).handOn = p.windowHeard.claimReport (.clean draw p.fre.list) := by
    have clean : (p.mapLif Lif.atFrameEnd).fre.cleanAttempt
        = { p.fre with queue := dropKind .claim p.fre.queue, inFlight := none } := by
      simp [Fre.cleanAttempt, h.inFlight, applyHeld]
    have view := cleanWindow_of_fresh (p := { p with
        fre := { p.fre with queue := dropKind .claim p.fre.queue, inFlight := none }
        lif := { p.lif.atFrameEnd with echoRun := 0 } }) h.committed h.noPeer (by simp [h.claiming]) h.fresh
    simp only [handOn, mapLif_fre, h.phase, windowEndsClean, own, if_true, h.claimant, Option.map_some, Option.getD_some]
    rw [mapFre, clean]
    exact congrArg (claimReport _) view
  have data : p.dataEndReached = p := if_neg fun ⟨_, _, hs⟩ => absurd h.dataEnd (Nat.not_le.mpr hs)
  have stuck : p.lif.lineState ≠ .stuck := by obtain e | e := h.lineState <;> simp [e]
  have ends (r : Part) (hr : r.lif.retry = .none) : r.mapLif Lif.retryEnds = r := by
    simp [mapLif, Lif.retryEnds, hr]
  have retry : (p.windowHeard.claimReport (.clean draw p.fre.list)).lif.retry = .none := by
    rw [claimReport_lif]; exact h.retry
  unfold frameEndReached
  simp only [h.released, h.traffic, data, idle, h.report, giveReport, Bool.false_eq_true, false_and, and_false, if_false,
    Bool.not_true, stuck]
  exact ends _ retry

theorem exec_frameEnd_of_ownWindow {s : State} {node : Node} {draw : Nat} (hl : s.listening) (h : s.part.OwnWindow node draw) :
    exec .frameEnd s = .next { s with
      part := (s.part.windowHeard.claimReport (.clean draw s.part.fre.list)).mapFre Fre.afterTraffic } := by
  change s.run (Part.whenListening Part.frameEndReached) = _
  rw [State.run_eq, Part.whenWorking_of_high _ _ hl.1, Part.whenListening, hl.2, ← Part.frameEndReached_of_ownWindow h]
  rfl

end

end Sys2Proof.Machine
end

section
/-! PROOF. ADU's decision at the clean end of the own window (R62, R63, R69, R70): the queue without its Claim, the claim admitted, refused
or, withdrawn, given up. -/

namespace Sys2Proof.Machine

-- Checked one after another: side by side, each waiting proof keeps a thread of its own.
set_option Elab.async false

/-! ## The queue while nothing is in flight -/

/-- Nothing is in flight, and no Claim is queued. -/
structure Fre.ClaimGone (r : Fre) : Prop where
  inFlight : r.inFlight = none
  queue    : ∀ e ∈ r.queue, e.frame.kind ≠ .claim

section
variable {r : Fre} {f : Frame} {e : Entry}

theorem Fre.removeKind_of_absent (h : r.inFlight = none) {k : FrameKind} (hq : ∀ e ∈ r.queue, e.frame.kind ≠ k) :
    r.removeKind k = r := by
  have absent : dropKind k r.queue = r.queue := List.filter_eq_self.mpr fun e he => by simp [hq e he]
  rw [removeKind, if_neg (by simp [flying, h]), absent]

/-- An offer made while nothing is in flight joins the queue at once (R91). -/
theorem Fre.offer_of_idle (h : r.inFlight = none) (f : Frame) :
    r.offer f = { r with
      queue := if f.kind = .release then dropKind .adjust (dropKind .claim (enqueue f r.queue)) else enqueue f r.queue } := by
  unfold offer
  split <;> rename_i hk <;> simp [hk, put, removeKind, flying, h]

theorem Fre.mem_offer_of_idle (h : r.inFlight = none) :
    e ∈ (r.offer f).queue ↔ e ∈ enqueue f r.queue ∧ (f.kind = .release → e.frame.kind ≠ .claim ∧ e.frame.kind ≠ .adjust) := by
  rw [offer_of_idle h]
  by_cases hk : f.kind = .release <;> simp [hk, mem_dropKind, and_assoc]

theorem Fre.offer_inFlight_of_idle (h : r.inFlight = none) : (r.offer f).inFlight = none := by
  rw [offer_of_idle h]; exact h

/-- The frame offered is queued, not yet attempted. -/
theorem Fre.mem_offer_self (h : r.inFlight = none) : ⟨f, 0⟩ ∈ (r.offer f).queue :=
  (mem_offer_of_idle h).mpr ⟨mem_enqueue.mpr (.inl rfl), fun hk => by simp [hk]⟩

/-- The offer of a frame that is no RELEASE leaves the entries of the other kinds. -/
theorem Fre.mem_offer_of_mem (h : r.inFlight = none) (hf : f.kind ≠ .release) (he : e ∈ r.queue) (hk : e.frame.kind ≠ f.kind) :
    e ∈ (r.offer f).queue :=
  (mem_offer_of_idle h).mpr ⟨mem_enqueue.mpr (.inr ⟨he, hk⟩), fun hr => absurd hr hf⟩

theorem Fre.ClaimGone.offer (h : r.ClaimGone) (hf : f.kind ≠ .claim) : (r.offer f).ClaimGone where
  inFlight := offer_inFlight_of_idle h.inFlight
  queue e he := by
    obtain rfl | ⟨he, -⟩ := mem_enqueue.mp ((mem_offer_of_idle h.inFlight).mp he).1
    · exact hf
    · exact h.queue e he

end

/-! ## No Claim comes back with an admission -/

section
variable {p q : Part}

theorem Part.releaseOffered_claimGone (h : p.fre.ClaimGone) (o : ReleaseOutcome) : (p.releaseOffered o).ClaimGone := by
  unfold releaseOffered
  split
  · exact h.offer (by simp [Frame.kind])
  · exact h

theorem Fre.ClaimGone.presence {r : Fre} (h : r.ClaimGone) (code : Nat) (draw : Option Nat) (key : Option Key) (solo : Bool) (p : Part) :
    (r.offer (p.presence code draw key solo)).ClaimGone := h.offer (by simp [Part.presence, Frame.kind])

theorem Part.watchesAs.claimGone (hw : q.watchesAs p) (h : p.fre.ClaimGone) : q.fre.ClaimGone := by
  obtain ⟨-, -, -, calm, stalled⟩ := hw
  cases hs : p.liu.stall
  · rw [(calm hs).2]; exact h.presence ..
  · rw [(stalled hs).2]; exact (h.presence ..).presence ..

theorem Part.landsAs.claimGone (hl : q.landsAs p) (h : p.fre.ClaimGone) : q.fre.ClaimGone := by
  have landed := (releaseOffered_claimGone h .landed).presence 7 none none false p
  cases hc : p.liu.cancel
  · rw [hl.1 hc]; exact landed
  · exact (hl.2 hc).claimGone landed

theorem Part.opensDoorsAs.claimGone (ho : q.opensDoorsAs p) (h : p.fre.ClaimGone) : q.fre.ClaimGone := by
  have opened := h.presence 6 p.presenceDraw none (p.adu.state == .solo) p
  cases hd : p.liu.doorsOpen.level
  · rw [ho.1 hd]; exact opened
  · exact (ho.2 hd).claimGone opened

theorem Part.warnsAs.claimGone (hw : q.warnsAs p) (h : p.fre.ClaimGone) : q.fre.ClaimGone := by
  have warned := h.presence 6 p.presenceDraw none (p.adu.state == .solo) p
  obtain ⟨gateOpens, unvoiced, voiced⟩ := hw
  by_cases hm : p.settings.phrase .moving = 255
  · obtain ⟨-, -, hf, -⟩ := gateOpens hm
    rw [hf]; exact warned.presence ..
  · by_cases hv : p.settings.voiceSize = 0
    · rw [unvoiced hm hv]; exact warned
    · rw [voiced hm hv]; exact warned

theorem Part.admittedAs.claimGone (ha : q.admittedAs p) (h : p.fre.ClaimGone) : q.fre.ClaimGone := by
  by_cases hz : p.pcu.plan.kind = .zone
  · exact (ha.1 hz).claimGone h
  · exact (ha.2 hz).claimGone h

/-! ## A refusal (R63) -/

/-- ADU's record after a refusal: DEFER, the deferral limit at 10 s and the retry timer at 5 s. -/
def Adu.turnedAway (a : Adu) : Adu :=
  { a with state := .defer, deferralTimer := .running 2500000, retryTimer := .running 1250000, pendingKey := false }

theorem Part.deferAndRetry_of_claiming (h : p.adu.state = .claiming) : p.deferAndRetry = { p with adu := p.adu.turnedAway } := by
  simp [deferAndRetry, mapAdu, Adu.enterDefer, h, Adu.turnedAway, Config.deferralTime, Config.retryTime, Config.ms,
    Config.samplesPerMs]

/-- The refusal counted (R34). -/
def Part.refusalCounted (p : Part) : Part := { p with pcu := { p.pcu with refusals := min 15 (p.pcu.refusals + 1) } }

/-- Where the plan has no key the refusal is counted, and ADU defers. -/
theorem Part.refused_of_no_key (h : p.adu.state = .claiming) (hk : p.pcu.plan.key = none) :
    p.refused = { p.refusalCounted with adu := p.adu.turnedAway } := by
  change p.refusalCounted.recomputeKey.deferAndRetry = _
  rw [recomputeKey_of_idle (.inr (by exact hk)), deferAndRetry_of_claiming (by exact h)]
  rfl

/-- In WAIT the key is recomputed with the refusal counted, before ADU defers (R45). -/
theorem Part.refused_of_key {key : Key} (h : p.adu.state = .claiming) (hs : p.rsq.state = .wait) (hk : p.pcu.plan.key = some key) :
    p.refused = { p.refusalCounted.rekeyed with adu := p.adu.turnedAway } := by
  have rekeyed : p.refusalCounted.recomputeKey
      = { p.refusalCounted.rekeyed with adu := { p.adu with pendingKey := true } } :=
    (recomputeKey_rekeysAs (p := p.refusalCounted) (.inl hs) (by simp [refusalCounted, hk]) _ rfl _ rfl).2.1 h
  change p.refusalCounted.recomputeKey.deferAndRetry = _
  rw [rekeyed, deferAndRetry_of_claiming (by exact h)]
  rfl

/-! ## A withdrawn claim is settled (R69) -/

/-- ADU's record once a withdrawn claim has been settled without an admission. -/
def Adu.claimDropped (a : Adu) : Adu :=
  { a with state := .none, retryTimer := .stopped, withdrawn := false, pendingKey := false, pendingSeek := false }

/-- ADU's record once the admission of a withdrawn claim has been given up. -/
def Adu.admissionGivenUp (a : Adu) : Adu :=
  { a.claimDropped with heldDraw := 0, admittedDraw := 0, deferralTimer := .stopped, lastRelease := some .abandoned }

/-- A withdrawn claim settled by a clean window, before a pending seek is taken: within S_eff the admission is answered with Release
ABANDONED. -/
def Part.withdrawnSettled (draw : Nat) (list : List (Node × Nat)) (p : Part) : Part :=
  if p.claimFits draw list then
    { p with adu := p.adu.admissionGivenUp, fre := p.fre.offer (.release .abandoned p.settings.node) }
  else { p with adu := p.adu.claimDropped }

theorem Part.settleWithdrawn_clean (draw : Nat) (list : List (Node × Nat)) (h : p.fre.ClaimGone) (hl : p.lineAvailable = true) :
    ((p.settleWithdrawn (.clean draw list)).mapAdu fun a => { a with pendingSeek := false }) = p.withdrawnSettled draw list := by
  have gone : p.mapFre (Fre.removeKind .claim) = p := by simp [mapFre, Fre.removeKind_of_absent h.inFlight h.queue]
  have available (a : Adu) (ha : a.stuckTimer = p.adu.stuckTimer) : ({ p with adu := a } : Part).lineAvailable = true := by
    simpa [lineAvailable, ha] using hl
  unfold settleWithdrawn withdrawnSettled
  rw [gone]
  change mapAdu _ (if p.claimFits draw list = true then _ else _) = _
  split
  · simp [mapAdu, ended_eq, Adu.grant, Adu.released, releaseOffered, available, Adu.admissionGivenUp, Adu.claimDropped, settings]
  · rfl

/-- ADU takes the clean report of a withdrawn claim (R69, R70). -/
theorem Part.claimReport_of_withdrawn (draw : Nat) (list : List (Node × Nat)) (hs : p.adu.state = .claiming)
    (hw : p.adu.withdrawn = true) (h : p.fre.ClaimGone) (hl : p.lineAvailable = true) :
    p.claimReport (.clean draw list) =
      if p.adu.pendingSeek = true then (p.withdrawnSettled draw list).queueing true else p.withdrawnSettled draw list := by
  unfold claimReport
  simp only [hs, hw, if_true]
  rw [settleWithdrawn_clean draw list h hl]

/-- ADU takes the clean report of a claim that stands (R62, R63). -/
theorem Part.claimReport_of_standing (draw : Nat) (list : List (Node × Nat)) (hs : p.adu.state = .claiming)
    (hw : p.adu.withdrawn = false) (h : p.fre.ClaimGone) :
    p.claimReport (.clean draw list) =
      if p.claimFits draw list = true then
        ({ p with adu := { p.adu.grant .holder draw with pendingKey := false } } : Part).admitted
      else p.refused := by
  have gone : p.mapFre (Fre.removeKind .claim) = p := by simp [mapFre, Fre.removeKind_of_absent h.inFlight h.queue]
  unfold claimReport
  simp only [hs, hw, if_true, Bool.false_eq_true, if_false, gone]
  rfl

/-! ## A pending seek on a line that is available (R53, R70) -/

theorem Part.queueing_of_available (hl : p.lineAvailable = true) :
    p.queueing true = if deferralAnswer p.pcu.plan.key p.pvw.records = true then p.mapAdu Adu.enterDefer
      else p.offerClaim.mapAdu fun a => { a with state := .queued, deferralTimer := .stopped } := by
  simp [queueing, hl]

/-- The queueing procedure moves ADU's state and its deferral limit timer. -/
theorem Part.queueing_adu_of_available (hl : p.lineAvailable = true) :
    ∃ s t, (p.queueing true).adu = { p.adu with state := s, deferralTimer := t } := by
  rw [queueing_of_available hl]
  split
  · simp only [mapAdu, Adu.enterDefer]
    split
    · exact ⟨_, _, rfl⟩
    · exact ⟨_, _, rfl⟩
  · exact ⟨.queued, .stopped, by unfold offerClaim; split <;> rfl⟩

theorem Part.queueing_sameOutside_of_available (hl : p.lineAvailable = true) : (p.queueing true).sameOutside [.adu, .fre] p := by
  rw [queueing_of_available hl]
  split
  · simp [sameOutside]
  · unfold offerClaim
    split <;> simp [sameOutside]

/-- The entries other than the Claim stay queued. -/
theorem Part.mem_queue_of_queueing {e : Entry} (hl : p.lineAvailable = true) (hf : p.fre.inFlight = none) (he : e ∈ p.fre.queue)
    (hk : e.frame.kind ≠ .claim) : e ∈ (p.queueing true).fre.queue := by
  rw [queueing_of_available hl]
  split
  · exact he
  · unfold offerClaim
    split
    · exact Fre.mem_offer_of_mem hf (by simp [Frame.kind]) he hk
    · exact he

end

end Sys2Proof.Machine
end

section
/-! PROOF. The own claim at the clean end of its window (O48): the standing claim, and the withdrawn one. -/

namespace Sys2Proof.Machine

-- Checked one after another: side by side, each waiting proof keeps a thread of its own.
set_option Elab.async false

section
variable {p : Part} {node : Node} {draw : Nat}

theorem Part.sameOutside.trans {changed : List Block} {q r : Part} (h : q.sameOutside changed r) (h' : r.sameOutside changed p) :
    q.sameOutside changed p := by
  obtain ⟨rsq, pcu, adu, pvw, fre, lif, liu, anu, lpc, pins, choices⟩ := h
  obtain ⟨rsq', pcu', adu', pvw', fre', lif', liu', anu', lpc', pins', choices'⟩ := h'
  exact ⟨fun b => (rsq b).trans (rsq' b), fun b => (pcu b).trans (pcu' b), fun b => (adu b).trans (adu' b),
    fun b => (pvw b).trans (pvw' b), fun b => (fre b).trans (fre' b), fun b => (lif b).trans (lif' b),
    fun b => (liu b).trans (liu' b), fun b => (anu b).trans (anu' b), fun b => (lpc b).trans (lpc' b),
    fun b => (pins b).trans (pins' b), fun b => (choices b).trans (choices' b)⟩

theorem Part.windowHeard_sameOutside (p : Part) : p.windowHeard.sameOutside [.adu, .pvw, .fre, .lif] p := by
  simp [sameOutside, windowHeard]

/-- FRE closes the traffic (R100): one of the blocks a report may move. -/
theorem Part.sameOutside.frameEnded {q : Part} (h : q.sameOutside [.adu, .fre] p) :
    (q.mapFre Fre.afterTraffic).sameOutside [.adu, .pvw, .fre, .lif] p := by
  simp only [sameOutside, List.mem_cons] at h ⊢
  simp_all [mapFre]

/-- The Claim heard back has left the queue (R97). -/
theorem Part.windowHeard_claimGone (p : Part) : p.windowHeard.fre.ClaimGone :=
  ⟨rfl, fun _ he => (mem_dropKind.mp he).2⟩

theorem Part.OwnWindow.lineState_idle (h : p.OwnWindow node draw) : p.windowHeard.lif.lineState = .idle := by
  obtain hl | hl := h.lineState <;> simp [windowHeard, Lif.atFrameEnd, hl]

theorem Part.OwnWindow.lineAvailable (h : p.OwnWindow node draw) (hd : p.fre.duplicate = false) :
    p.windowHeard.lineAvailable = true := by
  have duplicate : p.windowHeard.fre.duplicate = false := hd
  simp [Part.lineAvailable, h.lineState_idle, duplicate]

/-- The sum is the one of the statement: the list leaves S_eff as it stood (R62, R85). -/
theorem Part.windowHeard_claimFits (draw : Nat) (p : Part) :
    p.windowHeard.claimFits draw p.fre.list = true ↔ draw + (p.fre.list.map (·.2)).sum ≤ p.pvw.sEff.getD 0 :=
  decide_eq_true_iff

/-! ## The claim that stands -/

/-- The part as the claim is granted (R62). -/
def Part.windowGranted (draw : Nat) (p : Part) : Part :=
  { p.windowHeard with adu := { p.adu.grant .holder draw with pendingKey := false } }

/-- The standing claim decided (R62, R63). -/
theorem Part.OwnWindow.claimReport_of_standing (h : p.OwnWindow node draw) (hw : p.adu.withdrawn = false) :
    p.windowHeard.claimReport (.clean draw p.fre.list) =
      if p.windowHeard.claimFits draw p.fre.list = true then (p.windowGranted draw).admitted else p.windowHeard.refused :=
  Part.claimReport_of_standing draw p.fre.list h.claiming hw p.windowHeard_claimGone

theorem Part.windowGranted_admittedAs (draw : Nat) (hc : p.lpc.committed = true) (hs : p.rsq.state = .wait) :
    (p.windowGranted draw).admitted.admittedAs (p.windowGranted draw) := admitted_admittedAs hc hs

/-- A refusal in WAIT (R63, R34, R45): what the statement says of it. -/
theorem Part.OwnWindow.refused (h : p.OwnWindow node draw) (hs : p.rsq.state = .wait) :
    p.windowHeard.refused.adu = p.adu.turnedAway ∧ p.windowHeard.refused.rsq = p.rsq
      ∧ p.windowHeard.refused.fre = p.windowHeard.fre
      ∧ p.windowHeard.refused.pcu.refusals = min 15 (p.pcu.refusals + 1)
      ∧ (∀ old, p.pcu.plan.key = some old → p.windowHeard.refused.pcu = p.windowHeard.refusalCounted.rekeyed.pcu)
      ∧ (p.pcu.plan.key = none → p.windowHeard.refused.pcu.plan = p.pcu.plan) := by
  cases hk : p.pcu.plan.key with
  | none =>
    rw [refused_of_no_key (p := p.windowHeard) h.claiming hk]
    exact ⟨rfl, rfl, rfl, rfl, nofun, fun _ => rfl⟩
  | some key =>
    rw [refused_of_key (p := p.windowHeard) h.claiming hs hk]
    exact ⟨rfl, rfl, rfl, rfl, fun _ _ => rfl, nofun⟩

/-! ## The claim that was withdrawn -/

/-- The withdrawn claim settled, before a pending seek is taken. -/
abbrev Part.windowSettled (draw : Nat) (p : Part) : Part := p.windowHeard.withdrawnSettled draw p.fre.list

theorem Part.windowSettled_of_fits (h : draw + (p.fre.list.map (·.2)).sum ≤ p.pvw.sEff.getD 0) :
    p.windowSettled draw = { p.windowHeard with
      adu := p.adu.admissionGivenUp, fre := p.windowHeard.fre.offer (.release .abandoned p.settings.node) } :=
  if_pos ((windowHeard_claimFits draw p).mpr h)

theorem Part.windowSettled_of_beyond (h : p.pvw.sEff.getD 0 < draw + (p.fre.list.map (·.2)).sum) :
    p.windowSettled draw = { p.windowHeard with adu := p.adu.claimDropped } :=
  if_neg fun hf => Nat.not_le.mpr h ((windowHeard_claimFits draw p).mp hf)

/-- Either way the marks are clear, no claim is left, and ADU and FRE alone have moved (R69). -/
theorem Part.windowSettled_spec (draw : Nat) (p : Part) :
    (p.windowSettled draw).adu.state = .none ∧ (p.windowSettled draw).adu.withdrawn = false
      ∧ (p.windowSettled draw).adu.pendingKey = false ∧ (p.windowSettled draw).adu.pendingSeek = false
      ∧ (p.windowSettled draw).fre.ClaimGone ∧ (p.windowSettled draw).sameOutside [.adu, .fre] p.windowHeard
      ∧ (p.windowSettled draw).fre.duplicate = p.fre.duplicate := by
  obtain h | h := Nat.lt_or_ge (p.pvw.sEff.getD 0) (draw + (p.fre.list.map (·.2)).sum)
  · rw [windowSettled_of_beyond h]
    exact ⟨rfl, rfl, rfl, rfl, p.windowHeard_claimGone, by simp [sameOutside], rfl⟩
  · rw [windowSettled_of_fits h]
    have gone := p.windowHeard_claimGone.offer (f := .release .abandoned p.settings.node) (by simp [Frame.kind])
    exact ⟨rfl, rfl, rfl, rfl, gone, by simp [sameOutside], by simp [windowHeard]⟩

theorem Part.OwnWindow.windowSettled_lineAvailable (h : p.OwnWindow node draw) (hd : p.fre.duplicate = false) :
    (p.windowSettled draw).lineAvailable = true := by
  obtain ⟨-, -, -, -, -, same, duplicate⟩ := p.windowSettled_spec draw
  have lif : (p.windowSettled draw).lif = p.windowHeard.lif := by simpa [sameOutside] using same.2.2.2.2.2.1
  simp [Part.lineAvailable, lif, h.lineState_idle, duplicate, hd]

/-- The withdrawn claim decided: a pending seek claims again (R70). -/
theorem Part.OwnWindow.claimReport_of_withdrawn (h : p.OwnWindow node draw) (hd : p.fre.duplicate = false)
    (hw : p.adu.withdrawn = true) :
    p.windowHeard.claimReport (.clean draw p.fre.list) =
      if p.adu.pendingSeek = true then (p.windowSettled draw).queueing true else p.windowSettled draw :=
  Part.claimReport_of_withdrawn draw p.fre.list h.claiming hw p.windowHeard_claimGone (h.lineAvailable hd)

/-- The decision on a withdrawn claim: what the statement says of it (R69, R70). -/
structure Part.WithdrawnDecided (draw : Nat) (p q : Part) : Prop where
  marks    : q.adu.withdrawn = false ∧ q.adu.pendingKey = false ∧ q.adu.pendingSeek = false
  fits     : draw + (p.fre.list.map (·.2)).sum ≤ p.pvw.sEff.getD 0 →
    q.adu.heldDraw = 0 ∧ q.adu.admittedDraw = 0 ∧ q.adu.lastRelease = some .abandoned
      ∧ ⟨.release .abandoned p.settings.node, 0⟩ ∈ q.fre.queue
  beyond   : p.pvw.sEff.getD 0 < draw + (p.fre.list.map (·.2)).sum →
    q.adu.heldDraw = p.adu.heldDraw ∧ q.adu.lastRelease = p.adu.lastRelease
  outside  : q.sameOutside [.adu, .fre] p.windowHeard

theorem Part.windowSettled_decided (draw : Nat) (p : Part) : p.WithdrawnDecided draw (p.windowSettled draw) := by
  obtain ⟨-, withdrawn, pendingKey, pendingSeek, -, outside, -⟩ := p.windowSettled_spec draw
  refine ⟨⟨withdrawn, pendingKey, pendingSeek⟩, fun h => ?_, fun h => ?_, outside⟩
  · rw [windowSettled_of_fits h]
    exact ⟨rfl, rfl, rfl, Fre.mem_offer_self rfl⟩
  · rw [windowSettled_of_beyond h]
    exact ⟨rfl, rfl⟩

/-- A pending seek keeps what was decided: it moves ADU's state and deferral limit, and queues no frame but a Claim. -/
theorem Part.WithdrawnDecided.queueing {q : Part} (h : p.WithdrawnDecided draw q) (hl : q.lineAvailable = true)
    (hf : q.fre.inFlight = none) : p.WithdrawnDecided draw (q.queueing true) := by
  obtain ⟨state, timer, adu⟩ := queueing_adu_of_available hl
  have outside := queueing_sameOutside_of_available hl
  refine ⟨by simpa [adu] using h.marks, fun hle => ?_, fun hlt => by simpa [adu] using h.beyond hlt, ?_⟩
  · obtain ⟨held, admitted, last, queued⟩ := h.fits hle
    exact ⟨by simpa [adu] using held, by simpa [adu] using admitted, by simpa [adu] using last,
      mem_queue_of_queueing hl hf queued (by simp [Frame.kind])⟩
  · exact outside.trans h.outside

/-- With a seek pending the node claims again at once, by the key of its plan and the records as the list left them (R53, R70). -/
theorem Part.OwnWindow.seeksAgain {key : Key} {q : Part} (h : p.OwnWindow node draw) (hd : p.fre.duplicate = false)
    (hw : p.adu.withdrawn = true) (hs : p.adu.pendingSeek = true) (hk : p.pcu.plan.key = some key)
    (hq : q = p.windowHeard.claimReport (.clean draw p.fre.list)) :
    (deferralAnswer (some key) q.pvw.records = true → q.adu.state = .defer ∧ q.adu.deferralTimer = .running 2500000)
      ∧ (deferralAnswer (some key) q.pvw.records = false →
          q.adu.state = .queued ∧ ⟨.claim key p.pcu.plan.draw, 0⟩ ∈ q.fre.queue) := by
  obtain ⟨idle, -, -, -, gone, outside, -⟩ := p.windowSettled_spec draw
  have available := h.windowSettled_lineAvailable hd
  have pcu : (p.windowSettled draw).pcu = p.pcu := outside.2.1 (by simp)
  have hk : (p.windowSettled draw).pcu.plan.key = some key := by rw [pcu, hk]
  rw [h.claimReport_of_withdrawn hd hw, if_pos hs] at hq
  subst hq
  rw [queueing_pvw, ← pcu]
  refine ⟨fun yes => ?_, fun no => ?_⟩
  · rw [queueing_of_available available, if_pos (by rw [hk]; exact yes)]
    simp [Adu.enterDefer, idle, Config.deferralTime, Config.ms, Config.samplesPerMs]
  · rw [queueing_of_answer_no available hk no]
    exact ⟨rfl, Fre.mem_offer_self gone.inFlight⟩

end

/-- Settles O48: the frame end hands the clean list on, and ADU decides by the sum, on a claim that stands and on one withdrawn. -/
theorem ownClaimDecidedBySum : Obligations.OwnClaimDecidedBySum := by
  refine ⟨?_, ?_⟩
  · intro s node draw hl committed traffic released dataEnd lineState retry phase role _ inFlight report claimant noPeer claiming
      standing wait fresh
    have own : s.part.OwnWindow node draw :=
      ⟨committed, traffic, released, dataEnd, lineState, retry, phase, role, inFlight, report, claimant, noPeer, claiming, fresh⟩
    refine ⟨_, exec_frameEnd_of_ownWindow hl own, rfl, rfl, rfl, ?_, ?_, ?_, fun fits => ?_, fun beyond => ?_⟩
    · rw [Part.mapFre_lif, Part.claimReport_lif]; rfl
    · rw [Part.mapFre_lif, Part.claimReport_lif]; exact own.lineState_idle
    all_goals rw [own.claimReport_of_standing standing]
    · change ∀ e ∈ (ite _ _ _ : Part).fre.queue, _
      split
      · exact ((Part.windowGranted_admittedAs draw committed wait).claimGone s.part.windowHeard_claimGone).queue
      · obtain ⟨-, -, fre, -⟩ := own.refused wait
        rw [fre]
        exact s.part.windowHeard_claimGone.queue
    · rw [if_pos ((Part.windowHeard_claimFits draw s.part).mpr fits)]
      refine ⟨_, rfl, ?_⟩
      rw [Part.mapFre_pvw, Part.mapFre_lif, Part.admitted_pvw, Part.admitted_lif]
      exact Part.windowGranted_admittedAs draw committed wait
    · rw [if_neg fun hf => Nat.not_le.mpr beyond ((Part.windowHeard_claimFits draw s.part).mp hf)]
      obtain ⟨adu, rsq, -, refusals, rekeyed, unkeyed⟩ := own.refused wait
      refine ⟨?_, ?_, ?_, ?_, refusals, rsq, ?_, rekeyed, unkeyed⟩
      all_goals rw [Part.mapFre_adu, adu]; rfl
  · intro s node draw hl committed traffic released dataEnd lineState retry duplicate phase role _ inFlight report claimant noPeer
      claiming withdrawn fresh
    have own : s.part.OwnWindow node draw :=
      ⟨committed, traffic, released, dataEnd, lineState, retry, phase, role, inFlight, report, claimant, noPeer, claiming, fresh⟩
    obtain ⟨idle, -, -, -, gone, -, -⟩ := s.part.windowSettled_spec draw
    have settled := s.part.windowSettled_decided draw
    have available := own.windowSettled_lineAvailable duplicate
    have decided : s.part.WithdrawnDecided draw (s.part.windowHeard.claimReport (.clean draw s.part.fre.list)) := by
      rw [own.claimReport_of_withdrawn duplicate withdrawn]
      split
      · exact settled.queueing available gone.inFlight
      · exact settled
    obtain ⟨hw, hk, hs⟩ := decided.marks
    refine ⟨_, exec_frameEnd_of_ownWindow hl own, hw, hk, hs, ?_, decided.fits, decided.beyond, fun calm => ?_,
      fun key again hkey =>
        own.seeksAgain (q := s.part.windowHeard.claimReport (.clean draw s.part.fre.list)) duplicate withdrawn again hkey rfl, ?_⟩
    · rw [Part.mapFre_lif, Part.claimReport_lif]; rfl
    · rw [own.claimReport_of_withdrawn duplicate withdrawn, if_neg (by simp [calm])]
      exact ⟨idle, gone.queue⟩
    · exact (decided.outside.frameEnded).trans (s.part.windowHeard_sameOutside)

end Sys2Proof.Machine
end

section
/-! PROOF. The collection of peer records (R75 to R87): what an update, a clean list, S_eff, the mismatch flag and the deferral answer
read in it. -/

namespace Sys2Proof.Machine

-- Checked one after another: side by side, each waiting proof keeps a thread of its own.
set_option Elab.async false

section
variable {n m : Node} {r : PeerRecord} {records : List PeerRecord} {f : PeerRecord → PeerRecord}

/-! ## The record of a node -/

theorem recordOf_cons (m : Node) (r : PeerRecord) (records : List PeerRecord) :
    recordOf m (r :: records) = if r.node = m then some r else recordOf m records := by
  by_cases h : r.node = m <;> simp [recordOf, h]

theorem recordOf_cons_of_ne (h : r.node ≠ m) : recordOf m (r :: records) = recordOf m records := by
  rw [recordOf_cons, if_neg h]

theorem recordOf_eq_none (h : ∀ r ∈ records, r.node ≠ n) : recordOf n records = none := by
  simpa [recordOf] using h

/-- An update leaves the records of the other nodes. -/
theorem recordOf_upsert_of_ne (hf : ∀ r, (f r).node = r.node) (h : m ≠ n) :
    recordOf m (upsert n f records) = recordOf m records := by
  have blank : (f (.blank n)).node ≠ m := by rw [hf]; exact h.symm
  induction records with
  | nil => exact recordOf_cons_of_ne blank
  | cons x xs ih =>
    unfold upsert
    split
    next hx => rw [recordOf_cons_of_ne (by rw [hf, hx]; exact h.symm), recordOf_cons_of_ne (by rw [hx]; exact h.symm)]
    next =>
      split
      next => exact recordOf_cons_of_ne blank
      next => rw [recordOf_cons, recordOf_cons, ih]

/-- An update of a node's record, or of a blank one where it has none (R75, R77). -/
theorem recordOf_upsert (h : recordsAscend records) (hf : ∀ r, (f r).node = r.node) :
    recordOf n (upsert n f records) = some (f ((recordOf n records).getD (.blank n))) := by
  have blank : (f (.blank n)).node = n := hf _
  induction records with
  | nil => rw [upsert, recordOf_cons, if_pos blank]; rfl
  | cons x xs ih =>
    obtain ⟨hx, hxs⟩ := List.pairwise_cons.mp h
    unfold upsert
    split
    next he => rw [recordOf_cons, if_pos (by rw [hf, he]), recordOf_cons, if_pos he]; rfl
    next hne =>
      rw [recordOf_cons (r := x), if_neg hne]
      split
      next hlt =>
        have absent : recordOf n xs = none := recordOf_eq_none fun y hy e => by
          have := hx y hy
          rw [e] at this; omega
        rw [recordOf_cons, if_pos blank, absent]; rfl
      next => rw [recordOf_cons, if_neg hne, ih hxs]

/-- The removal of a node's record (R76). -/
theorem recordOf_filter_of_ne (h : m ≠ n) : recordOf m (records.filter fun r => r.node != n) = recordOf m records := by
  induction records with
  | nil => rfl
  | cons x xs ih =>
    by_cases hx : x.node = n
    · rw [List.filter_cons_of_neg (by simp [hx]), ih, recordOf_cons_of_ne (by rw [hx]; exact h.symm)]
    · rw [List.filter_cons_of_pos (by simp [hx]), recordOf_cons, recordOf_cons, ih]

theorem recordOf_filter_self : recordOf n (records.filter fun r => r.node != n) = none :=
  recordOf_eq_none fun r hr => by simpa using (List.mem_filter.mp hr).2

/-! ## The entries of a clean list (R80) -/

section
variable {entries : List (Node × Nat)} {draw : Nat}

theorem applyEntries_cons (e : Node × Nat) (es : List (Node × Nat)) (records : List PeerRecord) :
    applyEntries (e :: es) records = applyEntries es (upsert e.1 (.takeHolding e.2) records) := rfl

theorem PeerRecord.takeHolding_node (draw : Nat) (r : PeerRecord) : (r.takeHolding draw).node = r.node := rfl

theorem recordOf_applyEntries_of_absent (h : ∀ e ∈ entries, e.1 ≠ m) :
    recordOf m (applyEntries entries records) = recordOf m records := by
  induction entries generalizing records with
  | nil => rfl
  | cons e es ih =>
    rw [applyEntries_cons, ih fun x hx => h x (by simp [hx]),
      recordOf_upsert_of_ne (PeerRecord.takeHolding_node _) (h e (by simp)).symm]

theorem applyEntries_ascend (h : recordsAscend records) : recordsAscend (applyEntries entries records) := by
  induction entries generalizing records with
  | nil => exact h
  | cons e es ih => exact ih (h.upsert (PeerRecord.takeHolding_node _))

/-- Each node of a list that names no node twice has the one record that its entry shows. -/
theorem recordOf_applyEntries (h : recordsAscend records) (distinct : entries.Pairwise fun a b => a.1.toNat < b.1.toNat)
    (he : (n, draw) ∈ entries) :
    recordOf n (applyEntries entries records) = some (((recordOf n records).getD (.blank n)).takeHolding draw) := by
  induction entries generalizing records with
  | nil => simp at he
  | cons e es ih =>
    obtain ⟨after, distinct⟩ := List.pairwise_cons.mp distinct
    rw [applyEntries_cons]
    rcases List.mem_cons.mp he with rfl | he
    · rw [recordOf_applyEntries_of_absent fun x hx hxn => absurd (after x hx) (by simp [hxn]),
        recordOf_upsert h (PeerRecord.takeHolding_node _)]
    · have hne : n ≠ e.1 := fun hn => absurd (after _ he) (by simp [hn])
      have ascend := h.upsert (n := e.1) (PeerRecord.takeHolding_node e.2)
      rw [ih ascend distinct he, recordOf_upsert_of_ne (PeerRecord.takeHolding_node _) hne]

end

/-! ## S_eff, the mismatch flag and the deferral answer (R85, R87) -/

theorem PeerRecord.fresh_iff (r : PeerRecord) : r.fresh = true ↔ r.age < 4 := decide_eq_true_iff

/-- The bound that one record sets on S_eff: its S echo, while it is fresh. -/
def PeerRecord.bound (r : PeerRecord) : Option Nat := if r.fresh then r.sEcho else none

theorem PeerRecord.bound_eq_some_iff {e : Nat} : r.bound = some e ↔ r.age < 4 ∧ r.sEcho = some e := by
  rw [← r.fresh_iff]
  by_cases h : r.fresh = true <;> simp [bound, h]

theorem effectiveLimit_cons (own : Nat) (r : PeerRecord) (records : List PeerRecord) :
    effectiveLimit own (r :: records) = effectiveLimit ((r.bound.map (min own)).getD own) records := by
  by_cases h : r.fresh = true <;> simp [effectiveLimit, PeerRecord.bound, h]

/-- S_eff is a lower bound of the node's own S and of the S echoes of the fresh records ... -/
theorem effectiveLimit_le (own : Nat) (records : List PeerRecord) :
    effectiveLimit own records ≤ own ∧ ∀ r ∈ records, ∀ e, r.bound = some e → effectiveLimit own records ≤ e := by
  induction records generalizing own with
  | nil => simp [effectiveLimit]
  | cons x xs ih =>
    rw [effectiveLimit_cons]
    obtain ⟨hown, hrest⟩ := ih ((x.bound.map (min own)).getD own)
    cases hb : x.bound with
    | none =>
      rw [hb] at hown hrest
      exact ⟨hown, List.forall_mem_cons.mpr ⟨by simp [hb], hrest⟩⟩
    | some b =>
      simp only [hb, Option.map_some, Option.getD_some, List.forall_mem_cons, Option.some.injEq] at hown hrest ⊢
      exact ⟨by omega, by rintro _ rfl; omega, hrest⟩

/-- ... and is one of them. -/
theorem effectiveLimit_attained (own : Nat) (records : List PeerRecord) :
    effectiveLimit own records = own ∨ ∃ r ∈ records, r.bound = some (effectiveLimit own records) := by
  induction records generalizing own with
  | nil => exact .inl rfl
  | cons x xs ih =>
    rw [effectiveLimit_cons]
    obtain he | ⟨r, hr, he⟩ := ih ((x.bound.map (min own)).getD own)
    · rw [he]
      cases hb : x.bound with
      | none => exact .inl rfl
      | some b =>
        rcases Nat.le_total own b with hle | hle
        · exact .inl (by simp [hle])
        · exact .inr ⟨x, by simp, by simp [hb, hle]⟩
    · exact .inr ⟨r, by simp [hr], he⟩

/-- An update that moves neither a record's freshness nor its S echo does not bear on S_eff. -/
theorem effectiveLimit_upsert (hf : ∀ r, (f r).bound = r.bound) (own : Nat) :
    effectiveLimit own (upsert n f records) = effectiveLimit own records := by
  have blank : (f (.blank n)).bound = none := (hf _).trans rfl
  induction records generalizing own with
  | nil => rw [upsert, effectiveLimit_cons, blank]; rfl
  | cons x xs ih =>
    unfold upsert
    split
    next => rw [effectiveLimit_cons, effectiveLimit_cons, hf]
    next =>
      split
      next => rw [effectiveLimit_cons own (f _), blank]; rfl
      next => rw [effectiveLimit_cons, effectiveLimit_cons, ih]

theorem mismatchSeen_iff (own : Nat) (records : List PeerRecord) :
    mismatchSeen own records = true ↔ ∃ p ∈ records, p.age < 4 ∧ ∃ e, p.sEcho = some e ∧ e ≠ own := by
  simp only [mismatchSeen, List.any_eq_true, Bool.and_eq_true, PeerRecord.fresh_iff]
  refine exists_congr fun p => and_congr_right fun _ => and_congr_right fun _ => ?_
  cases p.sEcho <;> simp

/-- The deferral answer is yes exactly while a better-placed peer is in view (R87). -/
theorem deferralAnswer_iff (own : Option Key) (records : List PeerRecord) : deferralAnswer own records = true ↔
    ∃ k, own = some k ∧ ∃ r ∈ records, r.age < 4 ∧ r.stateCode = 5 ∧ ∃ peer, r.key = some peer ∧ peer.toNat < k.toNat := by
  cases own with
  | none => simp [deferralAnswer]
  | some k =>
    simp only [deferralAnswer, List.any_eq_true, Option.some.injEq, exists_eq_left']
    refine exists_congr fun r => and_congr_right fun _ => ?_
    simp only [PeerRecord.betterPlaced, Bool.and_eq_true, PeerRecord.fresh_iff, beq_iff_eq, and_assoc]
    refine and_congr_right fun _ => and_congr_right fun _ => ?_
    cases r.key <;> simp

end

end Sys2Proof.Machine
end

section
/-! PROOF. What the rescue does does not turn on the traffic in progress, on the count of free choices or on the standing deferral answer:
parts that differ in these alone go on alike under the operations of RSQ, ADU and PCU (chapters 1 to 3). -/

namespace Sys2Proof.Machine

-- Checked one after another: side by side, each waiting proof keeps a thread of its own.
set_option Elab.async false

/-! ## Twins -/

/-- `q` is `p` but for FRE's traffic, the count of free choices and the standing deferral answer. With `still` nothing is in flight. -/
structure Part.Twin (still : Bool) (q p : Part) : Prop where
  rsq       : q.rsq = p.rsq
  pcu       : q.pcu = p.pcu
  adu       : q.adu = p.adu
  pvw       : q.pvw = { p.pvw with deferral := q.pvw.deferral }
  queue     : q.fre.queue = p.fre.queue
  inFlight  : q.fre.inFlight = p.fre.inFlight
  duplicate : q.fre.duplicate = p.fre.duplicate
  lif       : q.lif = p.lif
  liu       : q.liu = p.liu
  anu       : q.anu = p.anu
  lpc       : q.lpc = p.lpc
  pins      : q.pins = p.pins
  idle      : still = true → p.fre.inFlight = none

section
variable {still : Bool} {q p : Part}

/-- A twin with the same traffic and the same deferral answer is the part itself, but for the count of free choices. -/
theorem Part.Twin.calm_eq (h : q.Twin still p) (rest : q.fre.rest = p.fre.rest) (deferral : q.pvw.deferral = p.pvw.deferral) :
    { q with choices := p.choices } = p := by
  have fre : q.fre = p.fre := by
    have e : { q.fre.rest with queue := q.fre.queue, inFlight := q.fre.inFlight }
        = { p.fre.rest with queue := p.fre.queue, inFlight := p.fre.inFlight } := by rw [rest, h.queue, h.inFlight]
    exact e
  obtain ⟨rsq, pcu, adu, pvw, -, -, -, lif, liu, anu, lpc, pins, -⟩ := h
  rw [deferral] at pvw
  cases q; cases p
  simp_all

theorem Part.Twin.settings (h : q.Twin still p) : q.settings = p.settings := by rw [Part.settings, h.lpc]; rfl

theorem Part.Twin.mismatch (h : q.Twin still p) : q.pvw.mismatch = p.pvw.mismatch := congrArg (·.mismatch) h.pvw

theorem Part.Twin.records (h : q.Twin still p) : q.pvw.records = p.pvw.records := congrArg (·.records) h.pvw

theorem Part.Twin.sEff (h : q.Twin still p) : q.pvw.sEff = p.pvw.sEff := congrArg (·.sEff) h.pvw

theorem Part.Twin.lastReleased (h : q.Twin still p) : q.pvw.lastReleased = p.pvw.lastReleased := congrArg (·.lastReleased) h.pvw

theorem Part.Twin.lineAvailable (h : q.Twin still p) : q.lineAvailable = p.lineAvailable :=
  lineAvailable_congr (by rw [h.lif]) (by rw [h.adu]) h.duplicate

theorem Part.Twin.planInputs (h : q.Twin still p) : q.planInputs = p.planInputs := by
  simp only [Part.planInputs, h.liu, h.pcu, h.sEff, h.lastReleased]

theorem Part.Twin.buildPresence (h : q.Twin still p) : q.buildPresence = p.buildPresence := by
  simp only [Part.buildPresence, ownNode, h.lpc, h.rsq, h.adu, h.pcu, h.mismatch, h.settings]

/-! ## Updates of one block -/

theorem Part.Twin.mapRsq (h : q.Twin still p) (f : Rsq → Rsq) : (q.mapRsq f).Twin still (p.mapRsq f) :=
  { h with rsq := congrArg f h.rsq }

theorem Part.Twin.mapPcu (h : q.Twin still p) (f : Pcu → Pcu) : (q.mapPcu f).Twin still (p.mapPcu f) :=
  { h with pcu := congrArg f h.pcu }

theorem Part.Twin.mapAdu (h : q.Twin still p) (f : Adu → Adu) : (q.mapAdu f).Twin still (p.mapAdu f) :=
  { h with adu := congrArg f h.adu }

theorem Part.Twin.mapAnu (h : q.Twin still p) (f : Anu → Anu) : (q.mapAnu f).Twin still (p.mapAnu f) :=
  { h with anu := congrArg f h.anu }

/-- The deferral answer taken anew is the same for twins. -/
theorem Part.Twin.answered (h : q.Twin still p) : q.answered.Twin still p.answered :=
  { h with pvw := congrArg (fun v => { v with deferral := deferralAnswer q.pcu.plan.key q.pvw.records }) h.pvw }

/-- A twin stays one whatever its deferral answer. -/
theorem Part.Twin.of_answered (h : q.Twin still p) : q.answered.Twin still p :=
  { h with pvw := congrArg (fun v => { v with deferral := deferralAnswer q.pcu.plan.key q.pvw.records }) h.pvw }

theorem Part.Twin.choose (h : q.Twin still p) : q.choose.2.Twin still p := { h with }

/-- FRE closes the traffic (R100); nothing is in flight. -/
theorem Part.Twin.atFrameEnd (h : q.Twin true p) : (q.mapFre Fre.atFrameEnd).Twin true p :=
  { h with inFlight := (h.idle rfl).symm }

/-! ## The queue -/

theorem Fre.flying_congr {a b : Fre} (h : a.inFlight = b.inFlight) (k : FrameKind) : a.flying k = b.flying k := by
  rw [Fre.flying, Fre.flying, h]

/-- What FRE's queue and the entry in flight are read for: parts of the record that an offer moves alike. -/
structure Fre.SameQueue (still : Bool) (a b : Fre) : Prop where
  queue     : a.queue = b.queue
  inFlight  : a.inFlight = b.inFlight
  duplicate : a.duplicate = b.duplicate
  idle      : still = true → b.inFlight = none

section
variable {a b : Fre}

theorem Fre.SameQueue.hold (h : a.SameQueue still b) (x : HeldOffer) : (a.hold x).SameQueue still (b.hold x) where
  queue := h.queue
  inFlight := by simp only [Fre.hold, h.inFlight]
  duplicate := h.duplicate
  idle hs := by simp only [Fre.hold, h.idle hs, Option.map_none]

theorem Fre.SameQueue.removeKind (h : a.SameQueue still b) (k : FrameKind) :
    (a.removeKind k).SameQueue still (b.removeKind k) := by
  unfold Fre.removeKind
  rw [flying_congr h.inFlight]
  split
  · exact h.hold _
  · exact { h with queue := congrArg (dropKind k) h.queue }

theorem Fre.SameQueue.put (h : a.SameQueue still b) (f : Frame) : (a.put f).SameQueue still (b.put f) := by
  unfold Fre.put
  rw [flying_congr h.inFlight]
  split
  · exact h.hold _
  · exact { h with queue := congrArg (enqueue f) h.queue }

theorem Fre.SameQueue.offer (h : a.SameQueue still b) (f : Frame) : (a.offer f).SameQueue still (b.offer f) := by
  unfold Fre.offer
  split
  · exact ((h.put f).removeKind _).removeKind _
  all_goals exact h.put f

end

theorem Part.Twin.sameQueue (h : q.Twin still p) : q.fre.SameQueue still p.fre := ⟨h.queue, h.inFlight, h.duplicate, h.idle⟩

theorem Part.Twin.mapFre (h : q.Twin still p) (f : Fre → Fre) (hf : (f q.fre).SameQueue still (f p.fre)) :
    (q.mapFre f).Twin still (p.mapFre f) :=
  { h with queue := hf.queue, inFlight := hf.inFlight, duplicate := hf.duplicate, idle := hf.idle }

theorem Part.Twin.offer (h : q.Twin still p) (f : Frame) : (q.mapFre (Fre.offer f)).Twin still (p.mapFre (Fre.offer f)) :=
  h.mapFre _ (h.sameQueue.offer f)

theorem Part.Twin.removeKind (h : q.Twin still p) (k : FrameKind) :
    (q.mapFre (Fre.removeKind k)).Twin still (p.mapFre (Fre.removeKind k)) :=
  h.mapFre _ (h.sameQueue.removeKind k)

theorem Part.Twin.offerPresence (h : q.Twin still p) : q.offerPresence.Twin still p.offerPresence := by
  unfold Part.offerPresence
  rw [h.buildPresence]
  split
  · exact h.offer _
  · exact h

theorem Part.Twin.offerClaim (h : q.Twin still p) : q.offerClaim.Twin still p.offerClaim := by
  unfold Part.offerClaim
  rw [h.pcu]
  split
  · exact h.offer _
  · exact h

theorem Part.Twin.claimQueued (h : q.Twin still p) (key : Key) : (q.claimQueued key).Twin still (p.claimQueued key) := by
  have draw : q.pcu.plan.draw = p.pcu.plan.draw := by rw [h.pcu]
  have claim := (h.offer (.claim key p.pcu.plan.draw)).mapAdu fun a => { a with state := .queued, deferralTimer := .stopped }
  unfold Part.claimQueued
  rw [draw]
  exact claim

/-- The key composed anew is the same for twins (R45). -/
theorem Part.Twin.rekeyed (h : q.Twin still p) : q.rekeyed.Twin still p.rekeyed :=
  { h with
    pcu := by simp only [Part.rekeyed, h.pcu, h.settings, h.lastReleased]
    pvw := congrArg (fun v => { v with deferral := q.rekeyed.pvw.deferral }) h.pvw }

/-! ## Entries (chapter 1) -/

theorem Part.Twin.changeState (h : q.Twin still p) (new : RescueState) : (q.changeState new).Twin still (p.changeState new) := by
  unfold Part.changeState
  dsimp only
  rw [h.rsq]
  exact (((h.mapRsq _).mapPcu _).mapAnu _).offerPresence

theorem Part.Twin.enterAtRest (h : q.Twin still p) (new : RescueState) : (q.enterAtRest new).Twin still (p.enterAtRest new) :=
  (h.mapRsq _).changeState new

theorem Part.Twin.requestPhrase (h : q.Twin still p) (ev : Announcement) :
    (q.requestPhrase ev).Twin still (p.requestPhrase ev) := by
  unfold Part.requestPhrase
  rw [h.settings, h.rsq]
  exact h.mapAnu _

theorem Part.Twin.enterVerify (h : q.Twin still p) : q.enterVerify.Twin still p.enterVerify := by
  unfold Part.enterVerify
  rw [h.settings]
  exact (h.enterAtRest _).mapRsq _

theorem Part.Twin.enterWatch (h : q.Twin still p) : q.enterWatch.Twin still p.enterWatch := by
  have watch := (h.enterAtRest .watch).mapPcu fun c => { c with waitSeconds := 0, refusals := 0, loadOverride := false }
  unfold Part.enterWatch
  dsimp only
  rw [watch.liu]
  split
  · exact watch.enterVerify
  · exact watch

theorem Part.Twin.ended (h : q.Twin still p) (o : ReleaseOutcome) : (q.ended o).Twin still (p.ended o) := by
  have bare := h.mapAdu fun a => { a with
    state := .none, heldDraw := 0, admittedDraw := 0, retryTimer := .stopped, deferralTimer := .stopped, lastRelease := some o }
  unfold Part.ended
  dsimp only
  rw [h.adu, bare.lineAvailable, bare.settings]
  split
  · split
    · exact bare.offer _
    · exact bare
  · exact h

theorem Part.Twin.enterLanded (h : q.Twin still p) : q.enterLanded.Twin still p.enterLanded := by
  have landed := (h.ended .landed).enterAtRest .landed
  unfold Part.enterLanded
  dsimp only
  rw [landed.liu]
  split
  · exact landed.enterWatch
  · exact landed

theorem Part.Twin.enterDoors (h : q.Twin still p) : q.enterDoors.Twin still p.enterDoors := by
  have doors := ((h.enterAtRest .doors).requestPhrase .doors).mapRsq fun r =>
    { r with doorTimer := .running (Config.ms (1000 * p.settings.doorTimeout)) }
  unfold Part.enterDoors
  dsimp only
  rw [h.settings, doors.liu]
  split
  · exact doors.enterLanded
  · exact doors

theorem Part.Twin.enterProbe (h : q.Twin still p) : q.enterProbe.Twin still p.enterProbe := by
  unfold Part.enterProbe
  rw [h.pcu]
  exact ((h.mapRsq _).changeState _).mapRsq _

theorem Part.Twin.takeMoving (h : q.Twin still p) (report : Option MovingReport) :
    (q.takeMoving report).Twin still (p.takeMoving report) := by
  have marked := h.mapRsq fun r => { r with voiceUnavailable := true }
  cases report with
  | none => exact h
  | some report =>
    simp only [Part.takeMoving, Part.movingReport, h.rsq, marked.rsq]
    split
    · cases report with
      | completed => exact h.enterProbe
      | unavailable =>
        dsimp only
        split
        · exact marked.enterProbe
        · exact marked
    · exact h

theorem Part.Twin.enterWarn (h : q.Twin still p) : q.enterWarn.Twin still p.enterWarn := by
  have warn := (h.enterAtRest .warn).mapRsq fun r => { r with voiceUnavailable := false, gateTimer := .running Config.gateTime }
  have asked (anu : Anu) (report : Option MovingReport) := (warn.mapAnu fun _ => anu).takeMoving report
  unfold Part.enterWarn
  dsimp only
  rw [warn.anu, warn.settings]
  exact asked _ _

theorem Part.Twin.enterBlocked (h : q.Twin still p) (cause : Cause) : (q.enterBlocked cause).Twin still (p.enterBlocked cause) :=
  ((h.enterAtRest _).mapRsq _).requestPhrase _

theorem Part.Twin.withdraw (h : q.Twin still p) : q.withdraw.Twin still p.withdraw := by
  unfold Part.withdraw
  rw [h.adu]
  split
  · exact h
  · exact h.mapAdu _
  · exact (h.removeKind _).mapAdu _
  · exact h.mapAdu _
  · exact h.ended _
  · exact h.ended _

theorem Part.Twin.withdrawToBlocked (h : q.Twin still p) (cause : Cause) :
    (q.withdrawToBlocked cause).Twin still (p.withdrawToBlocked cause) := h.withdraw.enterBlocked cause

/-! ## The admission of a claim (chapter 3) -/

theorem Part.Twin.admitted (h : q.Twin still p) : q.admitted.Twin still p.admitted := by
  unfold Part.admitted
  rw [h.rsq, h.pcu]
  repeat' split
  · exact h.enterDoors
  · exact h.enterWarn
  · exact h

theorem Part.Twin.lineBlocked (h : q.Twin still p) : q.lineBlocked.Twin still p.lineBlocked := by
  unfold Part.lineBlocked
  rw [h.rsq]
  split
  · exact h.enterBlocked _
  · exact h

theorem Part.Twin.soloRule (h : q.Twin still p) : q.soloRule.Twin still p.soloRule := by
  have gone := h.removeKind .claim
  unfold Part.soloRule
  dsimp only
  rw [gone.pcu, gone.settings]
  split
  · exact (gone.mapAdu _).admitted
  · exact (gone.mapAdu _).lineBlocked

theorem Part.Twin.queueing (h : q.Twin still p) (asked : Bool) : (q.queueing asked).Twin still (p.queueing asked) := by
  unfold Part.queueing
  rw [h.lineAvailable, h.records, h.pcu]
  repeat' split
  · exact h.soloRule
  · exact h.mapAdu _
  · exact h.offerClaim.mapAdu _

theorem Part.Twin.seek (h : q.Twin still p) : q.seek.Twin still p.seek := by
  unfold Part.seek
  rw [h.adu]
  repeat' split
  · exact h.queueing true
  · exact h.mapAdu _
  all_goals exact h

theorem Part.Twin.enterWait (h : q.Twin still p) (confirm : Bool) : (q.enterWait confirm).Twin still (p.enterWait confirm) := by
  have wait := h.enterAtRest .wait
  unfold Part.enterWait
  dsimp only
  split
  · exact (wait.requestPhrase _).seek
  · exact wait.seek

/-! ## PCU's plan and key (chapter 2), outside DEFER -/

theorem Part.Twin.requestPlan (h : q.Twin still p) (hd : p.adu.state ≠ .defer) : q.requestPlan.Twin still p.requestPlan := by
  rw [requestPlan_eq (p := q) (by rw [h.adu]; exact hd), requestPlan_eq hd, h.settings, h.planInputs]
  exact (h.mapPcu fun c => { c with plan := p.settings.makePlan p.planInputs }).answered

theorem Part.Twin.replanBlocked (h : q.Twin still p) (hd : p.adu.state ≠ .defer) :
    q.replanBlocked.Twin still p.replanBlocked := by
  have planned := h.requestPlan hd
  unfold Part.replanBlocked
  dsimp only
  rw [planned.pcu]
  split
  · exact planned.mapRsq _
  · exact planned.enterWait false

theorem Part.Twin.recomputeKey (h : q.Twin still p) (hd : p.adu.state ≠ .defer) : q.recomputeKey.Twin still p.recomputeKey := by
  have plan : q.rekeyedPlan = p.rekeyedPlan := by simp only [Part.rekeyedPlan, h.pcu, h.settings, h.lastReleased]
  have keyed := h.mapPcu fun c => { c with plan := p.rekeyedPlan }
  have settled {a b : Part} (t : a.Twin still b) (hb : b.adu.state ≠ .defer) :
      a.reevaluateDeferral.Twin still b.reevaluateDeferral := by
    rw [reevaluateDeferral_of_not_defer (by rw [t.adu]; exact hb), reevaluateDeferral_of_not_defer hb]
    exact t.answered
  unfold Part.recomputeKey
  dsimp only
  rw [h.rsq, h.pcu, plan, keyed.adu]
  split
  · split
    · exact settled keyed.offerClaim (by simpa using hd)
    · exact settled (keyed.mapAdu _) hd
    all_goals exact settled keyed hd
  · exact h

end

end Sys2Proof.Machine
end

section
/-! PROOF. A new S_eff taken by the rescue (R42, R86, R17, R14), and the ages of the records (R76, R85, R87). -/

namespace Sys2Proof.Machine

-- Checked one after another: side by side, each waiting proof keeps a thread of its own.
set_option Elab.async false

section
variable {still : Bool} {P p q b : Part}

/-! ## A waiting claim withdrawn, and a block that clears (R13, R14, R17, R68) -/

/-- A withdrawal by a node that holds nothing: the Claim leaves the queue, and ADU's record follows its state (R68, R69). -/
theorem Part.withdraw_eq (hn : p.adu.isHolder = false) :
    p.withdraw = { p with
      adu := p.adu.afterWithdraw, fre := if p.adu.state = .queued then p.fre.removeKind .claim else p.fre } := by
  unfold withdraw Adu.afterWithdraw
  cases hs : p.adu.state
  case holder | solo => simp [Adu.isHolder, hs] at hn
  all_goals simp [mapAdu, mapFre, hs]

theorem Adu.afterWithdraw_isHolder {a : Adu} (hn : a.isHolder = false) : a.afterWithdraw.isHolder = false := by
  unfold afterWithdraw
  split <;> simp_all [isHolder]

theorem Adu.afterWithdraw_not_defer (a : Adu) : a.afterWithdraw.state ≠ .defer := by
  unfold afterWithdraw
  split <;> simp_all

/-- WAIT is left for BLOCKED (R13, R17): the withdrawal, then the entry. -/
theorem Part.withdrawToBlocked_withdrawsAs (cause : Cause) (hc : p.lpc.committed = true) (hs : p.rsq.state = .wait)
    (hn : p.adu.isHolder = false) : (p.withdrawToBlocked cause).withdrawsAs cause p := by
  unfold withdrawToBlocked
  rw [withdraw_eq hn]
  generalize hw : ({ p with
      adu := p.adu.afterWithdraw, fre := if p.adu.state = .queued then p.fre.removeKind .claim else p.fre } : Part) = w
  obtain ⟨rsq, pcu, fre, anu, -⟩ := enterBlocked_blocksAs (p := w) cause (hw ▸ hc) (.inl (by rw [← hw]; simp [hs]))
    (hw ▸ Adu.afterWithdraw_isHolder hn)
  have timer : w.waitTimerKept = p.pcu.waitTimer := by rw [← hw]; simp [waitTimerKept, hs]
  rw [timer] at pcu
  subst hw
  exact ⟨rsq, enterBlocked_adu .., fre, anu, by simp [sameOutside, pcu]⟩

/-- A clearing event in BLOCKED of a node that does not defer (R14): for a node that holds power, too, the plan is a new one, and its block
cause replaces the recorded one. -/
theorem Part.replanBlocked_replansBlockedAs_of_not_defer (hc : p.lpc.committed = true) (hs : p.rsq.state = .blocked)
    (hd : p.adu.state ≠ .defer) : p.replanBlocked.replansBlockedAs p := by
  by_cases hn : p.adu.state = .none ∨ p.adu.state = .claiming
  · exact replanBlocked_replansBlockedAs hc hs hn
  · unfold replanBlocked replansBlockedAs
    rw [requestPlan_eq hd]
    generalize p.settings.makePlan p.planInputs = plan
    refine ⟨?_, fun hb => ?_, fun hb => ?_, fun _ h => absurd (.inl h) hn, fun _ h _ => absurd (.inr h) hn⟩
    · dsimp only
      split <;> simp
    all_goals
      simp only [show (p.planned plan).pcu.plan.blockCause = plan.blockCause from rfl] at hb ⊢
      simp only [hb, BlockCause.recorded]
      rfl

theorem Part.replanBlocked_plan (p : Part) : p.replanBlocked.pcu.plan = p.requestPlan.pcu.plan := by
  unfold replanBlocked
  dsimp only
  split <;> simp

theorem Part.requestPlan_plan (p : Part) : p.requestPlan.pcu.plan = p.settings.makePlan p.planInputs := by
  unfold requestPlan reevaluateDeferral
  dsimp only
  split <;> simp

/-- A new plan leaves the view with the deferral answer for its key. -/
theorem Part.replanBlocked_deferral (p : Part) :
    p.replanBlocked.pvw.deferral = deferralAnswer p.replanBlocked.pcu.plan.key p.replanBlocked.pvw.records := by
  rw [replanBlocked_plan, requestPlan_plan, replanBlocked_pvw]

/-! ## The deferral answer where it stands already -/

@[simp] theorem Part.reevaluateDeferral_plan (p : Part) : p.reevaluateDeferral.pcu.plan = p.pcu.plan := by
  unfold reevaluateDeferral
  dsimp only
  split <;> simp

theorem Part.reevaluateDeferral_deferral (p : Part) :
    p.reevaluateDeferral.pvw.deferral = deferralAnswer p.reevaluateDeferral.pcu.plan.key p.reevaluateDeferral.pvw.records := by
  rw [reevaluateDeferral_plan, reevaluateDeferral_pvw]

theorem Part.answered_of_deferral (h : p.pvw.deferral = deferralAnswer p.pcu.plan.key p.pvw.records) : p.answered = p := by
  unfold answered
  rw [← h]

/-- An answer that stands already does not turn. -/
theorem Part.reevaluateDeferral_of_deferral (h : p.pvw.deferral = deferralAnswer p.pcu.plan.key p.pvw.records) :
    p.reevaluateDeferral = p := by
  rw [reevaluateDeferral_eq, answered_of_deferral h, if_neg]
  rintro ⟨hy, hn, -⟩
  simp [hy] at hn

/-! ## S_eff and the mismatch flag as the records have them (R85) -/

/-- The part whose view holds S_eff and the mismatch flag for the records as they stand. -/
def Part.limited (p : Part) : Part :=
  { p with pvw := { p.pvw with
      sEff := some (effectiveLimit p.settings.storeLimit p.pvw.records), mismatch := mismatchSeen p.settings.storeLimit p.pvw.records } }

theorem Part.recomputeLimit_eq (p : Part) :
    p.recomputeLimit = if p.limited.pvw.sEff = p.pvw.sEff then p.limited else p.limited.limitChanged := by
  have changed : (p.pvw.sEff != p.limited.pvw.sEff) = true ↔ ¬ p.limited.pvw.sEff = p.pvw.sEff := by
    rw [bne_iff_ne, ne_comm]
  change (if (p.pvw.sEff != p.limited.pvw.sEff) = true then p.limited.limitChanged else p.limited) = _
  rw [if_congr changed rfl rfl, ite_not]

/-- Of the view a new S_eff moves at most the deferral answer, by a new plan. -/
theorem Part.limitChanged_pvw (p : Part) : ∃ d, p.limitChanged.pvw = { p.pvw with deferral := d } := by
  unfold limitChanged clears
  dsimp only
  repeat' split
  all_goals
    try simp only [choose_pvw, replanBlocked_pvw, withdrawToBlocked_pvw, mapPcu_pvw]
    exact ⟨_, rfl⟩

theorem Part.recomputeLimit_pvw (p : Part) : ∃ d, p.recomputeLimit.pvw = { p.limited.pvw with deferral := d } := by
  rw [recomputeLimit_eq]
  split
  · exact ⟨_, rfl⟩
  · exact p.limited.limitChanged_pvw

/-! ## A new S_eff, case by case (R42, R86, R14) -/

/-- The claim that waits lies beyond S_eff (R42). -/
def Part.beyondLimit (p : Part) : Prop := p.rsq.state = .wait ∧ p.pvw.sEff.getD 0 < p.pcu.plan.draw

/-- The part whose waiting claim is withdrawn for a plan that the new S_eff has made infeasible (R42, R17). -/
def Part.limitWithdrawn (p : Part) : Part :=
  (p.mapPcu fun c => { c with plan := { c.plan with blockCause := .infeasible } }).withdrawToBlocked .infeasible

theorem Part.limitChanged_of_beyond (h : p.beyondLimit) :
    p.limitChanged = p.limitWithdrawn.choose.2 ∨ p.limitChanged = p.limitWithdrawn.choose.2.replanBlocked := by
  unfold limitChanged
  simp only [h.1, h.2, if_true]
  by_cases even : p.limitWithdrawn.choose.1 % 2 = 0
  · exact .inl (if_pos even)
  · exact .inr (if_neg even)

theorem Part.limitChanged_of_cleared (hs : p.rsq.state = .blocked) (hi : p.rsq.cause = .infeasible) :
    p.limitChanged = p.replanBlocked := by
  simp [limitChanged, clears, hs, hi]

theorem Part.limitChanged_of_settled (hb : ¬ p.beyondLimit) (hi : ¬ (p.rsq.state = .blocked ∧ p.rsq.cause = .infeasible)) :
    p.limitChanged = p := by
  unfold limitChanged clears
  split
  next hs => exact if_neg fun hd => hb ⟨hs, hd⟩
  next => exact if_neg fun ⟨hs, hc⟩ => hi ⟨hs, by simpa using hc⟩

theorem Part.Twin.limitWithdrawn (h : q.Twin still p) : q.limitWithdrawn.Twin still p.limitWithdrawn :=
  (h.mapPcu _).withdrawToBlocked _

theorem Part.limitWithdrawn_withdrawsAs (hc : p.lpc.committed = true) (hs : p.rsq.state = .wait) (hn : p.adu.isHolder = false) :
    p.limitWithdrawn.withdrawsAs .infeasible
      { p with pcu := { p.pcu with plan := { p.pcu.plan with blockCause := .infeasible } } } :=
  withdrawToBlocked_withdrawsAs (p := p.mapPcu _) .infeasible hc hs hn

/-! ## What stands of a part once the view's own events are over -/

/-- `q` is what the part `x` has become once its traffic is closed, seen from `p`: a twin of every twin of `x`, with FRE's record at rest
as `p` has it, and the view and its deferral answer as in `p`. -/
structure Part.Closed (still : Bool) (x q p : Part) : Prop where
  keeps    : ∀ y, x.Twin still y → q.Twin still y
  rest     : q.fre.rest = p.fre.rest
  view     : p.pvw = q.pvw
  deferral : q.pvw.deferral = deferralAnswer q.pcu.plan.key q.pvw.records

/-- What a part has become is any part of which it is a twin, if FRE's rest and the deferral answer agree. -/
theorem Part.Closed.calm_eq {y : Part} (h : P.Closed still q p) (twin : P.Twin still y) (rest : y.fre.rest = p.fre.rest)
    (deferral : y.pvw.deferral = q.pvw.deferral) : { q with choices := y.choices } = y :=
  (h.keeps y twin).calm_eq (h.rest.trans rest.symm) deferral.symm

theorem Part.Closed.calm_eq_of_answer {y : Part} (h : P.Closed still q p) (twin : P.Twin still y)
    (rest : y.fre.rest = p.fre.rest) (deferral : y.pvw.deferral = deferralAnswer y.pcu.plan.key y.pvw.records) :
    { q with choices := y.choices } = y := by
  have hq := h.keeps y twin
  exact h.calm_eq twin rest (by rw [deferral, h.deferral, hq.pcu, hq.records])

theorem Part.eq_of_calm {y : Part} (h : { q with choices := y.choices } = y) (choices : q.choices = y.choices) : q = y := by
  rw [← h, ← choices]

/-- A new plan in BLOCKED is told but for the count of free choices. -/
theorem Part.replansBlockedAs.of_calm {y : Part} (h : y.replansBlockedAs b) (calm : { q with choices := y.choices } = y) :
    q.replansBlockedAs b := by
  have told : ({ q with choices := y.choices } : Part).replansBlockedAs b := by rw [calm]; exact h
  exact told

/-! ## The rescue takes a new S_eff (R42, R86) -/

theorem Part.limitWithdrawn_not_defer (hn : p.adu.isHolder = false) : p.limitWithdrawn.adu.state ≠ .defer := by
  rw [limitWithdrawn, withdrawToBlocked, enterBlocked_adu, withdraw_eq (by exact hn)]
  exact Adu.afterWithdraw_not_defer _

theorem Part.Closed.limitTakenAs (h : P.limitChanged.reevaluateDeferral.Closed still q p) (twin : P.Twin still p)
    (hc : p.lpc.committed = true) (hd : p.adu.state = .defer → p.beyondLimit)
    (hh : p.adu.isHolder = false ∨ p.rsq.state ≠ .wait) (choices : P.choices = p.choices)
    (choices' : q.choices = P.limitChanged.choices) : q.limitTakenAs p := by
  have beyond : P.beyondLimit ↔ p.beyondLimit := by simp only [beyondLimit, twin.rsq, twin.sEff, twin.pcu]
  have replanned {y : Part} (hy : P.limitChanged.Twin still y.replanBlocked)
      (hP : P.limitChanged.pvw.deferral = deferralAnswer P.limitChanged.pcu.plan.key P.limitChanged.pvw.records)
      (rest : y.fre.rest = p.fre.rest) : { q with choices := y.replanBlocked.choices } = y.replanBlocked := by
    rw [reevaluateDeferral_of_deferral hP] at h
    exact h.calm_eq_of_answer hy (by simpa using rest) (replanBlocked_deferral y)
  refine ⟨fun hb => ?_, fun ⟨hs, hi⟩ => ?_, fun hb hi => ?_⟩
  · have hn : p.adu.isHolder = false := hh.resolve_right fun h => h hb.1
    have hnd := limitWithdrawn_not_defer hn
    have blocked := twin.limitWithdrawn.choose
    have rest : p.limitWithdrawn.fre.rest = p.fre.rest := by simp [limitWithdrawn]
    refine ⟨_, limitWithdrawn_withdrawsAs hc hb.1 hn, ?_⟩
    obtain e | e := limitChanged_of_beyond (beyond.mpr hb)
    · left
      rw [e, reevaluateDeferral_of_not_defer (by rw [blocked.adu]; exact hnd)] at h
      have calm := h.calm_eq blocked.of_answered rest (by rw [← h.view]; simp [limitWithdrawn])
      exact congrArg (fun r : Part => { r with choices := q.choices }) calm
    · right
      refine (replanBlocked_replansBlockedAs_of_not_defer ?_ ?_ hnd).of_calm (replanned ?_ ?_ rest)
      · simpa [limitWithdrawn] using hc
      · simp [limitWithdrawn]
      · rw [e]; exact blocked.replanBlocked hnd
      · rw [e]; exact replanBlocked_deferral _
  · have hnd : p.adu.state ≠ .defer := fun e => by simpa [hs] using (hd e).1
    have e := limitChanged_of_cleared (p := P) (by rw [twin.rsq]; exact hs) (by rw [twin.rsq]; exact hi)
    refine (replanBlocked_replansBlockedAs_of_not_defer hc hs hnd).of_calm (replanned ?_ ?_ rfl)
    · rw [e]; exact twin.replanBlocked hnd
    · rw [e]; exact replanBlocked_deferral _
  · have hnd : P.adu.state ≠ .defer := by rw [twin.adu]; exact fun e => hb (hd e)
    have e := limitChanged_of_settled (p := P) (mt beyond.mp hb) (by rw [twin.rsq]; exact hi)
    rw [e, reevaluateDeferral_of_not_defer hnd] at h
    rw [e, choices] at choices'
    exact eq_of_calm (h.calm_eq twin.of_answered rfl (by rw [h.view])) choices'

/-! ## The deferral answer turns in DEFER (R87, R55) -/

@[simp] theorem Part.claimQueued_rest (key : Key) (p : Part) : (p.claimQueued key).fre.rest = p.fre.rest := by
  simp [claimQueued]

/-- The standing answer taken anew in DEFER, once the traffic is closed. -/
theorem Part.Closed.answerTakenAs (h : P.reevaluateDeferral.Closed still q p) (twin : P.Twin still p)
    (hd : p.adu.state = .defer) (choices : P.choices = p.choices) (choices' : q.choices = P.choices) :
    q.answerTakenAs P.pvw.deferral p := by
  have choices : q.choices = p.choices := choices'.trans choices
  have twin' := twin.of_answered
  have answer : P.answered.pvw.deferral = p.pvw.deferral := by
    have plan : q.pcu.plan = p.pcu.plan := by
      rw [reevaluateDeferral_eq] at h
      split at h
      · rw [(h.keeps _ (twin'.queueing true)).pcu, queueing_plan]
      · rw [(h.keeps _ twin').pcu]
    rw [h.view, h.deferral, ← h.view, plan, ← twin.pcu, ← twin.records]
    rfl
  have stood (hs : P.pvw.deferral = false ∨ p.pvw.deferral = true) : P.reevaluateDeferral = P.answered := by
    rw [reevaluateDeferral_eq, if_neg]
    rintro ⟨hy, hn, -⟩
    rw [answer] at hn
    simp [hy, hn] at hs
  have turned (hy : P.pvw.deferral = true) (hn : p.pvw.deferral = false) : P.reevaluateDeferral = P.answered.queueing true := by
    rw [reevaluateDeferral_eq, if_pos ⟨hy, answer.trans hn, by rw [twin.adu]; exact hd⟩]
  refine ⟨fun hs => ?_, fun hy hn hl key hk => ?_, fun hy hn hl hb hs => ?_⟩
  · rw [stood hs] at h
    exact eq_of_calm (h.calm_eq twin' rfl (by rw [h.view])) choices
  · have queued : P.answered.queueing true = P.answered.claimQueued key := by
      refine queueing_of_answer_no (by rw [twin'.lineAvailable]; exact hl) (by rw [twin'.pcu]; exact hk) ?_
      rw [← hk, ← twin.pcu]
      exact answer.trans hn
    rw [turned hy hn, queued] at h
    exact eq_of_calm (h.calm_eq (twin'.claimQueued key) (by simp) (by rw [← h.view]; rfl)) choices
  · rw [turned hy hn, queueing_of_unavailable true (by rw [twin'.lineAvailable]; exact hl)] at h
    have solo := h.keeps _ twin'.soloRule
    rw [solo.rsq, solo.adu]
    exact soloRule_of_beyond hb hs

/-! ## S_eff, the mismatch flag and the deferral answer follow the records (R85, R86, R87) -/

/-- The records moved, and what is read in them is taken anew: an S_eff that stands moves nothing of the rescue, a new one is taken, and in
DEFER a claim that S_eff leaves standing follows the deferral answer. -/
theorem Part.Closed.limitRecomputed (h : P.recomputeLimit.reevaluateDeferral.Closed still q p) (twin : P.limited.Twin still p)
    (hc : p.lpc.committed = true) (choices : P.choices = p.choices) (choices' : q.choices = P.recomputeLimit.choices) :
    (q.pvw.sEff = P.pvw.sEff → p.adu.state ≠ .defer → q = p)
      ∧ (q.pvw.sEff ≠ P.pvw.sEff → (p.adu.state = .defer → p.beyondLimit) →
          p.adu.isHolder = false ∨ p.rsq.state ≠ .wait → q.limitTakenAs p)
      ∧ (p.adu.state = .defer → p.rsq.state = .wait → p.pcu.plan.draw ≤ q.pvw.sEff.getD 0 →
          q.answerTakenAs P.pvw.deferral p) := by
  have sEff : q.pvw.sEff = P.limited.pvw.sEff := by rw [← h.view, twin.sEff]
  rw [sEff]
  rw [recomputeLimit_eq] at h choices'
  refine ⟨fun he hd => ?_, fun he hd hh => ?_, fun hd hs hle => ?_⟩
  · rw [if_pos he] at h choices'
    rw [reevaluateDeferral_of_not_defer (by rw [twin.adu]; exact hd)] at h
    exact eq_of_calm (h.calm_eq twin.of_answered rfl (by rw [h.view])) (choices'.trans choices)
  · rw [if_neg he] at h choices'
    exact h.limitTakenAs twin hc hd hh choices choices'
  · have settled : P.limited.limitChanged = P.limited := by
      refine limitChanged_of_settled (fun hb => ?_) fun hb => ?_
      · have := hb.2
        rw [twin.pcu] at this
        omega
      · have := hb.1
        rw [twin.rsq, hs] at this
        cases this
    rw [settled, ite_self] at h choices'
    exact h.answerTakenAs twin hd choices choices'

end

end Sys2Proof.Machine
end

section
/-! PROOF. The ages of the records (R76, R85, R87): a record goes stale, and is removed (O34). -/

namespace Sys2Proof.Machine

-- Checked one after another: side by side, each waiting proof keeps a thread of its own.
set_option Elab.async false

section
variable {node : Node} {r : PeerRecord} {p : Part}

/-! ## The events of a record's age -/

theorem PeerRecord.reaches_iff {age : Nat} : r.reaches age = true ↔ r.age + 1 = age ∧ 250000 ≤ r.ageClock := by
  have second : Config.secondTime = 250000 := by decide
  simp [reaches, second]

/-- The record whose fourth second is complete (R76). -/
def PeerRecord.staled (r : PeerRecord) : PeerRecord := { r with age := 4, ageClock := 0 }

/-- The part as the node's record turns stale, before the view takes its records anew. -/
def Part.recordStaled (node : Node) (p : Part) : Part :=
  p.mapPvw fun v => { v with records := upsert node PeerRecord.staled v.records }

/-- The part as the node's record is removed. -/
def Part.recordDropped (node : Node) (p : Part) : Part :=
  p.mapPvw fun v => { v with records := v.records.filter fun r => r.node != node }

theorem Part.recordReachesStale_of_due (h : recordOf node p.pvw.records = some r) (age : r.age = 3) (clock : 250000 ≤ r.ageClock) :
    p.recordReachesStale node = (p.recordStaled node).recomputeLimit.reevaluateDeferral := by
  unfold recordReachesStale
  simp only [h]
  exact if_pos (PeerRecord.reaches_iff.mpr ⟨by rw [age]; rfl, clock⟩)

theorem Part.recordReachesStale_of_not_due (h : recordOf node p.pvw.records = some r) (due : r.age ≠ 3 ∨ r.ageClock < 250000) :
    p.recordReachesStale node = p := by
  unfold recordReachesStale
  simp only [h]
  refine if_neg fun hr => ?_
  obtain ⟨age, clock⟩ := PeerRecord.reaches_iff.mp hr
  have : Config.staleAge = 4 := rfl
  omega

theorem Part.recordReachesRemoval_of_due (h : recordOf node p.pvw.records = some r) (age : r.age = 29)
    (clock : 250000 ≤ r.ageClock) : p.recordReachesRemoval node = (p.recordDropped node).reevaluateDeferral := by
  unfold recordReachesRemoval
  simp only [h]
  exact if_pos (PeerRecord.reaches_iff.mpr ⟨by rw [age]; rfl, clock⟩)

theorem Part.recordReachesRemoval_of_not_due (h : recordOf node p.pvw.records = some r)
    (due : r.age ≠ 29 ∨ r.ageClock < 250000) : p.recordReachesRemoval node = p := by
  unfold recordReachesRemoval
  simp only [h]
  refine if_neg fun hr => ?_
  obtain ⟨age, clock⟩ := PeerRecord.reaches_iff.mp hr
  have : Config.removalAge = 30 := rfl
  omega

theorem exec_recordStale {s : State} (hw : s.working) (node : Node) :
    exec (.recordStale node) s = .next { s with part := s.part.recordReachesStale node } := by
  change s.run (Part.recordReachesStale node) = _
  rw [State.run_eq, Part.whenWorking_of_high _ _ hw]

theorem exec_recordRemoved {s : State} (hw : s.working) (node : Node) :
    exec (.recordRemoved node) s = .next { s with part := s.part.recordReachesRemoval node } := by
  change s.run (Part.recordReachesRemoval node) = _
  rw [State.run_eq, Part.whenWorking_of_high _ _ hw]

/-! ## The view after its records are taken anew -/

/-- The view once S_eff, the mismatch flag and the deferral answer have been taken anew from the records (R85, R87). -/
theorem Part.limitRecomputed_pvw (p : Part) : ∃ d, p.recomputeLimit.reevaluateDeferral.pvw = { p.pvw with
    sEff := some (effectiveLimit p.settings.storeLimit p.pvw.records)
    mismatch := mismatchSeen p.settings.storeLimit p.pvw.records, deferral := d } := by
  obtain ⟨d, h⟩ := p.recomputeLimit_pvw
  rw [reevaluateDeferral_pvw, h]
  exact ⟨_, rfl⟩

/-- Where nothing but the view's own events follows, the part is closed as they leave it. -/
theorem Part.Closed.of_view {x : Part} (rest : x.fre.rest = p.fre.rest) :
    x.reevaluateDeferral.Closed false x.reevaluateDeferral { p with pvw := x.reevaluateDeferral.pvw } :=
  ⟨fun _ h => h, by simpa using rest, rfl, reevaluateDeferral_deferral x⟩

/-- The smallest of the node's own S and the S echoes of the fresh records, by its bounds. -/
theorem effectiveLimit_spec (own : Nat) (records : List PeerRecord) :
    effectiveLimit own records ≤ own
      ∧ (∀ p ∈ records, p.age < 4 → ∀ e, p.sEcho = some e → effectiveLimit own records ≤ e)
      ∧ (effectiveLimit own records = own ∨ ∃ p ∈ records, p.age < 4 ∧ p.sEcho = some (effectiveLimit own records)) := by
  obtain ⟨le_own, le_echo⟩ := effectiveLimit_le own records
  have attained := effectiveLimit_attained own records
  simp only [PeerRecord.bound_eq_some_iff] at le_echo attained
  exact ⟨le_own, fun p hp age e he => le_echo p hp e ⟨age, he⟩, attained⟩

end

/-- Settles O34: the stale record moves S_eff, the mismatch flag and the deferral answer, which the rescue takes by
`Part.Closed.limitRecomputed`; the removed one the deferral answer alone. -/
theorem recordsAge : Obligations.RecordsAge := by
  refine ⟨deferralAnswer_iff, fun s node r hw fit hr => ⟨fun age clock => ?_, fun age clock => ?_, fun due => ?_, fun due => ?_⟩⟩
  · refine ⟨_, exec_recordStale hw node, ?_⟩
    rw [Part.recordReachesStale_of_due hr age clock]
    obtain ⟨P, hP⟩ : ∃ P, P = s.part.recordStaled node := ⟨_, rfl⟩
    rw [← hP]
    obtain ⟨d, view⟩ := P.limitRecomputed_pvw
    have records : P.pvw.records = upsert node PeerRecord.staled s.part.pvw.records := by rw [hP]; rfl
    have own : P.settings = s.part.settings := by rw [hP]; rfl
    have kept (r : PeerRecord) : r.staled.node = r.node := rfl
    obtain ⟨q, hq⟩ : ∃ q, q = P.recomputeLimit.reevaluateDeferral := ⟨_, rfl⟩
    rw [← hq] at view ⊢
    have qRecords : q.pvw.records = upsert node PeerRecord.staled s.part.pvw.records := by rw [view, ← records]
    have qLimit : q.pvw.sEff = some (effectiveLimit s.part.settings.storeLimit q.pvw.records) := by rw [view, own]
    have qMismatch : q.pvw.mismatch = mismatchSeen s.part.settings.storeLimit q.pvw.records := by rw [view, own]
    refine ⟨?_, fun m hm => ?_, ?_, ⟨_, qLimit, effectiveLimit_spec _ _⟩, ?_, fun hc p hp => ⟨?_, ?_⟩⟩
    · rw [qRecords, recordOf_upsert fit kept, hr]; rfl
    · rw [qRecords, recordOf_upsert_of_ne kept hm]
    · change recordsAscend _
      rw [qRecords]
      exact recordsAscend.upsert fit kept
    · rw [qMismatch]; exact mismatchSeen_iff _ _
    · rw [hq]; exact Part.reevaluateDeferral_deferral _
    · have closed : P.recomputeLimit.reevaluateDeferral.Closed false q p := by
        rw [hp, hq]
        exact Part.Closed.of_view (by rw [hP]; simp [Part.recordStaled])
      have twin : P.limited.Twin false p := by
        rw [hp, hP]
        refine ⟨rfl, rfl, rfl, ?_, rfl, rfl, rfl, rfl, rfl, rfl, rfl, rfl, nofun⟩
        rw [view, hP]; rfl
      have hpc : P.choices = p.choices := by rw [hP, hp]; rfl
      have taken := closed.limitRecomputed twin (by rw [hp]; exact hc) hpc (by rw [hq]; simp)
      rw [hp] at taken ⊢
      rw [hP] at taken
      exact taken
  · refine ⟨_, exec_recordRemoved hw node, ?_⟩
    rw [Part.recordReachesRemoval_of_due hr age clock]
    obtain ⟨P, hP⟩ : ∃ P, P = s.part.recordDropped node := ⟨_, rfl⟩
    rw [← hP]
    have records : P.pvw.records = s.part.pvw.records.filter fun r => r.node != node := by rw [hP]; rfl
    refine ⟨?_, fun m hm => ?_, ?_, ?_, fun p hp => ⟨fun hd => ?_, fun hc hd hs => ?_⟩⟩
    · rw [Part.reevaluateDeferral_pvw, records]; exact recordOf_filter_self
    · rw [Part.reevaluateDeferral_pvw, records]; exact recordOf_filter_of_ne hm
    · rw [Part.reevaluateDeferral_pvw, hP]; rfl
    · rw [Part.reevaluateDeferral_pvw, hP]; rfl
    · rw [hp, Part.reevaluateDeferral_of_not_defer (by rw [hP]; exact hd), hP]; rfl
    · have closed : P.reevaluateDeferral.Closed false P.reevaluateDeferral p := by
        rw [hp]
        exact Part.Closed.of_view (by rw [hP]; rfl)
      have twin : P.Twin false p := by
        rw [hp, hP]
        refine ⟨rfl, rfl, rfl, ?_, rfl, rfl, rfl, rfl, rfl, rfl, rfl, rfl, nofun⟩
        rw [Part.reevaluateDeferral_pvw]
      have taken := closed.answerTakenAs twin (by rw [hp]; exact hd) (by rw [hP, hp]; rfl) (by simp)
      rw [hP] at taken ⊢
      exact taken
  · rw [exec_recordStale hw, Part.recordReachesStale_of_not_due hr due]
  · rw [exec_recordRemoved hw, Part.recordReachesRemoval_of_not_due hr due]

end Sys2Proof.Machine
end

section
/-! PROOF. What a peer's frame makes of the view (R78, R82, R83, R84), and the orders in which it and the retry trigger are taken (R55). -/

namespace Sys2Proof.Machine

-- Checked one after another: side by side, each waiting proof keeps a thread of its own.
set_option Elab.async false

/-! ## The record under a frame -/

/-- What a frame makes of its sender's record (R78, R79, R82, R83). -/
def Frame.onRecord : Frame → PeerRecord → PeerRecord
  | .release o _ => .takeRelease o
  | .adjust _ d => .takeHolding d
  | .claim k _ => .takeClaim k
  | .presence _ b => .takePresence b

/-- The last-released node after a frame (R84). -/
def Frame.lastReleased (old : Node) : Frame → Node
  | .release _ n => n
  | .adjust .. | .claim .. | .presence .. => old

theorem Frame.onRecord_node (f : Frame) (r : PeerRecord) : (f.onRecord r).node = r.node := by
  cases f <;> rfl

theorem Frame.onRecord_age (f : Frame) (r : PeerRecord) : (f.onRecord r).age = 0 := by
  cases f <;> rfl

/-- The part whose view has taken a frame over its sender's record and its last-released node, and nothing more yet. -/
def Part.viewed (f : Frame) (p : Part) : Part :=
  p.mapPvw fun v => { v with records := upsert f.node f.onRecord v.records, lastReleased := f.lastReleased v.lastReleased }

section
variable {p q : Part} {f : Frame}

/-! ## The view after a frame -/

theorem Part.recomputeKey_pvw (p : Part) : ∃ d, p.recomputeKey.pvw = { p.pvw with deferral := d } := by
  unfold recomputeKey
  dsimp only
  repeat' split
  all_goals
    try simp only [reevaluateDeferral_pvw, offerClaim_pvw, mapAdu_pvw, mapPcu_pvw]
    exact ⟨_, rfl⟩

theorem Part.setLastReleased_pvw (n : Node) (p : Part) :
    ∃ d, (p.setLastReleased n).pvw = { p.pvw with lastReleased := n, deferral := d } := by
  unfold setLastReleased
  split
  next h => exact ⟨p.pvw.deferral, by rw [← h]⟩
  next => exact recomputeKey_pvw _

/-- An update of a record: S_eff and the mismatch flag stand or are taken anew, as they are in any case where `always` says so. -/
theorem Part.updateRecord_pvw (n : Node) (g : PeerRecord → PeerRecord) (always : Bool) (p : Part) :
    ∃ e m d, (p.updateRecord n g always).pvw =
        { p.pvw with records := upsert n g p.pvw.records, sEff := e, mismatch := m, deferral := d }
      ∧ (always = true → e = some (effectiveLimit p.settings.storeLimit (upsert n g p.pvw.records))) := by
  unfold updateRecord
  dsimp only
  split
  next =>
    obtain ⟨d, h⟩ := (p.mapPvw fun v => { v with records := upsert n g v.records }).recomputeLimit_pvw
    exact ⟨_, _, d, h, fun _ => rfl⟩
  next h => exact ⟨_, _, _, rfl, fun ha => absurd (by simp [ha]) h⟩

/-- In service a frame that is no CLAIM moves its sender's record and the last-released node; S_eff and the mismatch flag may follow, and do
after a PRESENCE. -/
theorem Part.peerFrame_pvw (hc : p.lpc.committed = true) (hf : f.kind ≠ .claim) :
    ∃ e m d, (p.peerFrame f).pvw = { (p.viewed f).pvw with sEff := e, mismatch := m, deferral := d }
      ∧ (f.kind = .presence → e = some (effectiveLimit p.settings.storeLimit (p.viewed f).pvw.records)) := by
  unfold peerFrame
  rw [if_pos hc]
  cases f with
  | claim k u => exact absurd rfl hf
  | presence n b =>
    obtain ⟨e, m, d, h, he⟩ := p.updateRecord_pvw n (.takePresence b) true
    simp only [reevaluateDeferral_pvw, h]
    exact ⟨e, m, _, rfl, fun _ => he rfl⟩
  | adjust n d =>
    obtain ⟨e, m, d, h, -⟩ := p.updateRecord_pvw n (.takeHolding d) false
    simp only [reevaluateDeferral_pvw, h]
    exact ⟨e, m, _, rfl, fun h => by simp [Frame.kind] at h⟩
  | release o n =>
    obtain ⟨e, m, d, h, -⟩ := p.updateRecord_pvw n (.takeRelease o) false
    obtain ⟨d, h'⟩ := (p.updateRecord n (.takeRelease o) false).setLastReleased_pvw n
    simp only [reevaluateDeferral_pvw, h', h]
    exact ⟨e, m, _, rfl, fun h => by simp [Frame.kind] at h⟩

/-- A frame leaves the view with the deferral answer as it is by then (R87). -/
theorem Part.peerFrame_deferral (hc : p.lpc.committed = true) (f : Frame) :
    (p.peerFrame f).pvw.deferral = deferralAnswer (p.peerFrame f).pcu.plan.key (p.peerFrame f).pvw.records := by
  unfold peerFrame
  rw [if_pos hc]
  split <;> exact reevaluateDeferral_deferral _

/-- A PRESENCE is taken over the record, and S_eff is taken anew (R78). -/
theorem Part.peerFrame_presence (hc : p.lpc.committed = true) (hf : f.kind = .presence) :
    p.peerFrame f = (p.viewed f).recomputeLimit.reevaluateDeferral := by
  unfold peerFrame
  rw [if_pos hc]
  cases f with
  | presence n b => rfl
  | release o n | adjust n d | claim k u => simp [Frame.kind] at hf

/-! ## A frame of a peer that is not stale (R82, R83, R84) -/

/-- A RELEASE moves the last-released node while the key is in place: PCU recomputes it (R84, R45). -/
def Part.moves (f : Frame) (p : Part) : Prop :=
  f.kind = .release ∧ f.node ≠ p.pvw.lastReleased ∧ (p.rsq.state = .wait ∨ p.rsq.state = .blocked) ∧ p.pcu.plan.key ≠ none

theorem Part.updateRecord_of_fresh {n : Node} (h : isStale n p.pvw.records = false) (g : PeerRecord → PeerRecord) :
    p.updateRecord n g false = p.mapPvw fun v => { v with records := upsert n g v.records } := by
  simp [updateRecord, h]

theorem Part.setLastReleased_of_ne {n : Node} (h : p.pvw.lastReleased ≠ n) :
    p.setLastReleased n = (p.mapPvw fun v => { v with lastReleased := n }).recomputeKey := if_neg h

theorem Part.setLastReleased_of_eq {n : Node} (h : p.pvw.lastReleased = n) :
    p.setLastReleased n = p.mapPvw fun v => { v with lastReleased := n } := by
  rw [setLastReleased, if_pos h, ← h]; rfl

/-- PCU recomputes the key in WAIT and BLOCKED while the plan has one (R45). -/
theorem Part.recomputeKey_eq (hs : p.rsq.state = .wait ∨ p.rsq.state = .blocked) (hk : p.pcu.plan.key ≠ none) :
    p.recomputeKey = (match p.adu.state with
      | .queued => (p.mapPcu fun c => { c with plan := p.rekeyedPlan }).offerClaim
      | .claiming => (p.mapPcu fun c => { c with plan := p.rekeyedPlan }).mapAdu fun a => { a with pendingKey := true }
      | .none | .defer | .holder | .solo => p.mapPcu fun c => { c with plan := p.rekeyedPlan }).reevaluateDeferral := by
  have waiting : p.rsq.state.waiting = true := by obtain h | h := hs <;> rw [h] <;> rfl
  exact if_pos ⟨waiting, Option.isSome_iff_ne_none.mpr hk⟩

theorem Part.recomputeKey_deferral (hs : p.rsq.state = .wait ∨ p.rsq.state = .blocked) (hk : p.pcu.plan.key ≠ none) :
    p.recomputeKey.pvw.deferral = deferralAnswer p.recomputeKey.pcu.plan.key p.recomputeKey.pvw.records := by
  rw [recomputeKey_eq hs hk]
  exact reevaluateDeferral_deferral _

/-- The key moves with the last-released node. -/
theorem Part.peerFrame_of_moves (hc : p.lpc.committed = true) (fresh : isStale f.node p.pvw.records = false) (hm : p.moves f) :
    p.peerFrame f = (p.viewed f).recomputeKey := by
  obtain ⟨hk, hn, hs, hkey⟩ := hm
  cases f with
  | adjust n d | claim k u | presence n b => simp [Frame.kind] at hk
  | release o n =>
    unfold peerFrame
    rw [if_pos hc]
    dsimp only
    rw [updateRecord_of_fresh (n := n) fresh, setLastReleased_of_ne (by exact hn.symm)]
    exact reevaluateDeferral_of_deferral (recomputeKey_deferral (p := p.viewed (.release o n)) hs hkey)

/-- The key stands: only the deferral answer is taken anew. -/
theorem Part.peerFrame_of_still (hc : p.lpc.committed = true) (fresh : isStale f.node p.pvw.records = false)
    (hk : f.kind = .release ∨ f.kind = .adjust) (hm : ¬ p.moves f) : p.peerFrame f = (p.viewed f).reevaluateDeferral := by
  unfold peerFrame
  rw [if_pos hc]
  cases f with
  | claim k u | presence n b => simp [Frame.kind] at hk
  | adjust n d => dsimp only; rw [updateRecord_of_fresh (n := n) fresh]; rfl
  | release o n =>
    dsimp only
    rw [updateRecord_of_fresh (n := n) fresh]
    by_cases hn : p.pvw.lastReleased = n
    · rw [setLastReleased_of_eq (by exact hn)]; rfl
    · rw [setLastReleased_of_ne (by exact hn), recomputeKey_of_idle]
      · rfl
      · by_contra hidle
        rw [not_or, not_and_or, not_not, not_not] at hidle
        exact hm ⟨rfl, Ne.symm hn, hidle⟩

/-- S_eff and the mismatch flag stand. -/
theorem Part.peerFrame_pvw_of_fresh (hc : p.lpc.committed = true) (fresh : isStale f.node p.pvw.records = false)
    (hk : f.kind = .release ∨ f.kind = .adjust) : ∃ d, (p.peerFrame f).pvw = { (p.viewed f).pvw with deferral := d } := by
  by_cases hm : p.moves f
  · rw [peerFrame_of_moves hc fresh hm]
    exact recomputeKey_pvw _
  · rw [peerFrame_of_still hc fresh hk hm, reevaluateDeferral_pvw]
    exact ⟨_, rfl⟩

/-! ## Outside WAIT, BLOCKED and DEFER the view alone moves -/

theorem Part.recomputeLimit_of_idle (hw : p.rsq.state ≠ .wait) (hb : p.rsq.state ≠ .blocked) : p.recomputeLimit = p.limited := by
  have stands : p.limited.limitChanged = p.limited :=
    limitChanged_of_settled (fun h => hw h.1) fun h => hb h.1
  rw [recomputeLimit_eq, stands, ite_self]

theorem Part.updateRecord_of_idle (hw : p.rsq.state ≠ .wait) (hb : p.rsq.state ≠ .blocked) (n : Node) (g : PeerRecord → PeerRecord)
    (always : Bool) : ∃ v, p.updateRecord n g always = { p with pvw := v } := by
  unfold updateRecord
  dsimp only
  split
  · exact ⟨_, recomputeLimit_of_idle (by exact hw) (by exact hb)⟩
  · exact ⟨_, rfl⟩

theorem Part.peerFrame_of_idle (hw : p.rsq.state ≠ .wait) (hb : p.rsq.state ≠ .blocked) (hd : p.adu.state ≠ .defer) (f : Frame) :
    p.peerFrame f = { p with pvw := (p.peerFrame f).pvw } := by
  suffices h : ∃ v, p.peerFrame f = { p with pvw := v } by
    obtain ⟨v, h⟩ := h
    rw [h]
  have answered (v : Pvw) : ∃ v', ({ p with pvw := v } : Part).reevaluateDeferral = { p with pvw := v' } :=
    ⟨_, reevaluateDeferral_of_not_defer (by exact hd)⟩
  unfold peerFrame
  split
  · cases f with
    | presence n b | adjust n b =>
      dsimp only
      obtain ⟨v, h⟩ := updateRecord_of_idle hw hb n _ _
      rw [h]
      exact answered v
    | claim k u =>
      obtain ⟨v, h⟩ := updateRecord_of_idle (p := p.mapPvw fun v => { v with claim := some (Frame.node (.claim k u), u) }) hw hb
        (Frame.node (.claim k u)) (.takeClaim k) false
      dsimp only
      rw [h]
      exact answered v
    | release o n =>
      obtain ⟨v, h⟩ := updateRecord_of_idle hw hb n (.takeRelease o) false
      dsimp only
      rw [h]
      by_cases hn : v.lastReleased = n
      · rw [setLastReleased_of_eq (by exact hn)]
        exact answered _
      · rw [setLastReleased_of_ne (by exact hn), recomputeKey_of_idle (.inl ⟨by exact hw, by exact hb⟩)]
        exact answered _
  · exact ⟨_, rfl⟩

/-! ## The frame and the retry trigger, in either order (R55, R83) -/

@[simp] theorem Part.lineTest_rest (p : Part) : p.lineTest.fre.rest = p.fre.rest := by
  unfold lineTest
  split <;> simp
@[simp] theorem Part.retryTrigger_rest (p : Part) : p.retryTrigger.fre.rest = p.fre.rest := by
  unfold retryTrigger
  split <;> simp
@[simp] theorem Part.retryTrigger_plan (p : Part) : p.retryTrigger.pcu.plan = p.pcu.plan := by
  unfold retryTrigger lineTest
  repeat' split
  all_goals simp

/-- A free order of two events is one of the two, with the choice counted. -/
theorem takeUnordered_pair {α : Type} (act : α → Part → Part) (a b : α) (p : Part) :
    takeUnordered act [a, b] p = act b (act a p.choose.2) ∨ takeUnordered act [a, b] p = act a (act b p.choose.2) := by
  have orders (n : Nat) : arrange 2 n [a, b] = [a, b] ∨ arrange 2 n [a, b] = [b, a] := by
    obtain h | h : n % 2 = 0 ∨ n % 2 = 1 := by omega
    · left; simp [arrange, pick, h, Nat.mod_one]
    · right; simp [arrange, pick, h, Nat.mod_one]
  have fold : takeUnordered act [a, b] p = (arrange 2 p.choose.1 [a, b]).foldl (fun p e => act e p) p.choose.2 := rfl
  rw [fold]
  obtain h | h := orders p.choose.1 <;> rw [h]
  · exact .inl rfl
  · exact .inr rfl

/-- A RELEASE or ADJUST of a peer: the view first, or the trigger first; the count of free choices may have moved. -/
theorem Part.peerFrameHeard_orders (hk : f.kind = .release ∨ f.kind = .adjust) (p : Part) :
    ∃ n, p.peerFrameHeard f = (({ p with choices := n } : Part).peerFrame f).retryTrigger
      ∨ p.peerFrameHeard f = (({ p with choices := n } : Part).retryTrigger).peerFrame f := by
  have orders := takeUnordered_pair (fun first (p : Part) => if first then p.peerFrame f else p.retryTrigger) true false p
  have direct : ∃ n, (p.peerFrame f).retryTrigger = (({ p with choices := n } : Part).peerFrame f).retryTrigger
      ∨ (p.peerFrame f).retryTrigger = (({ p with choices := n } : Part).retryTrigger).peerFrame f := ⟨p.choices, .inl rfl⟩
  unfold peerFrameHeard
  obtain h | h := hk
  all_goals
    rw [h]
    dsimp only
    split
    · exact ⟨_, orders⟩
    · exact direct

/-- Where no claim waits and RSQ is not in BLOCKED the two are taken in turn. -/
theorem Part.peerFrameHeard_of_idle (hw : p.rsq.state ≠ .wait) (hb : p.rsq.state ≠ .blocked) (hn : p.adu.state = .none)
    (f : Frame) : p.peerFrameHeard f = { p with pvw := (p.peerFrame f).pvw } := by
  have frame := peerFrame_of_idle hw hb (by simp [hn]) f
  have settled : (p.peerFrame f).retryTrigger = p.peerFrame f := retryTrigger_of_settled (by rw [frame]; simp [hn])
  have direct : ¬ (p.adu.state = .defer ∨ p.adu.state = .queued ∨ p.rsq.state = .blocked) := by simp [hn, hb]
  unfold peerFrameHeard
  rw [← frame, if_neg direct, settled]
  split <;> rfl

theorem Part.peerFrameHeard_pvw_of_fresh (hc : p.lpc.committed = true) (fresh : isStale f.node p.pvw.records = false)
    (hk : f.kind = .release ∨ f.kind = .adjust) : ∃ d, (p.peerFrameHeard f).pvw = { (p.viewed f).pvw with deferral := d } := by
  obtain ⟨n, h | h⟩ := p.peerFrameHeard_orders hk <;> rw [h]
  · rw [retryTrigger_pvw]
    exact peerFrame_pvw_of_fresh (p := { p with choices := n }) hc fresh hk
  · have view := peerFrame_pvw_of_fresh (p := ({ p with choices := n } : Part).retryTrigger) (by simpa using hc)
      (by simpa using fresh) hk
    simp only [viewed, mapPvw_pvw, retryTrigger_pvw] at view
    exact view

/-- In either order the view and the frame engine's rest end alike. -/
theorem Part.peerFrameHeard_view (hc : p.lpc.committed = true) (hf : f.kind ≠ .claim) :
    (∃ e m d, (p.peerFrameHeard f).pvw = { (p.viewed f).pvw with sEff := e, mismatch := m, deferral := d }
      ∧ (f.kind = .presence → e = some (effectiveLimit p.settings.storeLimit (p.viewed f).pvw.records)))
    ∧ (p.peerFrameHeard f).pvw.deferral
        = deferralAnswer (p.peerFrameHeard f).pcu.plan.key (p.peerFrameHeard f).pvw.records
    ∧ (p.peerFrameHeard f).fre.rest = p.fre.rest := by
  by_cases hk : f.kind = .release ∨ f.kind = .adjust
  · obtain ⟨n, h | h⟩ := p.peerFrameHeard_orders hk <;> rw [h]
    · have frame := peerFrame_pvw (p := { p with choices := n }) hc hf
      have answer := peerFrame_deferral (p := { p with choices := n }) hc f
      simp only [retryTrigger_pvw, retryTrigger_plan, retryTrigger_rest, peerFrame_rest]
      exact ⟨frame, answer, trivial⟩
    · have hc' : ({ p with choices := n } : Part).retryTrigger.lpc.committed = true := by simpa using hc
      have frame := peerFrame_pvw hc' hf
      have answer := peerFrame_deferral hc' f
      simp only [viewed, mapPvw_pvw, retryTrigger_pvw, settings, retryTrigger_lpc] at frame
      exact ⟨frame, answer, by simp⟩
  · have hp : p.peerFrameHeard f = p.peerFrame f := by
      unfold peerFrameHeard
      cases f <;> simp [Frame.kind] at hk ⊢
    rw [hp]
    exact ⟨peerFrame_pvw hc hf, peerFrame_deferral hc f, peerFrame_rest ..⟩

end

end Sys2Proof.Machine
end

section
/-! PROOF. A waiting claim at a peer's RELEASE or ADJUST (R45, R55, R57, R59, R84): the key that moves, the retry trigger in DEFER, and the
line test. -/

namespace Sys2Proof.Machine

-- Checked one after another: side by side, each waiting proof keeps a thread of its own.
set_option Elab.async false

section
variable {p q u x y : Part} {f : Frame} {key : Key}

/-! ## Where the trigger has no effect -/

/-- No claim waits in DEFER, and one in QUEUED finds the line available: a retry trigger has no effect (R55, R57). -/
def Part.untriggered (p : Part) : Prop :=
  p.adu.state ∉ [AdmissionState.defer, .queued] ∨ p.adu.state = .queued ∧ p.lineAvailable = true

theorem Part.untriggered.retryTrigger (h : p.untriggered) : p.retryTrigger = p := by
  obtain h | ⟨hs, hl⟩ := h
  · exact retryTrigger_of_settled h
  · rw [retryTrigger_of_queued hs, lineTest_of_available hl]

theorem Part.untriggered.not_defer (h : p.untriggered) : p.adu.state ≠ .defer := by
  obtain h | ⟨h, -⟩ := h
  · exact fun hd => h (by simp [hd])
  · simp [h]

/-- Outside DEFER a new key moves at most ADU's mark of a pending key. -/
theorem Part.recomputeKey_adu (hd : p.adu.state ≠ .defer) : ∃ b, p.recomputeKey.adu = { p.adu with pendingKey := b } := by
  by_cases h : (p.rsq.state = .wait ∨ p.rsq.state = .blocked) ∧ p.pcu.plan.key ≠ none
  · rw [recomputeKey_eq h.1 h.2, reevaluateDeferral_of_not_defer]
    · simp only [answered]
      split
      · exact ⟨_, offerClaim_adu _⟩
      · exact ⟨_, rfl⟩
      all_goals exact ⟨_, rfl⟩
    · split
      · rw [offerClaim_adu]; exact hd
      all_goals exact hd
  · have idle : p.rsq.state ≠ .wait ∧ p.rsq.state ≠ .blocked ∨ p.pcu.plan.key = none := by
      rwa [not_and_or, not_or, not_not] at h
    exact ⟨_, by rw [recomputeKey_of_idle idle]⟩

theorem Part.untriggered.recomputeKey (h : p.untriggered) : p.recomputeKey.untriggered := by
  obtain ⟨b, adu⟩ := recomputeKey_adu h.not_defer
  have available : p.recomputeKey.lineAvailable = p.lineAvailable :=
    lineAvailable_congr (by simp) (by rw [adu]) (Fre.duplicate_of_rest (recomputeKey_rest p))
  unfold untriggered at h ⊢
  rw [available, adu]
  exact h

theorem Part.untriggered.peerFrame (h : p.untriggered) (hc : p.lpc.committed = true)
    (fresh : isStale f.node p.pvw.records = false) (hk : f.kind = .release ∨ f.kind = .adjust) : (p.peerFrame f).untriggered := by
  have viewed : (p.viewed f).untriggered := h
  by_cases hm : p.moves f
  · rw [peerFrame_of_moves hc fresh hm]
    exact viewed.recomputeKey
  · rw [peerFrame_of_still hc fresh hk hm, reevaluateDeferral_of_not_defer viewed.not_defer]
    exact viewed

/-- A frame of a peer that is not stale, where the trigger has no effect: the view alone takes it, in either order. -/
theorem Part.untriggered.peerFrameHeard (h : p.untriggered) (hc : p.lpc.committed = true)
    (fresh : isStale f.node p.pvw.records = false) (hk : f.kind = .release ∨ f.kind = .adjust) :
    ∃ n, p.peerFrameHeard f = ({ p with choices := n } : Part).peerFrame f := by
  obtain ⟨n, e⟩ := p.peerFrameHeard_orders hk
  have chosen : ({ p with choices := n } : Part).untriggered := h
  refine ⟨n, ?_⟩
  obtain e | e := e
  · rw [e, (chosen.peerFrame hc fresh hk).retryTrigger]
  · rw [e, chosen.retryTrigger]

/-! ## The trigger in DEFER, on a line that is available -/

/-- The view first: the answer turned is a trigger itself, and one that stands leaves it to the trigger. -/
theorem Part.trigger_after_view (was : Bool) (hd : u.adu.state = .defer) (hl : u.lineAvailable = true) :
    u.reevaluateDeferral.retryTrigger.triggeredAs was u.answered := by
  intro key hk
  have yes (h : u.answered.pvw.deferral = true) : u.reevaluateDeferral.retryTrigger = u.answered := by
    have stands : u.reevaluateDeferral = u.answered := by
      rw [reevaluateDeferral_eq, if_neg]
      rintro ⟨-, hn, -⟩
      simp [h] at hn
    rw [stands, retryTrigger_of_defer (by exact hd), queueing_of_answer_yes (p := u.answered) hd hl hk (by rw [← hk]; exact h)]
  have no (h : u.answered.pvw.deferral = false) : u.reevaluateDeferral.retryTrigger = u.answered.claimQueued key := by
    have queued : u.answered.queueing true = u.answered.claimQueued key := queueing_of_answer_no hl hk (by rw [← hk]; exact h)
    have settled : (u.answered.claimQueued key).retryTrigger = u.answered.claimQueued key := by
      refine Part.untriggered.retryTrigger (.inr ⟨rfl, ?_⟩)
      rw [← hl]
      exact lineAvailable_congr rfl rfl (Fre.duplicate_of_rest (claimQueued_rest key u.answered))
    rw [reevaluateDeferral_eq]
    split
    · rw [queued, settled]
    · rw [retryTrigger_of_defer (by exact hd), queued]
  exact ⟨no, fun h _ => yes h, fun h _ => .inl (yes h)⟩

/-- The trigger first: an answer of no has the Claim queued by the old view, which the view then brings to the new key; an answer of yes
leaves it to the view. -/
theorem Part.view_after_trigger (hd : y.adu.state = .defer) (hl : y.lineAvailable = true)
    (stands : y.pvw.deferral = deferralAnswer y.pcu.plan.key y.pvw.records) (frame : y.peerFrame f = u.reevaluateDeferral)
    (hu : u.adu.state = .defer) (hul : u.lineAvailable = true) (was : u.pvw.deferral = y.pvw.deferral)
    (keyed : y.pcu.plan.key = none → u.pcu.plan.key = none)
    (queued : ∀ old key, y.pcu.plan.key = some old → u.pcu.plan.key = some key →
      (y.claimQueued old).peerFrame f = u.answered.claimQueued key) :
    (y.retryTrigger.peerFrame f).triggeredAs y.pvw.deferral u.answered := by
  intro key hk
  have hk : u.pcu.plan.key = some key := hk
  have hkey : y.pcu.plan.key ≠ none := fun h => by simp [keyed h] at hk
  obtain ⟨old, hold⟩ := Option.ne_none_iff_exists'.mp hkey
  rw [hold] at stands
  rw [retryTrigger_of_defer hd]
  cases hy : y.pvw.deferral
  · have claimed := queueing_of_answer_no hl hold (stands.symm.trans hy)
    rw [claimed, queued old key hold hk]
    exact ⟨fun _ => rfl, nofun, fun _ _ => .inr rfl⟩
  · have kept := queueing_of_answer_yes hd hl hold (stands.symm.trans hy)
    rw [kept, frame, reevaluateDeferral_eq]
    refine ⟨fun hn => ?_, fun h _ => ?_, nofun⟩
    · rw [if_pos ⟨was.trans hy, hn, hu⟩]
      exact queueing_of_answer_no hul hk (by rw [← hk]; exact hn)
    · rw [if_neg]
      rintro ⟨-, hn, -⟩
      simp [h] at hn

/-- A second offer of a Claim takes the place of the first, where nothing is in flight (R91). -/
theorem Fre.offer_claim_claim {r : Fre} (h : r.inFlight = none) (k k' : Key) (d : Nat) :
    (r.offer (.claim k d)).offer (.claim k' d) = r.offer (.claim k' d) := by
  have gone (e : Entry) (queue : List Entry) (he : e.frame.kind = .claim) :
      dropKind .claim (insertEntry e queue) = dropKind .claim queue := by
    induction queue with
    | nil => simp [insertEntry, dropKind, he]
    | cons x xs ih =>
      unfold insertEntry
      split
      · simp [dropKind, he]
      · simp only [dropKind, List.filter_cons] at ih ⊢
        rw [ih]
  have twice : dropKind .claim (dropKind .claim r.queue) = dropKind .claim r.queue := by simp [dropKind]
  have queue : enqueue (.claim k' d) (enqueue (.claim k d) r.queue) = enqueue (.claim k' d) r.queue := by
    change insertEntry _ (dropKind .claim (insertEntry _ (dropKind .claim r.queue))) = _
    rw [gone _ _ rfl, twice]
    rfl
  simp [offer_of_idle, h, Frame.kind, queue]

/-- The part with its plan's key composed from the figures as they stand (R45). -/
def Part.keyed (p : Part) : Part := p.mapPcu fun c => { c with plan := p.rekeyedPlan }

theorem Part.recomputeKey_of_defer (hs : p.rsq.state = .wait ∨ p.rsq.state = .blocked) (hk : p.pcu.plan.key ≠ none)
    (hd : p.adu.state = .defer) : p.recomputeKey = p.keyed.reevaluateDeferral := by
  rw [recomputeKey_eq hs hk, hd]
  rfl

/-- A RELEASE or ADJUST in DEFER, on a line that is available: in either order what `triggeredAs` says, of the key that stands or the one that
has moved. -/
theorem Part.peerFrameHeard_triggeredAs (hc : p.lpc.committed = true) (fresh : isStale f.node p.pvw.records = false)
    (hk : f.kind = .release ∨ f.kind = .adjust) (hd : p.adu.state = .defer)
    (hl : p.lineAvailable = true) (idle : p.fre.inFlight = none)
    (stands : p.pvw.deferral = deferralAnswer p.pcu.plan.key p.pvw.records) :
    ∃ n, (¬ p.moves f → (p.peerFrameHeard f).triggeredAs p.pvw.deferral (({ p with choices := n } : Part).viewed f).answered)
      ∧ (p.moves f → (p.peerFrameHeard f).triggeredAs p.pvw.deferral (({ p with choices := n } : Part).viewed f).rekeyed) := by
  obtain ⟨n, orders⟩ := p.peerFrameHeard_orders hk
  obtain ⟨y, hy⟩ : ∃ y, y = ({ p with choices := n } : Part) := ⟨_, rfl⟩
  rw [← hy] at orders
  have either (u : Part) (frame : y.peerFrame f = u.reevaluateDeferral) (hu : u.adu = p.adu) (hul : u.lineAvailable = true)
      (was : u.pvw.deferral = p.pvw.deferral) (keyed : p.pcu.plan.key = none → u.pcu.plan.key = none)
      (queued : ∀ old key, p.pcu.plan.key = some old → u.pcu.plan.key = some key →
        (y.claimQueued old).peerFrame f = u.answered.claimQueued key) :
      (p.peerFrameHeard f).triggeredAs p.pvw.deferral u.answered := by
    have hu : u.adu.state = .defer := by rw [hu]; exact hd
    obtain e | e := orders <;> rw [e]
    · rw [frame]
      exact trigger_after_view _ hu hul
    · rw [hy] at frame queued ⊢
      exact view_after_trigger (y := { p with choices := n }) hd hl stands frame hu hul was keyed queued
  refine ⟨n, fun hm => ?_, fun hm => ?_⟩
  · have hm : ¬ y.moves f := by rw [hy]; exact hm
    rw [← hy]
    refine either (y.viewed f) (peerFrame_of_still (by rw [hy]; exact hc) (by rw [hy]; exact fresh) hk hm)
      (by rw [hy]; rfl) (by rw [hy]; exact hl) (by rw [hy]; rfl) (by rw [hy]; exact id) fun old key hold hkey => ?_
    obtain rfl : old = key := by rw [hy] at hkey; exact Option.some.inj (hold.symm.trans hkey)
    rw [peerFrame_of_still (by rw [hy]; exact hc) (by rw [hy]; exact fresh) hk (by rw [hy] at hm ⊢; exact hm),
      reevaluateDeferral_of_not_defer (by simp [viewed, claimQueued])]
    rfl
  · have hm' : y.moves f := by rw [hy]; exact hm
    obtain ⟨-, -, hstate, hkey⟩ := id hm'
    have hyc : y.lpc.committed = true := by rw [hy]; exact hc
    have hyf : isStale f.node y.pvw.records = false := by rw [hy]; exact fresh
    have hyd : y.adu.state = .defer := by rw [hy]; exact hd
    rw [← hy, rekeyed_eq (p := y.viewed f) hkey]
    refine either (y.viewed f).keyed ?_ (by rw [hy]; rfl) (by rw [hy]; exact hl) (by rw [hy]; rfl)
      (fun h => absurd h (by rw [hy] at hkey; exact hkey)) fun old key hold hnew => ?_
    · rw [peerFrame_of_moves hyc hyf hm']
      exact recomputeKey_of_defer (p := y.viewed f) hstate hkey hyd
    · have rekeys := (recomputeKey_rekeysAs (p := (y.claimQueued old).viewed f) hstate hkey _ rfl key
        (by rw [rekeyed_eq (by exact hkey)]; exact hnew)).1 rfl
      rw [peerFrame_of_moves (p := y.claimQueued old) hyc hyf hm', rekeys, rekeyed_eq (by exact hkey)]
      have offers := Fre.offer_claim_claim (r := y.fre) (by rw [hy]; exact idle) old key y.pcu.plan.draw
      simp only [answered, viewed, claimQueued, mapPvw, mapPcu, keyed, rekeyedPlan, settings] at offers ⊢
      rw [offers]

/-! ## The claim without the line (R53, R57, R15) -/

/-- A claim waits in WAIT without the line, its draw beyond the solo allowance; `r` is the sequencer's record. -/
structure Part.WaitsWithoutLine (r : Rsq) (p : Part) : Prop where
  rsq    : p.rsq = r
  wait   : r.state = .wait
  waits  : p.adu.state = .defer ∨ p.adu.state = .queued
  line   : p.lineAvailable = false
  beyond : p.settings.soloAllowance < p.pcu.plan.draw

/-- The claim has been given up for the line: BLOCKED with LINE. -/
structure Part.BlockedByLine (r : Rsq) (p : Part) : Prop where
  rsq : p.rsq = r.rested .blocked .line false true
  adu : p.adu.state = .none

section
variable {r : Rsq}

theorem Part.WaitsWithoutLine.soloRule (h : p.WaitsWithoutLine r) : p.soloRule.BlockedByLine r := by
  obtain ⟨rsq, adu⟩ := soloRule_of_beyond h.beyond (by rw [h.rsq]; exact h.wait)
  exact ⟨by rw [rsq, h.rsq], adu⟩

theorem Part.WaitsWithoutLine.retryTrigger (h : p.WaitsWithoutLine r) : p.retryTrigger.BlockedByLine r := by
  rw [retryTrigger_of_unavailable h.waits h.line]
  exact h.soloRule

theorem Part.WaitsWithoutLine.answered (h : p.WaitsWithoutLine r) : p.answered.WaitsWithoutLine r :=
  ⟨h.rsq, h.wait, h.waits, h.line, h.beyond⟩

theorem Part.WaitsWithoutLine.reevaluateDeferral (h : p.WaitsWithoutLine r) :
    p.reevaluateDeferral.WaitsWithoutLine r ∨ p.reevaluateDeferral.BlockedByLine r := by
  rw [reevaluateDeferral_eq]
  split
  · rw [queueing_of_unavailable true h.answered.line]
    exact .inr h.answered.soloRule
  · exact .inl h.answered

theorem Part.WaitsWithoutLine.recomputeKey (h : p.WaitsWithoutLine r) (hk : p.pcu.plan.key ≠ none) :
    p.recomputeKey.WaitsWithoutLine r ∨ p.recomputeKey.BlockedByLine r := by
  have hs : p.rsq.state = .wait := by rw [h.rsq]; exact h.wait
  have keyed : p.keyed.WaitsWithoutLine r := ⟨h.rsq, h.wait, h.waits, h.line, h.beyond⟩
  obtain hd | hq := h.waits
  · rw [recomputeKey_of_defer (.inl hs) hk hd]
    exact keyed.reevaluateDeferral
  · rw [recomputeKey_eq (.inl hs) hk, hq]
    refine Part.WaitsWithoutLine.reevaluateDeferral (p := p.keyed.offerClaim) ⟨?_, h.wait, ?_, ?_, ?_⟩
    · rw [offerClaim_rsq]; exact h.rsq
    · rw [offerClaim_adu]; exact h.waits
    · rw [← h.line]
      exact lineAvailable_congr (by rw [offerClaim_lif]; rfl) (by rw [offerClaim_adu]; rfl)
        (Fre.duplicate_of_rest (offerClaim_rest p.keyed))
    · rw [settings, offerClaim_lpc, offerClaim_pcu]; exact h.beyond

theorem Part.WaitsWithoutLine.peerFrame (h : p.WaitsWithoutLine r) (hc : p.lpc.committed = true)
    (fresh : isStale f.node p.pvw.records = false) (hk : f.kind = .release ∨ f.kind = .adjust) :
    (p.peerFrame f).WaitsWithoutLine r ∨ (p.peerFrame f).BlockedByLine r := by
  have viewed : (p.viewed f).WaitsWithoutLine r := ⟨h.rsq, h.wait, h.waits, h.line, h.beyond⟩
  by_cases hm : p.moves f
  · rw [peerFrame_of_moves hc fresh hm]
    obtain ⟨-, -, -, key⟩ := hm
    exact viewed.recomputeKey key
  · rw [peerFrame_of_still hc fresh hk hm]
    exact viewed.reevaluateDeferral

theorem Part.BlockedByLine.retryTrigger (h : p.BlockedByLine r) : p.retryTrigger.BlockedByLine r := by
  rw [retryTrigger_of_settled (by simp [h.adu])]
  exact h

theorem Part.BlockedByLine.peerFrame (h : p.BlockedByLine r) (hc : p.lpc.committed = true)
    (fresh : isStale f.node p.pvw.records = false) (hk : f.kind = .release ∨ f.kind = .adjust) :
    (p.peerFrame f).BlockedByLine r := by
  by_cases hm : p.moves f
  · obtain ⟨-, -, hs, key⟩ := id hm
    rw [peerFrame_of_moves hc fresh hm, (recomputeKey_rekeysAs (p := p.viewed f) hs key _ rfl _ rfl).2.2.2 (by simp [viewed, h.adu])]
    exact ⟨h.rsq, h.adu⟩
  · rw [peerFrame_of_still hc fresh hk hm, reevaluateDeferral_of_not_defer (by simp [viewed, h.adu])]
    exact ⟨h.rsq, h.adu⟩

/-- In either order the claim is given up for the line. -/
theorem Part.WaitsWithoutLine.peerFrameHeard (h : p.WaitsWithoutLine r) (hc : p.lpc.committed = true)
    (fresh : isStale f.node p.pvw.records = false) (hk : f.kind = .release ∨ f.kind = .adjust) :
    (p.peerFrameHeard f).BlockedByLine r := by
  obtain ⟨n, e⟩ := p.peerFrameHeard_orders hk
  have h : ({ p with choices := n } : Part).WaitsWithoutLine r := ⟨h.rsq, h.wait, h.waits, h.line, h.beyond⟩
  obtain e | e := e <;> rw [e]
  · obtain h | h := h.peerFrame hc fresh hk
    · exact h.retryTrigger
    · exact h.retryTrigger
  · exact h.retryTrigger.peerFrame (by simpa using hc) (by simpa using fresh) hk

end

/-! ## The trigger once the traffic is closed -/

/-- What a trigger has done stands once the traffic is closed, for a twin of the part it was told of. -/
theorem Part.Closed.triggeredAs {was : Bool} (h : x.Closed true q p) (ht : x.triggeredAs was u) (twin : u.Twin true y)
    (hu : u.pvw.deferral = deferralAnswer u.pcu.plan.key u.pvw.records) (rest : y.fre.rest = p.fre.rest)
    (view : q.pcu = y.pcu → y.pvw.deferral = q.pvw.deferral) : ({ q with choices := y.choices } : Part).triggeredAs was y := by
  intro key hk
  obtain ⟨no, yes, either⟩ := ht key (by rw [twin.pcu]; exact hk)
  have outcome : x = u ∨ x = u.claimQueued key := by
    cases hd : u.pvw.deferral
    · exact .inr (no hd)
    · cases was
      · exact either hd rfl
      · exact .inl (yes hd rfl)
  have queued := twin.claimQueued key
  have closed : q.pcu = y.pcu ∧ q.pvw.records = y.pvw.records := by
    obtain e | e := outcome <;> rw [e] at h
    · exact ⟨(h.keeps _ twin).pcu, (h.keeps _ twin).records⟩
    · exact ⟨(h.keeps _ queued).pcu, (h.keeps _ queued).records⟩
  obtain ⟨pcu, records⟩ := closed
  have deferral := view pcu
  have same : u.pvw.deferral = y.pvw.deferral := by rw [deferral, h.deferral, hu, pcu, records, twin.pcu, twin.records]
  have stays (e : x = u) : ({ q with choices := y.choices } : Part) = y := by
    rw [e] at h
    exact h.calm_eq twin rest deferral
  have claims (e : x = u.claimQueued key) : ({ q with choices := y.choices } : Part) = y.claimQueued key := by
    rw [e] at h
    exact h.calm_eq queued (by rw [claimQueued_rest, rest]) deferral
  refine ⟨fun hd => claims (no (same.trans hd)), fun hd hw => stays (yes (same.trans hd) hw), fun hd hw => ?_⟩
  exact (either (same.trans hd) hw).imp stays claims

end

end Sys2Proof.Machine
end

section
/-! PROOF. The frame end of a peer's traffic (R78 to R84, R99, R104, R111): its frame, or the window of its CLAIM (O35). -/

namespace Sys2Proof.Machine

-- Checked one after another: side by side, each waiting proof keeps a thread of its own.
set_option Elab.async false

section
variable {p q : Part} {f : Frame}

/-! ## A frame end that finds nothing else to do -/

/-- The line has been released for 24 LU after traffic, its data end is past, no claim report is owed and no LOST retry is under way. -/
structure Part.TrafficEnds (p : Part) : Prop where
  traffic   : p.lif.traffic = true
  released  : p.lif.filtered = false
  dataEnd   : 48 ≤ p.lif.samples
  lineState : p.lif.lineState = .busy
  report    : p.fre.report = none
  retry     : p.lif.retry = .none

/-- The part as LIF has ended the traffic and FRE hands on what it received (R111, R115). -/
def Part.lineEnded (p : Part) : Part := p.mapLif Lif.atFrameEnd

/-- The part as LIF and FRE have ended the traffic. -/
def Part.trafficOver (p : Part) : Part := { p with lif := p.lif.atFrameEnd, fre := p.fre.afterTraffic }

theorem Part.TrafficEnds.lif (h : p.TrafficEnds) :
    p.lineEnded.lif = { p.lif with samples := 96, traffic := false, tx := none, lineState := .idle } := by
  simp [lineEnded, Lif.atFrameEnd, h.lineState, lu, Config.samplesPerLU]

/-- FRE hands on what it received, and closes the traffic. -/
theorem Part.TrafficEnds.frameEndReached (h : p.TrafficEnds) (hl : p.lineEnded.handOn.lif = p.lineEnded.lif) :
    p.frameEndReached = p.lineEnded.handOn.mapFre Fre.atFrameEnd := by
  have data : p.dataEndReached = p := if_neg fun ⟨_, _, hs⟩ => absurd h.dataEnd (Nat.not_le.mpr hs)
  have ends (r : Part) (hr : r.lif = p.lineEnded.lif) : r.mapLif Lif.retryEnds = r := by
    have retry : r.lif.retry = .none := by rw [hr]; exact h.retry
    simp [mapLif, Lif.retryEnds, retry]
  unfold Part.frameEndReached
  simp only [h.released, h.traffic, data, h.report, h.lineState, giveReport, Bool.false_eq_true, false_and, and_false, if_false,
    Bool.not_true, reduceCtorEq]
  exact ends _ hl

theorem exec_frameEnd {s : State} (hl : s.listening) :
    exec .frameEnd s = .next { s with part := s.part.frameEndReached } := by
  change s.run (Part.whenListening Part.frameEndReached) = _
  rw [State.run_eq, Part.whenWorking_of_high _ _ hl.1, Part.whenListening, hl.2]
  rfl

theorem Fre.atFrameEnd_rest {a b : Fre} (h : a.rest = b.rest) : a.atFrameEnd.rest = b.afterTraffic.rest :=
  congrArg Fre.atFrameEnd h

/-! ## A peer's frame is handed on (R99) -/

/-- FRE holds a valid frame of a peer that is no CLAIM, with nothing of the node's own in flight (R99). -/
structure Part.HoldsFrame (f : Frame) (p : Part) : Prop extends p.TrafficEnds where
  committed : p.lpc.committed = true
  phase     : p.fre.phase = .frame
  role      : p.fre.role = .receiver
  valid     : p.fre.valid = some f
  inFlight  : p.fre.inFlight = none
  kind      : f.kind ≠ .claim
  peer      : f.node ≠ p.settings.node

/-- The part once the frame end has handed a peer's frame on. -/
def Part.frameTaken (f : Frame) (p : Part) : Part := (p.lineEnded.peerFrameHeard f).mapFre Fre.atFrameEnd

theorem Part.HoldsFrame.frameEndReached (h : p.HoldsFrame f) : p.frameEndReached = p.frameTaken f := by
  have receives : p.lineEnded.fre.isSender = false := by simp [lineEnded, Fre.isSender, h.role]
  have peer : ¬ p.lineEnded.ownNode = some f.node := by
    simpa [lineEnded, ownNode, settings, h.committed] using h.peer.symm
  have hands : p.lineEnded.handOn = p.lineEnded.peerFrameHeard f := by
    unfold handOn
    rw [show p.lineEnded.fre.phase = .frame from h.phase, show p.lineEnded.fre.valid = some f from h.valid]
    dsimp only
    rw [receives, if_neg peer]
    rfl
  rw [h.toTrafficEnds.frameEndReached (by rw [hands, peerFrameHeard_lif]), hands]
  rfl

/-- The view after the frame end. -/
theorem Part.HoldsFrame.view (h : p.HoldsFrame f) :
    (∃ e m d, (p.frameTaken f).pvw = { (p.viewed f).pvw with sEff := e, mismatch := m, deferral := d }
      ∧ (f.kind = .presence → e = some (effectiveLimit p.settings.storeLimit (p.viewed f).pvw.records)))
    ∧ (p.frameTaken f).pvw.deferral = deferralAnswer (p.frameTaken f).pcu.plan.key (p.frameTaken f).pvw.records
    ∧ (p.frameTaken f).fre.rest = p.fre.afterTraffic.rest := by
  obtain ⟨view, answer, rest⟩ := peerFrameHeard_view (p := p.lineEnded) (f := f) h.committed h.kind
  exact ⟨view, answer, Fre.atFrameEnd_rest rest⟩

/-- What the frame end leaves, seen from the part whose traffic is over and whose view is the new one. -/
theorem Part.HoldsFrame.closed (h : p.HoldsFrame f) :
    (p.lineEnded.peerFrameHeard f).Closed true (p.frameTaken f) { p.trafficOver with pvw := (p.frameTaken f).pvw } := by
  obtain ⟨-, answer, rest⟩ := h.view
  exact ⟨fun _ t => t.atFrameEnd, rest, rfl, answer⟩

/-- The part as FRE hands on is, but for the view, a twin of the part whose traffic is over. -/
theorem Part.HoldsFrame.twin (h : p.HoldsFrame f) {n : Nat} {v w : Pvw} (view : v = { w with deferral := v.deferral }) :
    ({ p.lineEnded with pvw := v, choices := n } : Part).Twin true { p.trafficOver with pvw := w } :=
  ⟨rfl, rfl, rfl, view, rfl, h.inFlight, rfl, rfl, rfl, rfl, rfl, rfl, fun _ => rfl⟩

/-! ## The record and the last-released node -/

/-- The frame taken over its sender's record, as the manual tells it for each kind (R78, R82, R83). -/
theorem Frame.onRecord_spec (f : Frame) (old : PeerRecord) :
    (∀ n body, f = .presence n body →
        f.onRecord old = { old with
          stateCode := body.code, sEcho := some body.storeLimit, draw := body.draw, key := body.key
          inferred := false, age := 0, ageClock := 0 })
      ∧ (∀ n d, f = .adjust n d →
        (f.onRecord old).stateCode = 6 ∧ (f.onRecord old).draw = some d ∧ (f.onRecord old).key = none
          ∧ (f.onRecord old).sEcho = old.sEcho ∧ (f.onRecord old).lastOutcome = old.lastOutcome
          ∧ (old.stateCode = 6 → (f.onRecord old).inferred = old.inferred)
          ∧ (old.stateCode ≠ 6 → (f.onRecord old).inferred = true))
      ∧ (∀ o n, f = .release o n →
        (f.onRecord old).draw = none ∧ (f.onRecord old).key = none ∧ (f.onRecord old).inferred = false
          ∧ (f.onRecord old).lastOutcome = some o ∧ (f.onRecord old).sEcho = old.sEcho
          ∧ (f.onRecord old).stateCode
            = (match o with | .landed => 7 | .halted => 8 | .replan => 5 | .abandoned => 1)) := by
  refine ⟨?_, ?_, ?_⟩
  · rintro n body rfl; rfl
  · rintro n d rfl
    exact ⟨rfl, rfl, rfl, rfl, rfl, fun h => if_pos h, fun h => if_neg h⟩
  · rintro o n rfl
    exact ⟨rfl, rfl, rfl, rfl, rfl, by cases o <;> rfl⟩

/-! ## What the rescue takes of it -/

/-- In no waiting state and with no claim the view, the line and the traffic alone have moved. -/
theorem Part.frameTaken_of_idle (f : Frame) (hw : p.rsq.state ≠ .wait) (hb : p.rsq.state ≠ .blocked)
    (hn : p.adu.state = .none) : p.frameTaken f = { p.trafficOver with pvw := (p.frameTaken f).pvw } := by
  have frame := peerFrameHeard_of_idle (p := p.lineEnded) hw hb hn f
  rw [frameTaken, frame]
  rfl

/-- A PRESENCE: an S_eff that stands moves nothing of the rescue, a new one is taken, and in DEFER a claim that S_eff leaves standing follows
the deferral answer. -/
theorem Part.HoldsFrame.presence (h : p.HoldsFrame f) (hk : f.kind = .presence) :
    let q := p.frameTaken f
    let r : Part := { p.trafficOver with pvw := q.pvw }
    (q.pvw.sEff = p.pvw.sEff → p.adu.state ≠ .defer → q = r)
      ∧ (q.pvw.sEff ≠ p.pvw.sEff → (p.adu.state = .defer → r.beyondLimit) →
          p.adu.isHolder = false ∨ p.rsq.state ≠ .wait → q.limitTakenAs r)
      ∧ (p.adu.state = .defer → p.rsq.state = .wait → p.pcu.plan.draw ≤ q.pvw.sEff.getD 0 →
          q.answerTakenAs p.pvw.deferral r) := by
  have frame : p.lineEnded.peerFrameHeard f = (p.lineEnded.viewed f).recomputeLimit.reevaluateDeferral := by
    rw [← peerFrame_presence (p := p.lineEnded) h.committed hk]
    unfold peerFrameHeard
    rw [hk]
  have closed := h.closed
  obtain ⟨d, view⟩ := (p.lineEnded.viewed f).limitRecomputed_pvw
  have taken : (p.frameTaken f).pvw = (p.lineEnded.viewed f).recomputeLimit.reevaluateDeferral.pvw := by
    rw [frameTaken, frame]; rfl
  rw [frame] at closed
  refine closed.limitRecomputed (P := p.lineEnded.viewed f) (h.twin ?_) h.committed rfl ?_
  · rw [taken, view]
  · rw [frameTaken, frame]
    simp

/-- A RELEASE or ADJUST of a peer that is not stale, where the retry trigger has no effect. -/
theorem Part.HoldsFrame.untriggered (h : p.HoldsFrame f) (hk : f.kind = .release ∨ f.kind = .adjust)
    (fresh : isStale f.node p.pvw.records = false) (hu : p.lineEnded.untriggered) :
    let q := p.frameTaken f
    let calm : Part := { q with choices := p.choices }
    (¬ p.moves f → calm = { p.trafficOver with pvw := q.pvw })
      ∧ (p.moves f → calm.rekeysAs { p.trafficOver with pvw := { q.pvw with deferral := p.pvw.deferral } }) := by
  obtain ⟨n, frame⟩ := hu.peerFrameHeard (f := f) h.committed fresh hk
  have closed := h.closed
  obtain ⟨y, hy⟩ : ∃ y, y = ({ p.lineEnded with choices := n } : Part) := ⟨_, rfl⟩
  rw [frame, ← hy] at closed
  have hyc : y.lpc.committed = true := by rw [hy]; exact h.committed
  have hyf : isStale f.node y.pvw.records = false := by rw [hy]; exact fresh
  have hyd : (y.viewed f).adu.state ≠ .defer := by rw [hy]; exact hu.not_defer
  have taken : (p.frameTaken f).pvw = (y.peerFrame f).pvw := by rw [frameTaken, frame, ← hy]; rfl
  refine ⟨fun hm => ?_, fun hm => ?_⟩
  · have still := peerFrame_of_still hyc hyf hk (by rw [hy]; exact hm)
    rw [reevaluateDeferral_of_not_defer hyd] at still
    rw [still] at closed taken
    rw [hy] at closed taken
    exact closed.calm_eq (h.twin (by rw [taken]; rfl)) rfl rfl
  · have moved := peerFrame_of_moves hyc hyf (by rw [hy]; exact hm)
    obtain ⟨-, -, hs, hkey⟩ := hm
    obtain ⟨d, view⟩ := (y.viewed f).recomputeKey_pvw
    rw [moved] at closed
    rw [moved, view] at taken
    obtain ⟨r, hr⟩ : ∃ r, r = ({ p.trafficOver with pvw := { (p.frameTaken f).pvw with deferral := p.pvw.deferral } } : Part) :=
      ⟨_, rfl⟩
    have twin : (y.viewed f).Twin true r := by
      rw [hr, taken, hy]
      exact h.twin rfl
    have hrd : r.adu.state ≠ .defer := by rw [← twin.adu]; exact hyd
    have hrs : r.rsq.state = .wait ∨ r.rsq.state = .blocked := by rw [hr]; exact hs
    have hrk : r.pcu.plan.key ≠ none := by rw [hr]; exact hkey
    have calm := closed.calm_eq_of_answer (twin.recomputeKey hrd) (by rw [recomputeKey_rest, hr])
      (recomputeKey_deferral hrs hrk)
    rw [recomputeKey_choices, show r.choices = p.choices by rw [hr]; rfl] at calm
    dsimp only
    rw [calm, ← hr]
    exact recomputeKey_rekeysAs hrs hrk

/-- A RELEASE or ADJUST of a peer that is not stale, in DEFER on a line that is available: a retry trigger, in either order. -/
theorem Part.HoldsFrame.triggered (h : p.HoldsFrame f) (hk : f.kind = .release ∨ f.kind = .adjust)
    (fresh : isStale f.node p.pvw.records = false) (hd : p.adu.state = .defer) (hl : p.lineEnded.lineAvailable = true)
    (stands : p.pvw.deferral = deferralAnswer p.pcu.plan.key p.pvw.records) :
    let q := p.frameTaken f
    let r : Part := { p.trafficOver with pvw := q.pvw }
    let calm : Part := { q with choices := p.choices }
    (¬ p.moves f → calm.triggeredAs p.pvw.deferral r) ∧ (p.moves f → calm.triggeredAs p.pvw.deferral r.rekeyed) := by
  obtain ⟨n, still, moved⟩ := peerFrameHeard_triggeredAs (p := p.lineEnded) (f := f) h.committed fresh hk hd hl h.inFlight stands
  have closed := h.closed
  obtain ⟨d, view⟩ := peerFrameHeard_pvw_of_fresh (p := p.lineEnded) (f := f) h.committed fresh hk
  have view : (p.frameTaken f).pvw = { (p.viewed f).pvw with deferral := d } := view
  refine ⟨fun hm => ?_, fun hm => ?_⟩
  · exact closed.triggeredAs (still hm) (h.twin (by rw [view]; rfl)) rfl rfl fun _ => rfl
  · refine closed.triggeredAs (moved hm) (Part.Twin.rekeyed (h.twin (by rw [view]; rfl))) rfl rfl fun pcu => ?_
    rw [closed.deferral, pcu]
    rfl

/-! ## A peer's window (R80, R81, R103) -/

/-- An entry of another node in the list brings a stale record back (R76, R80). -/
def Part.listRevives (list : List (Node × Nat)) (p : Part) : Bool :=
  (peerEntries p.settings.node list).any fun e => isStale e.1 p.pvw.records

/-- The view after the entries of a clean list (R80, R85). -/
def Part.listedView (list : List (Node × Nat)) (p : Part) : Pvw :=
  let listed := p.mapPvw fun v => { v with records := applyEntries (peerEntries p.settings.node list) v.records }
  if p.listRevives list then listed.limited.pvw else listed.pvw

/-- The view after the node's own judgement of a peer's claim (R81). -/
def Pvw.judged (node : Node) (draw : Nat) (list : List (Node × Nat)) (v : Pvw) : Pvw :=
  { v with
    claim := none
    records := if draw + (list.map (·.2)).sum ≤ v.sEff.getD 0 then upsert node (.inferHolder draw) v.records else v.records }

variable {node : Node} {draw : Nat}

theorem Part.listedView_claim (list : List (Node × Nat)) (p : Part) : (p.listedView list).claim = p.pvw.claim := by
  unfold listedView
  dsimp only
  split <;> rfl

theorem Part.listedView_records (list : List (Node × Nat)) (p : Part) :
    (p.listedView list).records = applyEntries (peerEntries p.settings.node list) p.pvw.records := by
  unfold listedView
  dsimp only
  split <;> rfl

theorem Part.listedView_sEff (list : List (Node × Nat)) (p : Part) :
    (p.listedView list).sEff =
      if p.listRevives list = true then some (effectiveLimit p.settings.storeLimit (p.listedView list).records)
      else p.pvw.sEff := by
  unfold listedView
  dsimp only
  split <;> rfl

/-- A clean window in no waiting state moves the view alone. -/
theorem Part.cleanWindow_of_idle (hc : p.lpc.committed = true) (hw : p.rsq.state ≠ .wait) (hb : p.rsq.state ≠ .blocked)
    (hn : p.adu.state = .none) (hcl : p.pvw.claim = some (node, draw)) (list : List (Node × Nat)) :
    ∃ d, p.cleanWindow list = { p with pvw := { (p.listedView list).judged node draw list with deferral := d } } := by
  have listed : (if p.listRevives list = true then
        (p.mapPvw fun v => { v with records := applyEntries (peerEntries p.settings.node list) v.records }).recomputeLimit
      else p.mapPvw fun v => { v with records := applyEntries (peerEntries p.settings.node list) v.records })
        = { p with pvw := p.listedView list } := by
    unfold listedView
    split
    · exact recomputeLimit_of_idle hw hb
    · rfl
  have answered (v : Pvw) : ∃ d, ({ p with pvw := v } : Part).reevaluateDeferral = { p with pvw := { v with deferral := d } } :=
    ⟨_, reevaluateDeferral_of_not_defer (p := { p with pvw := v }) (by simp [hn])⟩
  have claim : (p.listedView list).claim = some (node, draw) := (listedView_claim list p).trans hcl
  have fits : ({ p with pvw := p.listedView list } : Part).claimFits draw list = true
      ↔ draw + (list.map (·.2)).sum ≤ (p.listedView list).sEff.getD 0 := decide_eq_true_iff
  unfold Part.cleanWindow
  rw [if_pos hc]
  dsimp only
  unfold listRevives at listed
  rw [listed]
  simp only [claim, fits]
  obtain ⟨d, judged⟩ := answered ((p.listedView list).judged node draw list)
  refine ⟨d, judged ▸ congrArg reevaluateDeferral ?_⟩
  unfold Pvw.judged
  split <;> rfl

/-- FRE hands the window on as it has received it: clean, or spoiled (R103, R104). -/
theorem Part.TrafficEnds.window (h : p.TrafficEnds)
    (role : p.fre.role = .listener ∨ p.fre.role = .responder ∨ p.fre.role = .receiver) :
    (p.fre.phase = .window →
        p.frameEndReached = (p.lineEnded.cleanWindow p.fre.list).mapFre Fre.atFrameEnd)
      ∧ (p.fre.phase = .discard → p.fre.windowAbandoned = true →
        p.frameEndReached = p.lineEnded.spoiledWindow.mapFre Fre.atFrameEnd) := by
  have receives : p.lineEnded.fre.isSender = false := by
    obtain e | e | e := role <;> simp [lineEnded, Fre.isSender, e]
  refine ⟨fun hp => ?_, fun hp ha => ?_⟩
  · have hands : p.lineEnded.handOn = p.lineEnded.cleanWindow p.fre.list := by
      unfold handOn
      rw [show p.lineEnded.fre.phase = .window from hp]
      dsimp only
      unfold windowEndsClean
      simp only [receives, Bool.false_eq_true, if_false]
      rfl
    rw [h.frameEndReached (by rw [hands, cleanWindow_lif]), hands]
  · have hands : p.lineEnded.handOn = p.lineEnded.spoiledWindow := by
      unfold handOn
      rw [show p.lineEnded.fre.phase = .discard from hp]
      exact if_pos ha
    rw [h.frameEndReached (by rw [hands, spoiledWindow_lif]), hands]

/-! ## The records after a clean window -/

theorem PeerRecord.inferHolder_node (draw : Nat) (r : PeerRecord) : (r.inferHolder draw).node = r.node := rfl

theorem PeerRecord.inferHolder_bound (draw : Nat) (r : PeerRecord) : (r.inferHolder draw).bound = r.bound := rfl

theorem mem_peerEntries {own : Node} {list : List (Node × Nat)} {e : Node × Nat} :
    e ∈ peerEntries own list ↔ e ∈ list ∧ e.1 ≠ own := by simp [peerEntries]

section
variable {v : Pvw} {list : List (Node × Nat)} {m : Node}

/-- The judgement of a claim bears on its sender's record alone (R81). -/
theorem Pvw.judged_of_ne (h : m ≠ node) : recordOf m (v.judged node draw list).records = recordOf m v.records := by
  unfold judged
  dsimp only
  split
  · exact recordOf_upsert_of_ne (PeerRecord.inferHolder_node draw) h
  · rfl

theorem Pvw.judged_of_fits (h : recordsAscend v.records) (fits : draw + (list.map (·.2)).sum ≤ v.sEff.getD 0) :
    recordOf node (v.judged node draw list).records
      = some (((recordOf node v.records).getD (.blank node)).inferHolder draw) := by
  unfold judged
  dsimp only
  rw [if_pos fits]
  exact recordOf_upsert h (PeerRecord.inferHolder_node draw)

theorem Pvw.judged_of_beyond (beyond : v.sEff.getD 0 < draw + (list.map (·.2)).sum) :
    (v.judged node draw list).records = v.records := if_neg (by omega)

/-- ... and leaves what S_eff reads. -/
theorem Pvw.judged_effectiveLimit (own : Nat) :
    effectiveLimit own (v.judged node draw list).records = effectiveLimit own v.records := by
  unfold judged
  dsimp only
  split
  · exact effectiveLimit_upsert (PeerRecord.inferHolder_bound draw) own
  · rfl

end

theorem Part.listRevives_iff (list : List (Node × Nat)) (p : Part) : p.listRevives list = true
    ↔ ∃ e ∈ list, e.1 ≠ p.settings.node ∧ isStale e.1 p.pvw.records = true := by
  simp only [listRevives, List.any_eq_true, mem_peerEntries, and_assoc]

end

/-- Settles O35: the frame end hands a peer's frame on, and the view, the key and the waiting claim take it as `Part.HoldsFrame` has it; a
window's list and claim are applied as `Part.cleanWindow_of_idle` has it, or dropped. -/
theorem peerFrameUpdatesRecord : Obligations.PeerFrameUpdatesRecord := by
  refine ⟨?_, ?_⟩
  · intro s f hl hc fit inFlight traffic released dataEnd lineState phase role valid report retry kind peer
    have holds : s.part.HoldsFrame f :=
      ⟨⟨traffic, released, dataEnd, lineState, report, retry⟩, hc, phase, role, valid, inFlight, kind, peer⟩
    obtain ⟨⟨e, m, d, view, limit⟩, answer, rest⟩ := holds.view
    have lif : (s.part.frameTaken f).lif = s.part.lineEnded.lif := by simp [Part.frameTaken]
    have elsewhere (v : Pvw) : ({ s.part with
        pvw := v, lif := (s.part.frameTaken f).lif, fre := s.part.fre.afterTraffic } : Part) = { s.part.trafficOver with pvw := v } := by
      rw [lif]; rfl
    refine ⟨s.part.frameTaken f, by rw [exec_frameEnd hl, holds.frameEndReached], fun m' hm => ?_, ?_, ?_, fun n body hf => ?_,
      lif.trans holds.lif, answer, rfl, rfl, ?_, ?_⟩
    · rw [view]
      exact recordOf_upsert_of_ne f.onRecord_node hm
    · refine ⟨f.onRecord ((recordOf f.node s.part.pvw.records).getD (.blank f.node)), ?_, f.onRecord_age _, ?_⟩
      · rw [view]
        exact recordOf_upsert fit f.onRecord_node
      · rintro old rfl
        exact f.onRecord_spec _
    · rw [view]
      cases f <;> rfl
    · rw [view, limit (by rw [hf]; rfl)]
    · exact congrArg (·.counters) rest
    · rintro p rfl calm rfl
      rw [elsewhere]
      refine ⟨fun hw hb hn => Part.frameTaken_of_idle f hw hb hn, fun hk => holds.presence hk, fun hk fresh => ?_⟩
      refine ⟨fun hu => ?_, fun hd _ hl stands => ?_, fun hd hs hl hb => ?_⟩
      · exact holds.untriggered hk fresh hu
      · exact holds.triggered hk fresh hd hl stands
      · have waits : s.part.lineEnded.WaitsWithoutLine s.part.rsq :=
          ⟨rfl, hs, by simpa [Part.lineEnded] using hd, hl, hb⟩
        obtain ⟨rsq, adu⟩ := waits.peerFrameHeard (f := f) hc fresh hk
        exact ⟨rsq, adu⟩
  · intro s node draw hl hc fit rollCall noWait noBlock noClaim traffic released dataEnd lineState report retry peer role claimant claim _
      phase
    have ends : s.part.TrafficEnds := ⟨traffic, released, dataEnd, lineState, report, retry⟩
    obtain ⟨clean, spoiled⟩ := ends.window role
    obtain hp | ⟨hp, abandoned⟩ := phase
    · obtain ⟨d, judged⟩ := Part.cleanWindow_of_idle (p := s.part.lineEnded) hc noWait noBlock noClaim claim s.part.fre.list
      have outcome : s.part.frameEndReached = { s.part.trafficOver with
          pvw := { (s.part.listedView s.part.fre.list).judged node draw s.part.fre.list with deferral := d } } := by
        rw [clean hp, judged]
        rfl
      refine ⟨_, exec_frameEnd hl, ?_⟩
      rw [outcome]
      refine ⟨rfl, rfl, rfl, rfl, by simp [Part.sameOutside, Part.trafficOver], fun hd => by simp [hp] at hd, fun _ => ?_⟩
      obtain ⟨distinct, apart⟩ := rollCall
      have apart := apart _ claimant
      have ascend : recordsAscend (s.part.listedView s.part.fre.list).records := by
        rw [Part.listedView_records]
        exact applyEntries_ascend fit
      have absent (m : Node) (hm : m = s.part.settings.node ∨ ∀ e ∈ s.part.fre.list, e.1 ≠ m) :
          recordOf m (s.part.listedView s.part.fre.list).records = recordOf m s.part.pvw.records := by
        rw [Part.listedView_records]
        refine recordOf_applyEntries_of_absent fun e he => ?_
        obtain ⟨hlist, hown⟩ := mem_peerEntries.mp he
        obtain rfl | hm := hm
        · exact hown
        · exact hm e hlist
      have unlisted := absent node (.inr apart)
      refine ⟨fun e he hown old hold => ?_, fun fits old hold => ?_, fun beyond => ?_, fun m hm hlist => ?_, ?_⟩
      · rw [Pvw.judged_of_ne (apart e he), Part.listedView_records, hold]
        exact recordOf_applyEntries fit (distinct.filter _) (mem_peerEntries.mpr ⟨he, hown⟩)
      · rw [Pvw.judged_of_fits ascend fits, unlisted, hold]
        rfl
      · exact (congrArg (recordOf node) (Pvw.judged_of_beyond (v := s.part.listedView s.part.fre.list) beyond)).trans unlisted
      · rw [Pvw.judged_of_ne hm, absent m hlist]
      · have sEff := Part.listedView_sEff s.part.fre.list s.part
        rw [Pvw.judged_effectiveLimit, ← if_congr (Part.listRevives_iff ..) rfl rfl]
        exact sEff
    · have outcome : s.part.frameEndReached = { s.part.trafficOver with pvw := { s.part.pvw with claim := none } } := by
        rw [spoiled hp abandoned]
        rfl
      refine ⟨_, exec_frameEnd hl, ?_⟩
      rw [outcome]
      exact ⟨rfl, rfl, rfl, rfl, by simp [Part.sameOutside, Part.trafficOver], fun _ => rfl, fun hw => by simp [hp] at hw⟩

end Sys2Proof.Machine
end

section
/-! PROOF. Offers to the transmit queue (R91, R92): the entries of the queue and the offer held against the entry in flight, after a
removal, a put and an offer. -/

namespace Sys2Proof.Machine

-- Checked one after another: side by side, each waiting proof keeps a thread of its own.
set_option Elab.async false

section
variable {r : Fre} {f : Frame} {k l : FrameKind} {e : Entry}

/-! ## What of a record an offer moves -/

/-- A record with the rest of another is that record with its own queue and entry in flight. -/
theorem Fre.eq_of_rest {a b : Fre} (h : a.rest = b.rest) : a = { b with queue := a.queue, inFlight := a.inFlight } := by
  have e : { a.rest with queue := a.queue, inFlight := a.inFlight } = { b.rest with queue := a.queue, inFlight := a.inFlight } := by
    rw [h]
  exact e

/-! ## Order -/

/-- A queue in order stands with a Claim that may be queued. -/
theorem queueStands_queued_iff {queue : List Entry} :
    queueStands .queued queue ↔ queue.Pairwise fun a b => a.frame.kind.rank < b.frame.kind.rank :=
  ⟨And.left, fun h => ⟨h, fun _ _ _ => .inl rfl⟩⟩

theorem Fre.removeKind_ordered (h : queueStands .queued r.queue) (k : FrameKind) : queueStands .queued (r.removeKind k).queue := by
  unfold removeKind
  split
  · exact h
  · exact h.dropKind k

theorem Fre.put_ordered (h : queueStands .queued r.queue) (f : Frame) : queueStands .queued (r.put f).queue := by
  unfold put
  split
  · exact h
  · exact h.enqueue fun _ => .inl rfl

theorem Fre.offer_ordered (h : queueStands .queued r.queue) (f : Frame) : queueStands .queued (r.offer f).queue := by
  have put := put_ordered h f
  unfold offer
  split
  · exact removeKind_ordered (removeKind_ordered put .claim) .adjust
  all_goals exact put

/-! ## The entry in flight -/

theorem Fre.removeKind_inFlight (k : FrameKind) (r : Fre) :
    (r.removeKind k).inFlight = r.inFlight.map fun x => { x with held := if x.kind = k then some .remove else x.held } := by
  unfold removeKind flying hold
  cases r.inFlight with
  | none => simp
  | some x => by_cases h : x.kind = k <;> simp [h]

theorem Fre.put_inFlight (f : Frame) (r : Fre) :
    (r.put f).inFlight
      = r.inFlight.map fun x => { x with held := if x.kind = f.kind then some (.replace f) else x.held } := by
  unfold put flying hold
  cases r.inFlight with
  | none => simp
  | some x => by_cases h : x.kind = f.kind <;> simp [h]

/-- The offer that is held against the entry in flight; of two, the later decides (R92). -/
theorem Fre.offer_inFlight (f : Frame) (r : Fre) :
    (r.offer f).inFlight = r.inFlight.map fun x => { x with
      held := if x.kind = f.kind then some (.replace f)
        else if f.kind = .release ∧ (x.kind = .claim ∨ x.kind = .adjust) then some .remove else x.held } := by
  unfold offer
  cases hk : f.kind
  case release =>
    simp only [removeKind_inFlight, put_inFlight, Option.map_map, hk]
    refine congrArg (r.inFlight.map ·) (funext fun x => ?_)
    cases hx : x.kind <;> simp [hx]
  all_goals simp [put_inFlight, hk]

/-- An offer held against the entry in flight leaves its kind. -/
theorem Fre.flying_removeKind : (r.removeKind l).flying k = r.flying k := by
  unfold flying
  rw [removeKind_inFlight]
  cases r.inFlight <;> rfl

theorem Fre.flying_put : (r.put f).flying k = r.flying k := by
  unfold flying
  rw [put_inFlight]
  cases r.inFlight <;> rfl

/-! ## The entries -/

/-- An entry in flight stays until its attempt ends; any other of the kind leaves at once. -/
theorem Fre.mem_removeKind : e ∈ (r.removeKind k).queue ↔ e ∈ r.queue ∧ (e.frame.kind = k → r.flying k = true) := by
  unfold removeKind
  by_cases h : r.flying k = true
  · simp [h, hold]
  · simp [h, mem_dropKind]

theorem Fre.mem_put : e ∈ (r.put f).queue ↔
    (e = { frame := f, attempts := 0 } ∧ ¬ r.flying f.kind = true)
      ∨ (e ∈ r.queue ∧ (e.frame.kind = f.kind → r.flying f.kind = true)) := by
  unfold put
  by_cases h : r.flying f.kind = true
  · simp [h, hold]
  · simp [h, mem_enqueue]

/-- The entries after an offer: the frame offered, unless its kind is in flight, and the entries that it leaves (R91, R92). -/
theorem Fre.mem_offer : e ∈ (r.offer f).queue ↔
    (e = { frame := f, attempts := 0 } ∧ ¬ r.flying f.kind = true)
      ∨ (e ∈ r.queue ∧ (e.frame.kind = f.kind → r.flying f.kind = true)
          ∧ (f.kind = .release → e.frame.kind = .claim ∨ e.frame.kind = .adjust → r.flying e.frame.kind = true)) := by
  unfold offer
  cases hk : f.kind
  case release =>
    simp only [mem_removeKind, flying_removeKind, flying_put, mem_put, hk]
    constructor
    · rintro ⟨⟨h | ⟨hq, hr⟩, hc⟩, ha⟩
      · exact .inl h
      · refine .inr ⟨hq, hr, fun _ h => ?_⟩
        obtain h | h := h <;> rw [h]
        · exact hc h
        · exact ha h
    · rintro (⟨rfl, hn⟩ | ⟨hq, hr, h⟩)
      · exact ⟨⟨.inl ⟨rfl, hn⟩, by simp [hk]⟩, by simp [hk]⟩
      · exact ⟨⟨.inr ⟨hq, hr⟩, fun hc => hc ▸ h trivial (.inl hc)⟩, fun ha => ha ▸ h trivial (.inr ha)⟩
  all_goals simp [mem_put, hk]

end

/-- Settles O36: the offer by its order, its entries and the offer it holds; then the offer held, as the attempt ends. -/
theorem offerKeepsOneEntryPerKind : Obligations.OfferKeepsOneEntryPerKind := by
  refine ⟨fun r f ordered flies hflies => ?_, fun queue f ordered => ⟨rfl, ?_, fun e => ⟨mem_enqueue, mem_dropKind⟩⟩⟩
  · have flying (k : FrameKind) : flies k ↔ r.flying k = true := (hflies k).trans Fre.flying_iff.symm
    refine ⟨Fre.eq_of_rest (Fre.offer_rest f r), (Fre.offer_ordered (queueStands_queued_iff.mpr ordered) f).1, fun e => ?_, ?_, ?_⟩
    · simp only [flying]
      exact Fre.mem_offer
    · intro hx
      rw [Fre.offer_inFlight, hx]
      rfl
    · intro x hx
      rw [Fre.offer_inFlight, hx]
      rfl
  · exact ((queueStands_queued_iff.mpr ordered).enqueue fun _ => .inl rfl).1

end Sys2Proof.Machine
end

section
/-! PROOF. The Presence timer (R93), and the start of an attempt (R94, R58). -/

namespace Sys2Proof.Machine

-- Checked one after another: side by side, each waiting proof keeps a thread of its own.
set_option Elab.async false

/-- In service the Presence for the state as it stands is offered (R90, R93). -/
theorem Part.offerPresence_eq {p : Part} {code : Nat} (hc : p.lpc.committed = true) (h : p.rsq.state.presenceCode = some code) :
    p.offerPresence = { p with
      fre := p.fre.offer (p.presence code p.presenceDraw (if p.rsq.state = .wait then p.pcu.plan.key else none)
        (p.adu.state == .solo)) } := by
  unfold offerPresence
  rw [buildPresence_eq hc h, presenceDraw_eq]
  rfl

/-- Settles O39: the timer runs on, and outside PARKED the Presence is offered. -/
theorem presenceTimerOffers : Obligations.PresenceTimerOffers := by
  intro s code hs he hcode
  refine (State.runExpiry_of_expires (timer := (·.fre.presenceTimer)) Part.presenceExpires hs he).trans ?_
  have runs : s.part.presenceExpires = if s.part.rsq.state = .parked
      then s.part.mapFre fun r => { r with presenceTimer := .running 250000 }
      else (s.part.mapFre fun r => { r with presenceTimer := .running 250000 }).offerPresence := if_pos he.1
  rw [runs]
  split
  · rfl
  · exact congrArg (fun q => Host.Outcome.next { s with part := q }) (Part.offerPresence_eq (p := s.part.mapFre _) hs.2 hcode)

/-! ## The start of an attempt -/

/-- An event in a working part. -/
theorem State.run_of_working {s : State} (f : Part → Part) (hw : s.working) : s.run f = .next { s with part := f s.part } := by
  rw [run_eq, Part.whenWorking_of_high _ _ hw]

/-- The conditions of an attempt (R94). -/
theorem Part.mayStart_iff {p : Part} : p.mayStart = true ↔
    p.lif.lineState = .idle ∧ (p.lif.filtered = false ∧ p.lif.traffic = false ∧ 96 ≤ p.lif.samples ∧ p.lif.loopRun = none)
      ∧ p.fre.duplicate = false ∧ p.fre.inFlight = none ∧ p.fre.phase = .idle ∧ p.fre.queue ≠ [] := by
  have released : decide (lu 24 ≤ p.lif.samples) = true ↔ 96 ≤ p.lif.samples := decide_eq_true_iff
  simp [mayStart, Lif.quiet, released, and_assoc]

theorem Part.startAttempt_of_not_mayStart {p : Part} (h : ¬ p.mayStart = true) : p.startAttempt = p := if_neg h

/-- An attempt starts with the first entry in queue order; the start of a Claim moves ADU on (R94, R58). -/
theorem Part.startAttempt_of_mayStart {p : Part} {e : Entry} {rest : List Entry} (h : p.mayStart = true) (hq : p.fre.queue = e :: rest) :
    p.startAttempt = { p with
      fre := { p.fre with inFlight := some { kind := e.frame.kind, held := none }, role := .sender }
      lif := { p.lif with lineState := .sending, tx := some (openingTx .frame e.frame.bits) }
      adu := if e.frame.kind = .claim then p.adu.enterClaiming else p.adu } := by
  unfold startAttempt
  rw [if_pos h, hq]
  dsimp only
  split <;> rfl

/-- Settles O40: the attempt starts where every condition of `Part.mayStart` holds, and nothing happens where one fails. -/
theorem attemptStartsOnIdleLine : Obligations.AttemptStartsOnIdleLine := by
  intro s hw
  have runs : exec .attemptStart s = .next { s with part := s.part.startAttempt } := State.run_of_working _ hw
  rw [runs]
  refine ⟨fun e rest hq duplicate inFlight phase lineState filtered traffic samples loopRun => ?_, fun fails => ?_⟩
  · have may : s.part.mayStart = true :=
      Part.mayStart_iff.mpr ⟨lineState, ⟨filtered, traffic, samples, loopRun⟩, duplicate, inFlight, phase, by simp [hq]⟩
    have claiming : (if e.frame.kind = .claim then s.part.adu.enterClaiming else s.part.adu)
        = if e.frame.kind = .claim ∧ s.part.adu.state = .queued then { s.part.adu with state := .claiming, retryTimer := .stopped }
          else s.part.adu := by
      rw [ite_and]
      rfl
    rw [Part.startAttempt_of_mayStart may hq, claiming]
    rfl
  · rw [Part.startAttempt_of_not_mayStart]
    rw [Part.mayStart_iff]
    rintro ⟨lineState, ⟨filtered, traffic, samples, -⟩, duplicate, inFlight, -, queue⟩
    obtain h | h | h | h | h | h | h := fails
    · exact queue h
    · simp [duplicate] at h
    · exact h lineState
    · simp [traffic] at h
    · simp [filtered] at h
    · exact h inFlight
    · omega

end Sys2Proof.Machine
end

section
/-! PROOF. The traffic given up after the line has turned (R100, R103): a symbol error, and an edge after the data end. -/

namespace Sys2Proof.Machine

-- Checked one after another: side by side, each waiting proof keeps a thread of its own.
set_option Elab.async false

section
variable {q p r : Part} {k : Option ErrorKind} {mark : Bool}

/-! ## What a giving up reads of the part before it -/

/-- An event of the line in a part that listens to it. -/
theorem State.run_of_listening {s : State} (f : Part → Part) (hl : s.listening) :
    s.run (Part.whenListening f) = .next { s with part := f s.part } := by
  rw [run_of_working _ hl.1, Part.whenListening, hl.2]
  rfl

theorem Part.sameOutside.mono {a b : List Block} (h : q.sameOutside a p) (hab : a ⊆ b) : q.sameOutside b p := by
  obtain ⟨rsq, pcu, adu, pvw, fre, lif, liu, anu, lpc, pins, choices⟩ := h
  exact ⟨fun n => rsq (mt (@hab _) n), fun n => pcu (mt (@hab _) n), fun n => adu (mt (@hab _) n), fun n => pvw (mt (@hab _) n),
    fun n => fre (mt (@hab _) n), fun n => lif (mt (@hab _) n), fun n => liu (mt (@hab _) n), fun n => anu (mt (@hab _) n),
    fun n => lpc (mt (@hab _) n), fun n => pins (mt (@hab _) n), fun n => choices (mt (@hab _) n)⟩

/-- The end of an attempt reads the queue, the entry in flight, the report owed and the LOST retry. -/
theorem Part.attemptFailsAs.congr (h : q.attemptFailsAs r) (queue : r.fre.queue = p.fre.queue)
    (inFlight : r.fre.inFlight = p.fre.inFlight) (report : r.fre.report = p.fre.report) (retry : r.lif.retry = p.lif.retry) :
    q.attemptFailsAs p := by
  unfold Part.attemptFailsAs Part.queueFits at h ⊢
  rwa [queue, inFlight, report, retry] at h

/-- A giving up reads FRE's record, the LOST retry, whether the node is a holder and whether the line is LOST. -/
theorem Part.givesUpAs.congr (h : q.givesUpAs mark r) (fre : r.fre = p.fre) (adu : r.adu = p.adu)
    (retry : r.lif.retry = p.lif.retry) (lost : r.lif.lineState = .lost ↔ p.lif.lineState = .lost) : q.givesUpAs mark p := by
  obtain ⟨discards, own, others⟩ := h
  rw [fre] at discards own others
  refine ⟨discards, fun role => ?_, fun sender claimant => ?_⟩
  · obtain ⟨fails, tx⟩ := own role
    exact ⟨fails.congr (by rw [fre]) (by rw [fre]) (by rw [fre]) retry, tx⟩
  · obtain ⟨queue, inFlight, report, retried, tx⟩ := others sender claimant
    exact ⟨queue, inFlight, report, retried.trans retry, tx.trans (if_congr (by rw [adu, ne_eq, lost]) rfl rfl)⟩

/-- The part once the line has turned, as a giving up reads it. -/
structure Part.LineTurned (r p : Part) : Prop where
  fre       : r.fre = p.fre
  adu       : r.adu = p.adu
  retry     : r.lif.retry = p.lif.retry
  lineState : ∀ x : LineState, x ≠ .idle → x ≠ .busy → x ≠ .sending → (r.lif.lineState = x ↔ p.lif.lineState = x)
  outside   : r.sameOutside [.lif, .pins] p

theorem Part.lineTurned_driven (p : Part) : p.lineTurnsDriven.LineTurned p where
  fre := lineTurnsDriven_fre p
  adu := lineTurnsDriven_adu p
  retry := by unfold lineTurnsDriven; split <;> rfl
  lineState _ hi hb _ := p.lineTurnsDriven_lineState hi hb
  outside := by unfold lineTurnsDriven; split <;> simp [sameOutside]

theorem Part.lineTurned_released (p : Part) : p.lineTurnsReleased.LineTurned p :=
  ⟨rfl, rfl, rfl, fun _ _ _ _ => Iff.rfl, by simp [sameOutside, lineTurnsReleased]⟩

/-- The traffic in progress is given up as the line turns, on a line that is neither HELD nor STUCK. -/
theorem Part.LineTurned.abandon (h : r.LineTurned p) (k : Option ErrorKind) (mark : Bool) (hh : p.lif.lineState ≠ .held)
    (hs : p.lif.lineState ≠ .stuck) :
    (r.abandon k mark).givesUpAs mark p
      ∧ (r.abandon k mark).fre.counters = (p.fre.countError k).counters
      ∧ (r.abandon k mark).lif = { r.lif with tx := (r.abandon k mark).lif.tx, retry := (r.abandon k mark).lif.retry }
      ∧ (r.abandon k mark).sameOutside [.fre, .lif, .pins] p := by
  obtain ⟨gives, counters, lif, outside⟩ := abandon_givesUpAs (p := r) k mark
    (mt (h.lineState .held nofun nofun nofun).mp hh) (mt (h.lineState .stuck nofun nofun nofun).mp hs)
  rw [h.fre] at counters
  exact ⟨gives.congr h.fre h.adu h.retry (h.lineState .lost nofun nofun nofun), counters, lif,
    (outside.mono (by simp)).trans (h.outside.mono (by simp))⟩

/-! ## A symbol error (R100, R110, R111) -/

theorem Lif.silent_eq_false_iff {l : Lif} : l.silent = false ↔ l.lineState ≠ .held ∧ l.lineState ≠ .stuck := by simp [silent]

/-- A symbol error in a frame or a window in progress. -/
theorem Part.takeSymbolError (h : p.fre.phase = .frame ∨ p.fre.phase = .window) :
    p.takeSymbol .symbolError = p.abandon (some .symbol) true := by
  refine if_neg fun hd => ?_
  simp [hd] at h

/-- A driven phase of 7 to 9 or of 15 to 39 LU in traffic is a symbol error (R110). -/
theorem classify_symbolError {length : Nat} (h : (SymbolFault.driven length).wellFormed = true) (h7 : 7 ≤ length) :
    classify false length = some .symbolError := by
  have range : 7 ≤ length ∧ length ≤ 9 ∨ 15 ≤ length ∧ length ≤ 39 := by
    simp [SymbolFault.wellFormed] at h
    omega
  unfold classify
  obtain ⟨_, _⟩ | ⟨_, _⟩ := range
  · simp [show ¬ (length = 0 ∨ 40 ≤ length) by omega, show ¬ length ≤ 3 by omega, show ¬ length ≤ 6 by omega,
      show length ≤ 9 by omega]
  · simp [show ¬ (length = 0 ∨ 40 ≤ length) by omega, show ¬ length ≤ 3 by omega, show ¬ length ≤ 6 by omega,
      show ¬ length ≤ 9 by omega, show ¬ length ≤ 14 by omega]

theorem Part.lineTurnsDriven_of_driven (h : p.lif.filtered = true) : p.lineTurnsDriven = p := if_pos h

/-- At the end of a driven phase that is too long for a bit. -/
theorem Part.symbolFault_driven {length : Nat} (hw : (SymbolFault.driven length).wellFormed = true) (h7 : 7 ≤ length)
    (filtered : p.lif.filtered = true) (idleBefore : p.lif.idleBefore = false) (silent : p.lif.silent = false)
    (phase : p.fre.phase = .frame ∨ p.fre.phase = .window) :
    p.symbolFault (.driven length) = p.lineTurnsReleased.abandon (some .symbol) true := by
  have symbol := classify_symbolError hw h7
  unfold symbolFault
  simp only [drivenPhaseEnds, lineTurnsDriven_of_driven filtered, idleBefore, symbol, silent, if_true, Bool.false_eq_true, if_false]
  exact takeSymbolError phase

/-- At the edge that ends a released phase too short or too long for the gap between two bits. -/
theorem Part.symbolFault_edge (length : Nat) (traffic : p.lif.traffic = true) (filtered : p.lif.filtered = false)
    (silent : p.lif.silent = false) (phase : p.fre.phase = .frame ∨ p.fre.phase = .window) :
    p.symbolFault (.edge length) = p.lineTurnsDriven.abandon (some .symbol) true := by
  have silent : p.lineTurnsDriven.lif.silent = false := by
    rw [Lif.silent_eq_false_iff] at silent ⊢
    exact silent.imp (mt (p.lineTurned_driven.lineState .held nofun nofun nofun).mp)
      (mt (p.lineTurned_driven.lineState .stuck nofun nofun nofun).mp)
  unfold symbolFault
  simp only [traffic, filtered, silent, Bool.false_eq_true, if_false, Bool.not_false, and_self, if_true]
  exact takeSymbolError (by rwa [lineTurnsDriven_fre])

end

/-- Settles O43: either way of a symbol error gives up the traffic as the line turns. -/
theorem symbolErrorDiscards : Obligations.SymbolErrorDiscards := by
  intro s e hl hw traffic held stuck phase driven edge
  have silent := Lif.silent_eq_false_iff.mpr ⟨held, stuck⟩
  have runs : exec (.lineSymbolError e) s = .next { s with part := s.part.symbolFault e } :=
    (State.runIf_of_ok _ s hw).trans (State.run_of_listening _ hl)
  refine ⟨_, runs, ?_⟩
  cases e with
  | driven length =>
    obtain ⟨filtered, idleBefore, h7⟩ := driven length rfl
    obtain ⟨gives, counters, lif, outside⟩ := s.part.lineTurned_released.abandon (some .symbol) true held stuck
    rw [Part.symbolFault_driven hw h7 filtered idleBefore silent phase]
    exact ⟨gives, counters, fun _ _ => by rw [lif]; rfl, nofun, outside⟩
  | edge length =>
    have filtered := edge length rfl
    obtain ⟨gives, counters, lif, outside⟩ := s.part.lineTurned_driven.abandon (some .symbol) true held stuck
    rw [Part.symbolFault_edge length traffic filtered silent phase]
    exact ⟨gives, counters, nofun, fun _ _ => by rw [lif, Part.lineTurnsDriven_lif filtered], outside⟩

section
variable {p : Part}

/-! ## An edge after the data end (R101, R103) -/

/-- The data end is past: it is not reached again in the same released phase (R111). -/
theorem Part.dataEndReached_of_past (h : 48 ≤ p.lif.samples) : p.dataEndReached = p :=
  if_neg fun ⟨_, _, hs⟩ => absurd h (Nat.not_le.mpr hs)

/-- The edge is judged once the line has turned driven. -/
theorem Part.edgeAfter_eq (length : Nat) (traffic : p.lif.traffic = true) (filtered : p.lif.filtered = false)
    (past : 48 ≤ p.lif.samples) (silent : p.lif.silent = false) : p.edgeAfter length = p.lineTurnsDriven.judgeEdge length := by
  have silent : p.lineTurnsDriven.lif.silent = false := by
    rw [Lif.silent_eq_false_iff] at silent ⊢
    exact silent.imp (mt (p.lineTurned_driven.lineState .held nofun nofun nofun).mp)
      (mt (p.lineTurned_driven.lineState .stuck nofun nofun nofun).mp)
  unfold edgeAfter
  simp [traffic, filtered, dataEndReached_of_past past, silent]

/-- In a window with room an edge from 14 to 18 LU starts a response. -/
theorem Part.judgeEdge_of_response {length : Nat} (phase : p.fre.phase = .window) (h14 : 14 ≤ length) (h18 : length ≤ 18)
    (room : p.fre.list.length < 15) :
    p.judgeEdge length = p.mapFre fun r => { r with inResponse := true, rx := .empty } := by
  unfold judgeEdge
  rw [phase]
  exact if_pos ⟨h14, h18, room⟩

/-- Every other edge in a window, and every one after the data end of another frame, is a framing error. -/
theorem Part.judgeEdge_of_fault {length : Nat} (fault : (p.fre.phase = .window ∧ (length < 14 ∨ 18 < length ∨ 15 ≤ p.fre.list.length))
    ∨ p.fre.phase = .frame) : p.judgeEdge length = p.abandon (some .framing) true := by
  unfold judgeEdge
  obtain ⟨phase, out⟩ | phase := fault <;> rw [phase]
  exact if_neg (by omega)

/-- With no frame and no window in progress the edge alone counts. -/
theorem Part.judgeEdge_of_other {length : Nat} (window : p.fre.phase ≠ .window) (frame : p.fre.phase ≠ .frame) :
    p.judgeEdge length = p := by
  unfold judgeEdge
  split
  · contradiction
  · contradiction
  all_goals rfl

/-- The edge of the first of several bits of a response of the node's own (R112). -/
theorem Tx.edgeSeen_of_response {t : Tx} {first : Bool} {rest : List Bool} (driving : t.driving = true) (begun : t.begun = 1)
    (bits : t.bits = first :: rest) (more : rest ≠ []) :
    t.edgeSeen = { t with shown := true, releaseDue := some (if first then 2 else 14), edgeDue := some 26 } := by
  have pos : 1 < rest.length + 1 := Nat.lt_add_of_pos_left (List.length_pos_iff.mpr more)
  unfold edgeSeen
  cases first <;> simp [driving, begun, bits, pos, lu, filterDelay, Config.samplesPerLU]

end

/-- Settles O46: the edge turns the line driven, and is judged by `Part.judgeEdge`. -/
theorem edgeAfterDataEndJudged : Obligations.EdgeAfterDataEndJudged := by
  intro s lu hl h12 h23 traffic filtered past lineState
  have held : s.part.lif.lineState ≠ .held := by rintro h; simp [h] at lineState
  have stuck : s.part.lif.lineState ≠ .stuck := by rintro h; simp [h] at lineState
  have idle : s.part.lif.lineState ≠ .idle := by rintro h; simp [h] at lineState
  have runs : exec (.edgeAfterDataEnd lu) s = .next { s with part := s.part.lineTurnsDriven.judgeEdge lu } := by
    have ok : (Instr.edgeAfterDataEnd lu).wellFormed = true := by simp [Instr.wellFormed, h12, h23]
    rw [← Part.edgeAfter_eq lu traffic filtered past (Lif.silent_eq_false_iff.mpr ⟨held, stuck⟩)]
    exact (State.runIf_of_ok _ s ok).trans (State.run_of_listening _ hl)
  have turned := s.part.lineTurned_driven
  have lif : s.part.lineTurnsDriven.lif = { s.part.lif with
      integrator := 6, filtered := true, samples := 0, idleBefore := false, tx := s.part.lif.tx.map Tx.edgeSeen } := by
    simp [Part.lineTurnsDriven_lif filtered, traffic, idle]
  obtain ⟨gives, counters, gaveUp, outside⟩ := turned.abandon (some .framing) true held stuck
  refine ⟨_, runs, ?_⟩
  by_cases fault : (s.part.fre.phase = .window ∧ (lu < 14 ∨ 18 < lu ∨ 15 ≤ s.part.fre.list.length)) ∨ s.part.fre.phase = .frame
  · rw [Part.judgeEdge_of_fault (by rwa [turned.fre])]
    refine ⟨by rw [gaveUp, lif], outside, fun window h14 h18 room => ?_, fun _ => ⟨gives, counters⟩⟩
    obtain ⟨-, out⟩ | frame := fault
    · omega
    · simp [frame] at window
  · have outside := turned.outside.mono (b := [.fre, .lif, .pins]) (by simp)
    by_cases window : s.part.fre.phase = .window
    · have within : 14 ≤ lu ∧ lu ≤ 18 ∧ s.part.fre.list.length < 15 := by
        simp only [window, true_and, reduceCtorEq, or_false] at fault
        omega
      obtain ⟨h14, h18, room⟩ := within
      rw [Part.judgeEdge_of_response (by rwa [turned.fre]) h14 h18 (by rwa [turned.fre])]
      refine ⟨by simp [lif], ?_, fun _ _ _ _ => ⟨?_, turned.retry, fun none => ?_, ?_⟩, fun h => absurd h fault⟩
      · exact Part.sameOutside.trans (by simp [Part.sameOutside]) outside
      · rw [Part.mapFre_fre, turned.fre]
      · rw [Part.mapFre_lif, lif, none]; rfl
      · intro t first rest tx _ driving begun bits more
        rw [Part.mapFre_lif, lif, tx]
        exact congrArg some (Tx.edgeSeen_of_response driving begun bits more)
    · rw [Part.judgeEdge_of_other (by rwa [turned.fre]) fun frame => fault (.inr (by rwa [turned.fre] at frame))]
      exact ⟨by rw [lif], outside, fun h => absurd h window, fun h => absurd h fault⟩

end Sys2Proof.Machine
end

section
/-! PROOF. A complete response (R101 to R105), and the duplicate that one may be (R105, R106). -/

namespace Sys2Proof.Machine

-- Checked one after another: side by side, each waiting proof keeps a thread of its own.
set_option Elab.async false

section
variable {p : Part}

/-! ## A duplicate (R105, R106) -/

theorem Part.lineAvailable_of_duplicate (h : p.fre.duplicate = true) : p.lineAvailable = false := by simp [lineAvailable, h]

theorem Part.recordDuplicate_fre (p : Part) : p.recordDuplicate.fre = { p.fre with duplicate := true } := by
  unfold recordDuplicate; dsimp only; split <;> simp

theorem Part.recordDuplicate_lif (p : Part) : p.recordDuplicate.lif = { p.lif with tx := none } := by
  unfold recordDuplicate; dsimp only; split <;> simp

/-- Of ADU's record the retry timer alone may move, in QUEUED (R56, R74). -/
theorem Part.recordDuplicate_adu (p : Part) : ∃ t, p.recordDuplicate.adu = { p.adu with retryTimer := t } := by
  unfold recordDuplicate lineBecameUnavailable
  dsimp only
  repeat' split
  all_goals exact ⟨_, rfl⟩

theorem Part.recordDuplicate_sameOutside (p : Part) : p.recordDuplicate.sameOutside [.fre, .lif, .adu] p := by
  simp [sameOutside]

/-- Spoiling a lost attempt leaves FRE's record but for the queue, the entry in flight and the report owed. -/
theorem Fre.spoilLost_eq (r : Fre) :
    r.spoilLost = { r with queue := r.spoilLost.queue, inFlight := r.spoilLost.inFlight, report := r.spoilLost.report } := by
  obtain ⟨-, h⟩ | ⟨k, -, h⟩ := r.spoilLost_cases <;> rw [h]
  rfl

/-- The part as the duplicate is recorded and the attempt lost in the same traffic is counted (R74, R105). -/
def Part.duplicateFound (p : Part) : Part := p.recordDuplicate.mapFre Fre.spoilLost

theorem Part.duplicateFound_fre (p : Part) :
    p.duplicateFound.fre = { p.fre with
      duplicate := true, queue := p.duplicateFound.fre.queue, inFlight := p.duplicateFound.fre.inFlight
      report := p.duplicateFound.fre.report } := by
  unfold duplicateFound
  rw [mapFre_fre, Fre.spoilLost_eq, recordDuplicate_fre]

theorem Part.duplicateFound_sameOutside (p : Part) : p.duplicateFound.sameOutside [.fre, .lif, .adu] p :=
  Part.sameOutside.trans (r := p.recordDuplicate) (by simp [duplicateFound, sameOutside]) p.recordDuplicate_sameOutside

/-- A response duplicate spoils the window: no counter has it, and no error mark answers it (R103, R105). -/
theorem Part.duplicateResponse_spec (hh : p.lif.lineState ≠ .held) (hs : p.lif.lineState ≠ .stuck) :
    p.duplicateResponse.fre = { p.fre with
        phase := .discard, rx := .empty, valid := none, inResponse := false, role := .receiver, duplicate := true
        windowAbandoned := p.fre.windowAbandoned || p.fre.phase == .window
        queue := p.duplicateResponse.fre.queue, inFlight := p.duplicateResponse.fre.inFlight
        report := p.duplicateResponse.fre.report }
      ∧ p.duplicateResponse.lif = { p.lif with tx := none, retry := p.duplicateResponse.lif.retry }
      ∧ p.duplicateResponse.lineAvailable = false
      ∧ p.duplicateResponse.sameOutside [.fre, .lif, .adu] p
      ∧ p.duplicateResponse.givesUpAs false p.duplicateFound := by
  have lif : p.duplicateFound.lif = { p.lif with tx := none } := p.recordDuplicate_lif
  have spec := abandon_givesUpAs (p := p.duplicateFound) none false (by rwa [lif]) (by rwa [lif])
  rw [show p.duplicateFound.abandon none false = p.duplicateResponse from rfl] at spec
  obtain ⟨gives, counters, line, outside⟩ := spec
  obtain ⟨discards, own, others⟩ := id gives
  have tx : p.duplicateResponse.lif.tx = none := by
    by_cases role : p.duplicateFound.fre.role = .sender ∨ p.duplicateFound.fre.role = .claimant
    · exact (own role).2
    · obtain ⟨sender, claimant⟩ := not_or.mp role
      obtain ⟨-, -, -, -, tx⟩ := others sender claimant
      simpa using tx
  have fre : p.duplicateResponse.fre = { p.fre with
      phase := .discard, rx := .empty, valid := none, inResponse := false, role := .receiver, duplicate := true
      windowAbandoned := p.fre.windowAbandoned || p.fre.phase == .window
      queue := p.duplicateResponse.fre.queue, inFlight := p.duplicateResponse.fre.inFlight
      report := p.duplicateResponse.fre.report } := by
    have counters : p.duplicateResponse.fre.counters = p.fre.counters := by
      refine counters.trans ?_
      rw [Fre.countError, duplicateFound_fre]
    rw [counters, duplicateFound_fre] at discards
    exact discards
  refine ⟨fre, ?_, lineAvailable_of_duplicate (by rw [fre]), (outside.mono (by simp)).trans p.duplicateFound_sameOutside, gives⟩
  rw [lif] at line
  exact line.trans (congrArg (fun t => { p.lif with tx := t, retry := p.duplicateResponse.lif.retry }) tx)

/-! ## The tests of a response (R101) -/

theorem nodeOfByte_eq_some_iff {b : Byte} {n : Node} : nodeOfByte b = some n ↔ b.toNat = n.toNat := by
  unfold nodeOfByte
  have small := n.isLt
  split
  next h =>
    rw [Option.some.injEq, ← BitVec.toNat_inj, BitVec.toNat_ofNat, Nat.mod_eq_of_lt (by omega)]
  next h => exact ⟨nofun, fun e => by omega⟩

theorem responseValid_iff {list : List (Node × Nat)} {claimant : Option (Node × Nat)} {nodeByte drawByte : Byte} :
    responseValid list claimant nodeByte drawByte = true ↔
      nodeByte.toNat ≤ 15 ∧ 1 ≤ drawByte.toNat ∧ (∀ e ∈ list, e.1.toNat < nodeByte.toNat)
        ∧ ∀ c, claimant = some c → c.1.toNat ≠ nodeByte.toNat := by
  have node : (nodeOfByte nodeByte).isSome = true ↔ nodeByte.toNat ≤ 15 := by
    unfold nodeOfByte
    split <;> simp [*]
  cases claimant <;> simp [responseValid, node, and_assoc]

/-- The response that passes keeps the list ascending and without the claimant. -/
theorem Part.rollCallFits.append {r : Fre} (h : p.rollCallFits) {nodeByte : Byte} {draw : Nat} (node : nodeByte.toNat ≤ 15)
    (last : ∀ e ∈ p.fre.list, e.1.toNat < nodeByte.toNat)
    (other : ∀ c, p.fre.claimant = some c → c.1.toNat ≠ nodeByte.toNat)
    (list : r.list = p.fre.list ++ [(BitVec.ofNat 4 nodeByte.toNat, draw)]) (claimant : r.claimant = p.fre.claimant) :
    ({ p with fre := r } : Part).rollCallFits := by
  obtain ⟨ascends, apart⟩ := h
  have value : (BitVec.ofNat 4 nodeByte.toNat).toNat = nodeByte.toNat := by
    rw [BitVec.toNat_ofNat]; exact Nat.mod_eq_of_lt (by omega)
  unfold Part.rollCallFits
  dsimp only
  rw [list, claimant]
  refine ⟨List.pairwise_append.mpr ⟨ascends, List.pairwise_singleton .., fun a ha b hb => ?_⟩, fun c hc e he => ?_⟩
  · obtain rfl := List.mem_singleton.mp hb
    rw [value]
    exact last a ha
  · obtain he | he := List.mem_append.mp he
    · exact apart c hc e he
    · obtain rfl := List.mem_singleton.mp he
      intro same
      exact other c hc (by rw [← same, value])

/-! ## A complete response -/

/-- The part with the node's own response marked, where it is one (R102, R114). -/
def Part.responseMarked (sent : Bool) (p : Part) : Part :=
  { p with
    fre := { p.fre with listed := p.fre.listed || sent }
    lif := { p.lif with echoRun := if sent then 0 else p.lif.echoRun } }

/-- A response with the node's own number that the node has not sent is a duplicate (R105). -/
theorem Part.takeResponse_of_own (hc : p.lpc.committed = true)
    (own : (byteAt p.fre.rx.bytes 0).toNat = p.settings.node.toNat) : p.takeResponse false = p.duplicateResponse := by
  have node : nodeOfByte (byteAt p.fre.rx.bytes 0) = some p.settings.node := nodeOfByte_eq_some_iff.mpr own
  unfold takeResponse
  simp [ownNode, hc, node]

/-- Any other is tested (R101). -/
theorem Part.takeResponse_of_other {sent : Bool} (hc : p.lpc.committed = true)
    (other : sent = true ∨ (byteAt p.fre.rx.bytes 0).toNat ≠ p.settings.node.toNat) :
    p.takeResponse sent =
      if responseValid p.fre.list p.fre.claimant (byteAt p.fre.rx.bytes 0) (byteAt p.fre.rx.bytes 1) = true then
        (p.responseMarked sent).mapFre fun r => { r with
          list := r.list ++ [(BitVec.ofNat 4 (byteAt p.fre.rx.bytes 0).toNat, (byteAt p.fre.rx.bytes 1).toNat)], rx := .empty
          inResponse := false }
      else (p.responseMarked sent).abandon (some .framing) true := by
  have apart : ¬ ((!sent) = true ∧ p.ownNode.isSome = true ∧ nodeOfByte (byteAt p.fre.rx.bytes 0) = p.ownNode) := by
    rintro ⟨hs, -, hn⟩
    obtain h | h := other
    · simp [h] at hs
    · simp only [ownNode, hc, if_true] at hn
      exact h (nodeOfByte_eq_some_iff.mp hn)
  have marked : (if sent = true then (p.mapFre fun r => { r with listed := true }).mapLif fun l => { l with echoRun := 0 } else p)
      = p.responseMarked sent := by
    cases sent <;> simp [responseMarked, mapFre, mapLif]
  unfold takeResponse
  dsimp only
  rw [if_neg apart, marked]
  rfl

end

/-- Settles O47: the response is a duplicate, joins the list or spoils the window, by `Part.takeResponse`. -/
theorem responseTakenIntoList : Obligations.ResponseTakenIntoList := by
  intro s nodeByte drawByte hw hc fits held stuck phase inResponse rx sent hsent
  have complete : s.part.fre.responseComplete = true := by simp [Fre.responseComplete, phase, inResponse, rx, RxBuffer.bits]
  have responseSent : s.part.lif.responseSent = sent := by
    rw [Bool.eq_iff_iff, hsent]
    unfold Lif.responseSent
    cases s.part.lif.tx <;> simp [and_assoc]
  have runs : exec .rollCallResponse s = .next { s with part := s.part.takeResponse sent } := by
    refine (State.run_of_working _ hw).trans ?_
    simp only [complete, if_true, responseSent]
  have byte0 : byteAt s.part.fre.rx.bytes 0 = nodeByte := by rw [rx]; rfl
  have byte1 : byteAt s.part.fre.rx.bytes 1 = drawByte := by rw [rx]; rfl
  refine ⟨_, runs, fun notSent own => ?_, fun other p hp => ?_⟩
  · rw [notSent, Part.takeResponse_of_own hc (by rwa [byte0])]
    obtain ⟨fre, lif, available, -, gives⟩ := Part.duplicateResponse_spec (p := s.part) held stuck
    refine ⟨by rw [fre], by rw [fre], by rw [fre, phase]; simp, by rw [fre], by rw [fre], by rw [lif], available,
      fun claimant lostKind => ?_⟩
    have found : s.part.duplicateFound.fre = { s.part.fre with duplicate := true } := by
      unfold Part.duplicateFound
      rw [Part.mapFre_fre, Fre.spoilLost_of_none, Part.recordDuplicate_fre]
      rw [Part.recordDuplicate_fre]
      exact lostKind
    obtain ⟨-, own, -⟩ := gives
    have fails := (own (.inr (by rw [found]; exact claimant))).1
    refine fails.congr ?_ ?_ ?_ ?_
    · rw [found]
    · rw [found]
    · rw [found]
    · exact congrArg (·.retry) s.part.recordDuplicate_lif
  · rw [Part.takeResponse_of_other hc (by rwa [byte0]), byte0, byte1]
    have hp : s.part.responseMarked sent = p := hp.symm
    refine ⟨fun ⟨node, draw, last, apart⟩ => ?_, fun fault => ?_⟩
    · rw [if_pos (responseValid_iff.mpr ⟨node, draw, last, apart⟩), hp]
      subst hp
      exact ⟨rfl, fits.append (r := { (s.part.responseMarked sent).fre with
        list := s.part.fre.list ++ [(BitVec.ofNat 4 nodeByte.toNat, drawByte.toNat)], rx := .empty
        inResponse := false }) node last apart rfl rfl⟩
    · have invalid : ¬ responseValid s.part.fre.list s.part.fre.claimant nodeByte drawByte = true := by
        rw [responseValid_iff]
        rintro ⟨node, draw, last, apart⟩
        obtain h | h | ⟨e, he, h⟩ | ⟨c, hcl, h⟩ := fault
        · omega
        · omega
        · exact absurd (last e he) (by omega)
        · exact apart c hcl h
      rw [if_neg invalid, hp]
      subst hp
      obtain ⟨gives, counters, lif, outside⟩ :=
        Part.abandon_givesUpAs (p := s.part.responseMarked sent) (some .framing) true held stuck
      exact ⟨gives, outside.trans (by simp [Part.sameOutside, Part.responseMarked]), lif, counters⟩

end Sys2Proof.Machine
end

section
/-! PROOF. The data end of a frame (R98, R99, R101), and a holder's answer to the roll-call it opens (R102). -/

namespace Sys2Proof.Machine

-- Checked one after another: side by side, each waiting proof keeps a thread of its own.
set_option Elab.async false

section
variable {p : Part} {f : Frame} {draw : Nat}

/-! ## The frame is tested (R98) -/

theorem exec_dataEnd {s : State} (hl : s.listening) : exec .dataEnd s = .next { s with part := s.part.dataEndReached } :=
  State.run_of_listening _ hl

/-- The part as LIF has reported the data end (R111). -/
def Part.dataEnded (p : Part) : Part := { p with lif := { p.lif with samples := 48, tx := none } }

/-- A frame in progress on a line that is neither HELD nor STUCK, released for 12 LU. -/
structure Part.FrameEnds (p : Part) : Prop where
  traffic  : p.lif.traffic = true
  released : p.lif.filtered = false
  due      : p.lif.samples < 48
  held     : p.lif.lineState ≠ .held
  stuck    : p.lif.lineState ≠ .stuck
  phase    : p.fre.phase = .frame
  valid    : p.fre.valid = none

theorem Part.FrameEnds.dataEndReached (h : p.FrameEnds) : p.dataEndReached = p.dataEnded.testReceived := by
  have due : p.lif.traffic = true ∧ (!p.lif.filtered) = true ∧ p.lif.samples < lu 12 := ⟨h.traffic, by simp [h.released], h.due⟩
  have silent : p.lif.silent = false := Lif.silent_eq_false_iff.mpr ⟨h.held, h.stuck⟩
  have silent : p.dataEnded.lif.silent = false := silent
  have tested (sent : Bool) : p.dataEnded.boundary sent = p.dataEnded.testReceived := by
    unfold boundary
    rw [show p.dataEnded.fre.phase = .frame from h.phase]
    exact if_neg (by simp [dataEnded, h.valid])
  unfold Part.dataEndReached
  rw [if_pos due]
  change (if p.dataEnded.lif.silent = true then p.dataEnded else p.dataEnded.boundary _) = _
  rw [if_neg (by simp [silent]), tested]

/-- The data end reads no more of LIF than a giving up does. -/
theorem Part.FrameEnds.abandon (h : p.FrameEnds) (k : ErrorKind) (mark : Bool) :
    let q := p.dataEnded.abandon (some k) mark
    q.givesUpAs mark p ∧ q.sameOutside [.fre, .lif] p ∧ q.fre.counters = p.fre.counters.count k
      ∧ q.lif = { p.lif with samples := 48, tx := q.lif.tx, retry := q.lif.retry } := by
  obtain ⟨gives, counters, lif, outside⟩ := abandon_givesUpAs (p := p.dataEnded) (some k) mark h.held h.stuck
  exact ⟨gives.congr rfl rfl rfl Iff.rfl, outside.trans (by simp [sameOutside, dataEnded]), counters, lif⟩

/-- A received frame with the node's own number (R105). -/
theorem Part.duplicateFrame_spec (p : Part) :
    p.duplicateFrame.fre.duplicate = true ∧ p.duplicateFrame.fre.phase = .discard
      ∧ p.duplicateFrame.fre.counters = p.fre.counters ∧ p.duplicateFrame.lineAvailable = false
      ∧ p.duplicateFrame.lif = { p.lif with tx := none } := by
  have fre : p.duplicateFrame.fre = p.duplicateFound.fre.discard := rfl
  have duplicate : p.duplicateFrame.fre.duplicate = true := by rw [fre, duplicateFound_fre]; rfl
  refine ⟨duplicate, rfl, ?_, lineAvailable_of_duplicate duplicate, p.recordDuplicate_lif⟩
  rw [fre, duplicateFound_fre]
  rfl

/-- A failing test gives the frame up; an unknown kind is answered by no mark (R98, R100). -/
theorem Part.testReceived_of_failed (p : Part) :
    (testBuffer p.fre.rx = .framing → p.testReceived = p.abandon (some .framing) true)
      ∧ (testBuffer p.fre.rx = .check → p.testReceived = p.abandon (some .check) true)
      ∧ (testBuffer p.fre.rx = .unknownKind → p.testReceived = p.abandon (some .unknownKind) false) := by
  unfold testReceived
  refine ⟨fun h => ?_, fun h => ?_, fun h => ?_⟩
  all_goals rw [h]

/-- What a valid frame brings: a duplicate, or its acceptance (R98, R105). -/
theorem Part.testReceived_of_valid (h : testBuffer p.fre.rx = .valid f) (hc : p.lpc.committed = true) :
    (p.fre.isSender = false ∧ f.node = p.settings.node → p.testReceived = p.duplicateFrame)
      ∧ (p.fre.isSender = true ∨ f.node ≠ p.settings.node → p.testReceived = p.acceptFrame f) := by
  have own : p.ownNode = some f.node ↔ f.node = p.settings.node := by simp [ownNode, hc, eq_comm]
  unfold testReceived
  rw [h]
  refine ⟨fun ⟨sender, node⟩ => if_pos ⟨by simp [sender], own.mpr node⟩, fun accepted => if_neg ?_⟩
  rintro ⟨sender, node⟩
  obtain h | h := accepted
  · simp [h] at sender
  · exact h (own.mp node)

/-- A frame that is no CLAIM waits for its frame end (R99). -/
theorem Part.acceptFrame_of_not_claim (h : f.kind ≠ .claim) : p.acceptFrame f = p.mapFre fun r => { r with valid := some f } := by
  cases f with
  | claim k u => simp [Frame.kind] at h
  | release o n | adjust n d | presence n b => rfl

/-! ## A window opens (R101, R102) -/

/-- The part as a CLAIM has opened its window in FRE, and PVW has not yet taken it. -/
def Part.windowOpened (f : Frame) (draw : Nat) (p : Part) : Part :=
  p.mapFre fun r => { r with
    phase := .window, rx := .empty, inResponse := false, listed := false, list := [], claimant := some (f.node, draw)
    role := p.windowRole
    response := if p.windowRole = .responder then some (p.settings.node, p.adu.heldDraw) else none }

theorem Part.openWindow_of_own (h : p.fre.isSender = true) : p.openWindow f draw = p.windowOpened f draw := if_pos h

theorem Part.openWindow_of_peer (h : p.fre.isSender = false) : p.openWindow f draw = (p.windowOpened f draw).peerFrame f :=
  if_neg (by simp [h])

/-- The node's role in a window that it has not opened (R102). -/
theorem Part.windowRole_of_receiver {responds : Prop} (h : p.fre.role = .receiver)
    (hr : responds ↔ p.adu.isHolder = true ∧ p.lif.lineState ≠ .lost ∧ p.fre.duplicate = false) :
    (responds → p.windowRole = .responder) ∧ (¬ responds → p.windowRole = .listener) := by
  have may : (p.adu.isHolder && p.lif.lineState != .lost && !p.fre.duplicate) = true ↔ responds := by simp [hr, and_assoc]
  unfold windowRole
  rw [h, if_neg (by simp)]
  exact ⟨fun r => if_pos (may.mpr r), fun r => if_neg (mt may.mp r)⟩

/-- A peer's CLAIM gives its sender's record code 5 and the key, and stands for the judgement of its window (R79). -/
theorem Part.peerFrame_claim (hc : p.lpc.committed = true) (key : Key) (u : Nat) :
    ∃ e m d, (p.peerFrame (.claim key u)).pvw = { p.pvw with
      claim := some ((Frame.claim key u).node, u)
      records := upsert (Frame.claim key u).node (.takeClaim key) p.pvw.records, sEff := e, mismatch := m, deferral := d } := by
  obtain ⟨e, m, d, view, -⟩ := (p.mapPvw fun v => { v with claim := some ((Frame.claim key u).node, u) }).updateRecord_pvw
    (Frame.claim key u).node (.takeClaim key) false
  unfold peerFrame
  rw [if_pos hc]
  dsimp only
  rw [reevaluateDeferral_pvw, view]
  exact ⟨_, _, _, rfl⟩

/-- A peer's CLAIM as PVW takes it leaves FRE as the window has opened, but for the queue and the entry in flight. -/
theorem Part.openWindow_fre_of_peer (h : p.fre.isSender = false) :
    (p.openWindow f draw).fre = { (p.windowOpened f draw).fre with
      queue := (p.openWindow f draw).fre.queue, inFlight := (p.openWindow f draw).fre.inFlight } := by
  rw [openWindow_of_peer h]
  exact Fre.eq_of_rest (peerFrame_rest ..)

end

/-- Settles O44: the frame fails its tests, is a duplicate, waits for its frame end, or opens a window. -/
theorem dataEndTestsFrame : Obligations.DataEndTestsFrame := by
  intro s hl hc traffic released due held stuck phase valid role
  have ends : s.part.FrameEnds := ⟨traffic, released, due, held, stuck, phase, valid⟩
  refine ⟨s.part.dataEnded.testReceived, by rw [exec_dataEnd hl, ends.dataEndReached], ?_⟩
  obtain ⟨framing, check, unknownKind⟩ := s.part.dataEnded.testReceived_of_failed
  cases test : testBuffer s.part.fre.rx with
  | framing =>
    obtain ⟨gives, outside, counters, lif⟩ := ends.abandon .framing true
    rw [framing test]
    exact ⟨lif, fun _ => ⟨gives, outside, counters⟩, nofun, nofun, nofun⟩
  | check =>
    obtain ⟨gives, outside, counters, lif⟩ := ends.abandon .check true
    rw [check test]
    exact ⟨lif, nofun, fun _ => ⟨gives, outside, counters⟩, nofun, nofun⟩
  | unknownKind =>
    obtain ⟨gives, outside, counters, lif⟩ := ends.abandon .unknownKind false
    rw [unknownKind test]
    exact ⟨lif, nofun, nofun, fun _ => ⟨gives, outside, counters⟩, nofun⟩
  | valid f =>
    obtain ⟨duplicate, accepted⟩ := Part.testReceived_of_valid (p := s.part.dataEnded) (f := f) test hc
    have receives (h : s.part.fre.role = .receiver) : s.part.dataEnded.fre.isSender = false := by
      simp [Part.dataEnded, Fre.isSender, h]
    have sends (h : s.part.fre.role = .sender) : s.part.dataEnded.fre.isSender = true := by
      simp [Part.dataEnded, Fre.isSender, h]
    have accepted (h : s.part.fre.role = .sender ∨ f.node ≠ s.part.settings.node) :
        s.part.dataEnded.testReceived = s.part.dataEnded.acceptFrame f := accepted (h.imp_left sends)
    refine ⟨?_, nofun, nofun, nofun, ?_⟩
    · by_cases own : s.part.fre.role = .receiver ∧ f.node = s.part.settings.node
      · rw [duplicate ⟨receives own.1, own.2⟩]
        obtain ⟨-, -, -, -, lif⟩ := s.part.dataEnded.duplicateFrame_spec
        rw [lif]
        rfl
      · have passes : s.part.fre.role = .sender ∨ f.node ≠ s.part.settings.node :=
          role.elim (fun h => .inr fun n => own ⟨h, n⟩) .inl
        rw [accepted passes, Part.acceptFrame_lif]
        rfl
    · rintro f ⟨⟩ p rfl
      refine ⟨fun receiver node => ?_, fun other kind => ?_, ?_, ?_⟩
      · rw [duplicate ⟨receives receiver, node⟩]
        obtain ⟨recorded, discards, counters, available, lif⟩ := s.part.dataEnded.duplicateFrame_spec
        exact ⟨recorded, discards, counters, available, by rw [lif]⟩
      · rw [accepted other, Part.acceptFrame_of_not_claim kind]
        rfl
      · rintro key draw rfl sender
        have claimant : s.part.dataEnded.windowRole = .claimant := if_pos sender
        rw [accepted (.inl sender), Part.acceptFrame, Part.openWindow_of_own (sends sender), Part.windowOpened, claimant]
        rfl
      · rintro key draw rfl receiver peer responds hresponds
        rw [accepted (.inr peer), Part.acceptFrame]
        obtain ⟨responder, listener⟩ := Part.windowRole_of_receiver (p := s.part.dataEnded) receiver hresponds
        have fre := Part.openWindow_fre_of_peer (f := .claim key draw) (draw := draw) (receives receiver)
        obtain ⟨e, m, d, view⟩ :=
          Part.peerFrame_claim (p := s.part.dataEnded.windowOpened (.claim key draw) draw) hc key draw
        rw [← Part.openWindow_of_peer (receives receiver)] at view
        rw [fre, view, Part.openWindow_lif]
        refine ⟨fun r => ⟨responder r, if_pos (responder r)⟩, fun r => ⟨listener r, if_neg (by simp [listener r])⟩, rfl, rfl, rfl,
          rfl, rfl, rfl, rfl, fun fit => ⟨?_, fun n hn => recordOf_upsert_of_ne (fun _ => rfl) hn⟩⟩
        rintro old rfl
        exact recordOf_upsert fit fun _ => rfl

section
variable {p : Part}

/-! ## A holder answers (R102) -/

/-- What a responder's slot waits for (R102). -/
structure Part.SlotBegun (p : Part) : Prop where
  released   : p.lif.filtered = false
  lineState  : p.lif.lineState ≠ .lost
  duplicate  : p.fre.duplicate = false
  phase      : p.fre.phase = .window
  role       : p.fre.role = .responder
  inResponse : p.fre.inResponse = false
  tx         : p.lif.tx = none
  boundary   : 48 ≤ p.lif.samples

/-- The node byte begins, for as long as the node is not listed. -/
theorem Part.SlotBegun.startResponse (h : p.SlotBegun) {node : Node} {draw : Nat} (response : p.fre.response = some (node, draw)) :
    p.startResponse = if p.fre.listed = true then p
      else { p with lif := { p.lif with tx := some (responseTx (bitsOfBytes (responseBytes node draw))) } } := by
  have boundary : lu 12 ≤ p.lif.samples := h.boundary
  unfold Part.startResponse
  rw [response]
  dsimp only
  cases listed : p.fre.listed
  · exact if_pos ⟨h.phase, h.role, by simp, by simp [h.inResponse], by simp [h.duplicate], h.lineState, by simp [h.released],
      boundary, h.tx⟩
  · exact if_neg fun ⟨_, _, unlisted, _⟩ => by simp at unlisted

/-- An edge that comes more than 1 LU before the first edge of the response is due (R113). -/
theorem Part.SlotBegun.failSymbol (h : p.SlotBegun) (traffic : p.lif.traffic = true) (listed : p.fre.listed = false)
    (early : p.lif.samples < 59) :
    p.failSymbol = (p.lineTurnsDriven.mapLif Lif.stopSending).abandon (some .symbol) true := by
  have window : lu 12 ≤ p.lif.samples ∧ p.lif.samples + 1 < lu 15 := ⟨h.boundary, Nat.succ_lt_succ early⟩
  have due : p.firstEdgeDue = true := by
    simp [firstEdgeDue, h.phase, h.role, listed, h.inResponse, h.duplicate, h.lineState, traffic, h.released, h.tx, window]
  unfold Part.failSymbol
  rw [h.tx]
  exact if_pos due

end

/-- Settles O45: the window makes a responder of the holder, which begins its node byte at its slot, or gives the window up. -/
theorem holderAnswersRollCall : Obligations.HolderAnswersRollCall := by
  intro s hl hc released busy duplicate holder
  have lost : s.part.lif.lineState ≠ .lost := by simp [busy]
  refine ⟨fun key draw traffic due phase valid receiver test peer => ?_,
    fun node draw phase role inResponse response tx boundary => ?_,
    fun traffic phase role listed inResponse tx boundary early => ?_⟩
  · obtain ⟨q, runs, -, -, -, -, accepted⟩ := dataEndTestsFrame s hl hc traffic released due (by simp [busy]) (by simp [busy]) phase
      valid (.inl receiver)
    obtain ⟨-, -, -, opens⟩ := accepted _ test _ rfl
    obtain ⟨responder, -, phase, list, listed, -⟩ := opens key draw rfl receiver peer True (by simp [holder, lost, duplicate])
    obtain ⟨role, response⟩ := responder trivial
    exact ⟨q, runs, phase, role, response, listed, list⟩
  · have slot : s.part.SlotBegun := ⟨released, lost, duplicate, phase, role, inResponse, tx, boundary⟩
    refine (State.run_of_listening _ hl).trans ?_
    rw [slot.startResponse response]
    rfl
  · have slot : s.part.SlotBegun := ⟨released, lost, duplicate, phase, role, inResponse, tx, boundary⟩
    have runs : exec .transmitSymbolError s = .next { s with part := s.part.failSymbol } := State.run_of_working _ hl.1
    rw [slot.failSymbol traffic listed early] at runs
    have turned := s.part.lineTurned_driven
    have line : (s.part.lineTurnsDriven.mapLif Lif.stopSending).LineTurned s.part := by
      refine ⟨turned.fre, turned.adu, turned.retry, fun x hi hb _ => ?_,
        Part.sameOutside.trans (by simp [Part.sameOutside]) turned.outside⟩
      simp [Lif.stopSending, Part.lineTurnsDriven_lif released, busy]
    obtain ⟨⟨discards, -, others⟩, counters, lif, outside⟩ :=
      line.abandon (some .symbol) true (by simp [busy]) (by simp [busy])
    have filtered : (s.part.lineTurnsDriven.mapLif Lif.stopSending).lif.filtered = true := by
      simp [Lif.stopSending, Part.lineTurnsDriven_lif released]
    obtain ⟨-, -, -, -, tx⟩ := others (by simp [role]) (by simp [role])
    rw [if_pos ⟨rfl, holder, duplicate, lost⟩] at tx
    refine ⟨_, runs, by rw [discards], by rw [discards, phase]; simp, by rw [lif]; exact filtered, counters, ?_, outside⟩
    rw [tx, lif, errorMark]
    simp only [filtered]

end Sys2Proof.Machine
end

section
/-! PROOF. Arbitration lost (R95, R102, R105), and the node's own attempt, response or mark failed by its symbols or its echo (R96, R113,
R114, R117). -/

namespace Sys2Proof.Machine

-- Checked one after another: side by side, each waiting proof keeps a thread of its own.
set_option Elab.async false

section
variable {p : Part} {tx : Tx}

/-! ## The drive ends on a line that is driven -/

/-- The part with the node's own drive ended while another holds the line driven (R113). -/
def Part.overdriven (tx : Tx) (p : Part) : Part :=
  (p.mapLif fun l => { l with tx := some { tx with driving := false } }).lineTurnsDriven.othersDrive

theorem Part.overdriven_turned (tx : Tx) (p : Part) : (p.overdriven tx).LineTurned p := by
  have turned := (p.mapLif fun l => { l with tx := some { tx with driving := false } }).lineTurned_driven
  exact ⟨turned.fre, turned.adu, turned.retry, turned.lineState,
    Part.sameOutside.trans (by simp [overdriven, othersDrive, sameOutside])
      (turned.outside.trans (by simp [sameOutside]))⟩

/-- On a line in use the phase alone is new. -/
theorem Part.overdriven_lif (tx : Tx) (h : p.lif.lineState ≠ .idle) :
    (p.overdriven tx).lif.filtered = true ∧ (p.overdriven tx).lif.lineState = p.lif.lineState
      ∧ (p.overdriven tx).lif.echoRun = p.lif.echoRun := by
  unfold overdriven lineTurnsDriven
  split
  next driven => exact ⟨driven, rfl, rfl⟩
  next => exact ⟨rfl, if_neg h, rfl⟩

/-- The part as LIF has stopped driving on a line that is driven (R113, R115). -/
def Part.overdrivenStopped (tx : Tx) (p : Part) : Part := (p.overdriven tx).mapLif Lif.stopSending

theorem Part.overdrivenStopped_lif (tx : Tx) (h : p.lif.lineState = .sending ∨ p.lif.lineState = .busy) :
    let l := (p.overdrivenStopped tx).lif
    l.tx = none ∧ l.lineState = .busy ∧ l.filtered = true ∧ l.traffic = true ∧ l.echoRun = p.lif.echoRun := by
  obtain ⟨filtered, lineState, echoRun⟩ := overdriven_lif (p := p) tx (by obtain h | h := h <;> simp [h])
  refine ⟨rfl, ?_, filtered, rfl, echoRun⟩
  change (if (p.overdriven tx).lif.lineState = .sending then LineState.busy else _) = _
  rw [lineState]
  obtain h | h := h <;> simp [h]

theorem Part.overdrivenStopped_turned (tx : Tx) (h : p.lif.lineState = .sending ∨ p.lif.lineState = .busy) :
    (p.overdrivenStopped tx).LineTurned p := by
  have turned := p.overdriven_turned tx
  obtain ⟨-, lineState, -⟩ := overdrivenStopped_lif (p := p) tx h
  refine ⟨turned.fre, turned.adu, turned.retry, fun x _ hb hs => ?_,
    Part.sameOutside.trans (r := p.overdriven tx) (by simp [overdrivenStopped, sameOutside]) turned.outside⟩
  rw [lineState]
  refine ⟨fun e => absurd e.symm hb, fun e => ?_⟩
  obtain h | h := h
  · exact absurd (e.symm.trans h) hs
  · exact absurd (e.symm.trans h) hb

/-! ## Arbitration lost -/

theorem Tx.sendsOne_iff : tx.sendsOne = true ↔
    tx.source ≠ .mark ∧ tx.source ≠ .loopback ∧ 0 < tx.begun ∧ tx.bits.getD (tx.begun - 1) false = true := by
  simp [sendsOne, and_assoc]

/-- What a bit one lost comes to, by what the node was sending. -/
theorem Part.loseArbitration_eq (h : p.lif.tx = some tx) (begun : 0 < tx.begun)
    (one : tx.bits.getD (tx.begun - 1) false = true) :
    (tx.source = .frame →
        p.loseArbitration = ((p.overdriven tx).mapFre fun r => { r.lostAttempt with role := .receiver }).mapLif Lif.stopSending)
      ∧ (tx.source = .response → tx.begun ≤ 8 → p.loseArbitration = p.overdrivenStopped tx)
      ∧ (tx.source = .response → 8 < tx.begun →
          p.loseArbitration = (p.overdriven tx).duplicateResponse.mapLif fun l => { l with tx := some (markTx l.filtered) }) := by
  have sends (hm : tx.source ≠ .mark) (hl : tx.source ≠ .loopback) : tx.sendsOne = true :=
    Tx.sendsOne_iff.mpr ⟨hm, hl, begun, one⟩
  unfold loseArbitration
  simp only [h]
  obtain ⟨_, _, _, _, _, _, _, _⟩ := tx
  refine ⟨?_, ?_, ?_⟩
  · rintro ⟨⟩
    exact if_pos (sends nofun nofun)
  · rintro ⟨⟩ node
    exact (if_pos (sends nofun nofun)).trans (if_pos node)
  · rintro ⟨⟩ draw
    exact (if_pos (sends nofun nofun)).trans (if_neg (Nat.not_le.mpr draw))

end

/-- Settles O41: by what the node was sending, as `Part.loseArbitration_eq` has it. -/
theorem arbitrationIsLost : Obligations.ArbitrationIsLost := by
  intro s tx hw htx begun one lineState
  have runs : exec .arbitrationLoss s = .next { s with part := s.part.loseArbitration } := State.run_of_working _ hw
  have turned := s.part.overdriven_turned tx
  obtain ⟨frame, node, draw⟩ := Part.loseArbitration_eq htx begun one
  obtain ⟨filtered, state, -⟩ := Part.overdriven_lif (p := s.part) tx (by obtain h | h := lineState <;> simp [h])
  obtain ⟨silent, busy, driven, traffic, -⟩ := Part.overdrivenStopped_lif (p := s.part) tx lineState
  have outside := turned.outside
  refine ⟨_, runs, fun x source inFlight => ?_, fun source within => ?_, fun source beyond => ?_⟩
  · rw [frame source]
    refine ⟨silent, busy, driven, traffic, ?_, Part.sameOutside.trans (by simp [Part.sameOutside]) (outside.mono (by simp))⟩
    rw [Part.mapLif_fre, Part.mapFre_fre, turned.fre, Fre.lostAttempt, inFlight]
    rfl
  · rw [node source within]
    exact ⟨silent, turned.fre, Part.sameOutside.trans (by simp [Part.sameOutside, Part.overdrivenStopped]) outside⟩
  · rw [draw source beyond]
    obtain ⟨fre, lif, available, same, -⟩ := Part.duplicateResponse_spec (p := s.part.overdriven tx)
      (by rw [state]; obtain h | h := lineState <;> simp [h]) (by rw [state]; obtain h | h := lineState <;> simp [h])
    have duplicate : (s.part.overdriven tx).duplicateResponse.fre.duplicate = true := by rw [fre]
    refine ⟨duplicate, by rw [Part.mapLif_fre, fre], Part.lineAvailable_of_duplicate duplicate, ?_, ?_, ?_⟩
    · rw [Part.mapLif_lif, lif, markTx]
      simp only [filtered]
      rfl
    · obtain ⟨t, adu⟩ := (s.part.overdriven tx).recordDuplicate_adu
      have kept : (s.part.overdriven tx).duplicateResponse.adu = (s.part.overdriven tx).recordDuplicate.adu := by
        simp [Part.duplicateResponse]
      rw [Part.mapLif_adu, kept, adu, turned.adu]
    · exact Part.sameOutside.trans (by simp [Part.sameOutside]) ((same.mono (by simp)).trans (outside.mono (by simp)))

end Sys2Proof.Machine
end

section
/-! PROOF. The node's own attempt, response or mark failed by its symbols or its echo (R96, R113, R114, R117). -/

namespace Sys2Proof.Machine

-- Checked one after another: side by side, each waiting proof keeps a thread of its own.
set_option Elab.async false

section
variable {p q : Part} {tx : Tx}

/-! ## A transmit symbol error (R113) -/

theorem Part.failSymbol_eq (h : p.lif.tx = some tx) (mark : tx.source ≠ .mark) (loopback : tx.source ≠ .loopback) :
    p.failSymbol = (p.overdrivenStopped tx).abandon (some .symbol) true := by
  unfold failSymbol
  rw [h]
  exact if_neg (by simp [mark, loopback])

/-! ## An echo failure (R114) -/

/-- The part with the driven phase that the node's drive had shown at its end. -/
def Part.driveFallen (p : Part) : Part := if p.lif.filtered = true then p.mapLif Lif.turnReleased else p

theorem Part.driveFallen_fre (p : Part) : p.driveFallen.fre = p.fre := by unfold driveFallen; split <;> rfl

theorem Part.driveFallen_sameOutside (p : Part) : p.driveFallen.sameOutside [.lif] p := by
  unfold driveFallen; split <;> simp [sameOutside]

theorem Part.driveFallen_lif (p : Part) :
    let l := p.driveFallen.lif
    l.filtered = false ∧ l.lineState = p.lif.lineState ∧ l.retry = p.lif.retry ∧ l.echoRun = p.lif.echoRun := by
  unfold driveFallen
  split
  next => exact ⟨rfl, rfl, rfl, rfl⟩
  next h => exact ⟨Bool.eq_false_of_not_eq_true h, rfl, rfl, rfl⟩

/-- The part with an echo failure counted in FRE and LIF, and the drive ended. -/
def Part.echoCounted (tx : Tx) (p : Part) : Part :=
  (p.driveFallen.mapLif fun l =>
    { (if tx.source.isAttempt then l.stopSending else { l with tx := none }) with echoRun := min 3 (l.echoRun + 1) }).mapFre
      fun r => { r with counters := { r.counters with echo := saturate Config.countTop r.counters.echo } }

theorem Part.failEcho_eq (h : p.lif.tx = some tx) (driving : tx.driving = true) (loopback : tx.source ≠ .loopback)
    (alone : p.pins.lineOther = false) :
    p.failEcho = if tx.source = .mark then (p.echoCounted tx).echoRunReached
      else (p.echoCounted tx).echoRunReached.abandon none true := by
  unfold failEcho
  rw [h]
  exact if_pos ⟨driving, loopback, by simp [alone]⟩

/-- An echo check cannot fail while another node holds the line down. -/
theorem Part.failEcho_of_other (h : p.pins.lineOther = true) : p.failEcho = p := by
  unfold failEcho
  split
  · rfl
  · exact if_neg fun ⟨_, _, alone⟩ => by simp [h] at alone

theorem Part.echoCounted_fre (tx : Tx) (p : Part) : (p.echoCounted tx).fre = { p.fre with
    counters := { p.fre.counters with echo := min 255 (p.fre.counters.echo + 1) } } := by
  unfold echoCounted
  rw [mapFre_fre, mapLif_fre, driveFallen_fre]
  rfl

theorem Part.echoCounted_sameOutside (tx : Tx) (p : Part) : (p.echoCounted tx).sameOutside [.fre, .lif] p := by
  exact Part.sameOutside.trans (r := p.driveFallen) (by simp [echoCounted, sameOutside]) (p.driveFallen_sameOutside.mono (by simp))

/-- An attempt is stopped: the traffic mark stands, and SENDING has become BUSY (R113, R115). -/
theorem Part.echoCounted_lif_of_attempt (attempt : tx.source.isAttempt = true) (p : Part) :
    let l := (p.echoCounted tx).lif
    l.filtered = false ∧ l.samples = 0 ∧ l.traffic = true ∧ l.echoRun = min 3 (p.lif.echoRun + 1)
      ∧ l.lineState = (if p.lif.lineState = .sending then .busy else p.lif.lineState) := by
  obtain ⟨filtered, lineState, -, run⟩ := p.driveFallen_lif
  simp [echoCounted, attempt, Lif.stopSending, filtered, lineState, run]

/-- A response or an error mark is no attempt: the released phase in which it fails is measured on (R111). -/
theorem Part.echoCounted_lif_of_answer (answer : tx.source.isAttempt = false) (p : Part) :
    (p.echoCounted tx).lif = { p.driveFallen.lif with tx := none, echoRun := min 3 (p.lif.echoRun + 1) } := by
  obtain ⟨-, -, -, run⟩ := p.driveFallen_lif
  simp [echoCounted, answer, run]

/-! ## The echo run (R117) -/

theorem Part.echoRunReached_of_short (h : p.lif.echoRun < 3) : p.echoRunReached = p := if_neg fun ⟨e, _⟩ => by omega

/-- The third echo failure in a row makes the line LOST; a shorter run leaves it in use. -/
theorem Part.echoRunReached_spec (busy : p.lif.lineState = .busy) (run : p.lif.echoRun ≤ 3) :
    let l := p.echoRunReached.lif
    l = { p.lif with lineState := l.lineState, lostTimer := l.lostTimer, retry := l.retry }
      ∧ (p.lif.echoRun < 3 → l.lineState = .busy)
      ∧ (p.lif.echoRun = 3 → l.lineState = .lost ∧ l.lostTimer = .running 2500000)
      ∧ l.lineState ≠ .held ∧ l.lineState ≠ .stuck := by
  obtain short | three : p.lif.echoRun < 3 ∨ p.lif.echoRun = 3 := by omega
  · rw [echoRunReached_of_short short]
    exact ⟨rfl, fun _ => busy, fun h => by omega, by simp [busy], by simp [busy]⟩
  · have lost : p.echoRunReached.lif
        = { p.lif with lineState := .lost, lostTimer := .running 2500000, retry := .none } := by
      unfold echoRunReached
      rw [if_pos ⟨three, by simp [busy]⟩]
      dsimp only
      split
      · rw [lineBecameUnavailable_lif]; rfl
      · rfl
    rw [lost]
    exact ⟨rfl, fun h => by omega, fun _ => ⟨rfl, rfl⟩, nofun, nofun⟩

theorem Part.lineAvailable_of_lost (h : p.lif.lineState = .lost) : p.lineAvailable = false := by simp [lineAvailable, h]

end

/-! ## The failed attempt, counted (R96) -/

section
variable {p r : Part} {x : InFlight} {e : Entry}

/-- The node's own frame in flight, with its entry. -/
structure Part.SendsEntry (x : InFlight) (e : Entry) (p : Part) : Prop where
  queue    : p.queueFits
  role     : p.fre.role = .sender
  inFlight : p.fre.inFlight = some x
  entry    : e ∈ p.fre.queue
  kind     : e.frame.kind = x.kind

/-- What the statement says of FRE once the sender's attempt has failed: it discards, and the attempt is counted. -/
structure Part.CountsAttempt (x : InFlight) (e : Entry) (q p : Part) : Prop where
  silent   : q.lif.tx = none
  phase    : q.fre.phase = .discard
  inFlight : q.fre.inFlight = none
  again    : e.attempts + 1 < 8 → q.fre.queue = applyHeld x.kind x.held (p.fre.queue.map fun y =>
    if y.frame.kind = x.kind then { y with attempts := y.attempts + 1 } else y)
  dropped  : 8 ≤ e.attempts + 1 → q.fre.queue = applyHeld x.kind x.held (p.fre.queue.filter fun y => y.frame.kind != x.kind)
  report   : q.fre.report = (if x.kind = .claim then some (if 8 ≤ e.attempts + 1 then .dropped else .spoiled) else p.fre.report)

theorem Part.SendsEntry.countsAttempt {q : Part} {mark : Bool} (h : p.SendsEntry x e) (gives : q.givesUpAs mark r)
    (fre : r.fre = { p.fre with counters := r.fre.counters }) : q.CountsAttempt x e p := by
  obtain ⟨discards, own, -⟩ := gives
  obtain ⟨⟨inFlight, -, -, counted⟩, silent⟩ := own (.inl (by rw [fre]; exact h.role))
  obtain ⟨again, dropped, report⟩ := counted (by unfold queueFits; rw [fre]; exact h.queue) x e (by rw [fre]; exact h.inFlight)
    (by rw [fre]; exact h.entry) h.kind
  rw [fre] at again dropped report
  exact ⟨silent, by rw [discards], inFlight, again, dropped, report⟩

end

/-- Settles O42: a transmit symbol error and an echo failure of a frame, of a mark and of a response. -/
theorem failedAttemptCounted : Obligations.FailedAttemptCounted := by
  refine ⟨?_, fun s other => ?_, ?_, ?_⟩
  · intro s tx x e hw queue htx source role inFlight entry kind sending echoRun c hc
    have sends : s.part.SendsEntry x e := ⟨queue, role, inFlight, entry, kind⟩
    obtain rfl | ⟨rfl, driving, alone⟩ := hc
    · have runs : exec .transmitSymbolError s = .next { s with part := s.part.failSymbol } := State.run_of_working _ hw
      rw [Part.failSymbol_eq htx (by simp [source]) (by simp [source])] at runs
      obtain ⟨-, busy, filtered, traffic, run⟩ := Part.overdrivenStopped_lif (p := s.part) tx (.inl sending)
      have turned := Part.overdrivenStopped_turned (p := s.part) tx (.inl sending)
      obtain ⟨gives, counters, lif, outside⟩ := turned.abandon (some .symbol) true (by simp [sending]) (by simp [sending])
      have counts := sends.countsAttempt gives rfl
      exact ⟨_, runs, counts.silent, by rw [lif]; exact traffic, counts.phase, counts.inFlight, counts.again, counts.dropped,
        counts.report, fun _ => ⟨counters, by rw [lif]; exact run, by rw [lif]; exact busy, by rw [lif]; exact filtered, outside⟩,
        nofun⟩
    · have runs : exec .echoFailure s = .next { s with part := s.part.failEcho } := State.run_of_working _ hw
      rw [Part.failEcho_eq htx driving (by simp [source]) alone, if_neg (by simp [source])] at runs
      have fre := s.part.echoCounted_fre tx
      obtain ⟨filtered, samples, traffic, run, state⟩ :=
        s.part.echoCounted_lif_of_attempt (tx := tx) (by rw [source]; rfl)
      rw [if_pos sending] at state
      rw [show min 3 (s.part.lif.echoRun + 1) = s.part.lif.echoRun + 1 by omega] at run
      have counted := s.part.echoCounted_sameOutside tx
      generalize s.part.echoCounted tx = r at runs fre filtered samples traffic run state counted
      obtain ⟨line, short, three, held, stuck⟩ := Part.echoRunReached_spec (p := r) state (by omega)
      obtain ⟨gives, counters, lif, outside⟩ := Part.abandon_givesUpAs (p := r.echoRunReached) none true held stuck
      rw [line] at lif
      have counts := sends.countsAttempt gives (by rw [Part.echoRunReached_fre, fre])
      refine ⟨_, runs, counts.silent, by rw [lif]; exact traffic, counts.phase, counts.inFlight, counts.again, counts.dropped,
        counts.report, nofun, fun _ => ⟨?_, by rw [lif]; exact run, by rw [lif]; exact filtered, by rw [lif]; exact samples,
          fun h => by rw [lif]; exact short (by omega), fun h => ?_, ?_⟩⟩
      · rw [counters, Part.echoRunReached_fre, fre]
        rfl
      · obtain ⟨lost, timer⟩ := three (by omega)
        exact ⟨by rw [lif]; exact lost, by rw [lif]; exact timer, Part.lineAvailable_of_lost (by rw [lif]; exact lost)⟩
      · exact (outside.mono (by simp)).trans
          (Part.sameOutside.trans (r := r) (by simp [Part.sameOutside]) (counted.mono (by simp)))
  · have still : s.part.whenWorking Part.failEcho = s.part := by
      rw [Part.whenWorking, Part.failEcho_of_other other, ite_self]
    exact congrArg (fun q => Host.Outcome.next { s with part := q }) still
  · intro s tx hw htx source driving alone released run
    have runs : exec .echoFailure s = .next { s with part := s.part.failEcho } := State.run_of_working _ hw
    have short : min 3 (s.part.lif.echoRun + 1) = s.part.lif.echoRun + 1 := by omega
    have counted : s.part.echoCounted tx = { s.part with
        lif := { s.part.lif with tx := none, echoRun := s.part.lif.echoRun + 1 }
        fre := { s.part.fre with
          counters := { s.part.fre.counters with echo := min 255 (s.part.fre.counters.echo + 1) } } } := by
      simp only [Part.echoCounted, Part.driveFallen, released, Bool.false_eq_true, if_false, source, Part.mapLif, Part.mapFre,
        TxSource.isAttempt, short]
      rfl
    rw [runs, Part.failEcho_eq htx driving (by simp [source]) alone, if_pos source, counted,
      Part.echoRunReached_of_short (by exact Nat.succ_lt_succ run)]
  · intro s tx hw htx source driving alone run phase role busy
    have runs : exec .echoFailure s = .next { s with part := s.part.failEcho } := State.run_of_working _ hw
    rw [Part.failEcho_eq htx driving (by simp [source]) alone, if_neg (by simp [source])] at runs
    have fre := s.part.echoCounted_fre tx
    have lif := s.part.echoCounted_lif_of_answer (tx := tx) (by rw [source]; rfl)
    have counted := s.part.echoCounted_sameOutside tx
    generalize s.part.echoCounted tx = r at runs fre lif counted
    obtain ⟨filtered, state, -, -⟩ := s.part.driveFallen_lif
    rw [busy] at state
    rw [Part.echoRunReached_of_short (by rw [lif]; change min 3 _ < 3; omega)] at runs
    obtain ⟨⟨discards, -, others⟩, counters, gaveUp, outside⟩ := Part.abandon_givesUpAs (p := r) none true
      (by simp [lif, state]) (by simp [lif, state])
    obtain ⟨queue, -, -, retried, mark⟩ := others (by simp [fre, role]) (by simp [fre, role])
    rw [retried, lif] at gaveUp
    have adu : r.adu = s.part.adu := by simpa [Part.sameOutside] using counted.2.2.1
    refine ⟨_, runs, by rw [discards], by rw [discards, fre, phase]; simp, by rw [queue, fre], by rw [counters, fre]; rfl,
      fun released => ?_, fun driven => ?_, ?_, outside.trans counted⟩
    · have still : s.part.driveFallen = s.part := if_neg (by simp [released])
      rw [gaveUp, still, show min 3 (s.part.lif.echoRun + 1) = s.part.lif.echoRun + 1 by omega]
    · have falls : s.part.driveFallen = s.part.mapLif Lif.turnReleased := if_pos driven
      rw [gaveUp, falls]
      exact ⟨rfl, rfl⟩
    · rw [mark, gaveUp, adu, fre, lif]
      simp [errorMark, filtered, state]

end Sys2Proof.Machine
end

section
/-! PROOF. The frame end of the node's own frame, and the report owed for its Claim (R58, R60, R61, R69, R84, R97, R104). -/

namespace Sys2Proof.Machine

-- Checked one after another: side by side, each waiting proof keeps a thread of its own.
set_option Elab.async false

section
variable {p q c : Part} {f : Frame}

/-! ## The frame end with a report owed (R104, R111) -/

/-- FRE hands on what it received, closes the traffic, and then gives ADU the report owed. -/
theorem Part.frameEndReached_of_released (traffic : p.lif.traffic = true) (released : p.lif.filtered = false)
    (dataEnd : 48 ≤ p.lif.samples) (state : p.lif.lineState ≠ .stuck) (retry : p.lineEnded.handOn.lif.retry = .none) :
    p.frameEndReached = (p.lineEnded.handOn.mapFre Fre.atFrameEnd).giveReport p.fre.report := by
  have stands (r : Part) (hr : r.lif = p.lineEnded.handOn.lif) : r.mapLif Lif.retryEnds = r := by
    have none : r.lif.retry = .none := by rw [hr]; exact retry
    simp [mapLif, Lif.retryEnds, none]
  unfold Part.frameEndReached
  simp only [released, traffic, dataEndReached_of_past dataEnd, state, Bool.false_eq_true, false_and, and_false, if_false,
    Bool.not_true]
  exact stands _ (giveReport_lif ..)

/-! ## A report taken by ADU in CLAIMING (R58, R60, R61, R69, R70) -/

/-- A Claim lost or spoiled waits again; a key that moved meanwhile replaces its entry (R56, R59, R60). -/
def Part.requeued (p : Part) : Part :=
  { p with
    adu := { p.adu with
      state := .queued, pendingKey := false
      retryTimer := if p.lineAvailable then p.adu.retryTimer else .running 1250000 }
    fre := if p.adu.pendingKey then p.offerClaim.fre else p.fre }

theorem Part.requeue_eq (p : Part) : p.requeue = p.requeued := by
  have offered (a : Adu) : ({ p with adu := a } : Part).offerClaim = { p with adu := a, fre := p.offerClaim.fre } := by
    unfold offerClaim
    cases p.pcu.plan.key <;> rfl
  have tested (r : Part) (line : r.lineAvailable = p.lineAvailable) :
      (if r.lineAvailable = true then r else r.mapAdu fun a => { a with retryTimer := .running Config.retryTime })
        = { r with adu := { r.adu with retryTimer := if p.lineAvailable then r.adu.retryTimer else .running 1250000 } } := by
    rw [line]
    cases p.lineAvailable <;> rfl
  unfold requeue requeued
  dsimp only [mapAdu]
  cases p.adu.pendingKey
  · exact tested _ (lineAvailable_congr rfl rfl rfl)
  · rw [if_pos rfl, offered]
    exact tested _ (lineAvailable_congr rfl rfl (Fre.duplicate_of_rest (offerClaim_rest p)))

/-- A withdrawn Claim whose attempt has failed is gone (R69). -/
def Part.claimGivenUp (p : Part) : Part := { p with adu := p.adu.claimDropped, fre := p.fre.removeKind .claim }

/-- A Claim dropped at its eighth failed attempt is turned away (R61). -/
def Part.claimTurnedAway (p : Part) : Part := { p with adu := p.adu.turnedAway, fre := p.fre.removeKind .claim }

/-- ADU takes a report owed: the claim that stands, and the withdrawn one. -/
theorem Part.giveReport_of_claiming (hs : p.adu.state = .claiming) (report : PendingReport) :
    p.giveReport (some report) =
      if p.adu.withdrawn = true then (if p.adu.pendingSeek = true then p.claimGivenUp.queueing true else p.claimGivenUp)
      else if report = .dropped then p.claimTurnedAway else p.requeued := by
  have dropped : (p.mapFre (Fre.removeKind .claim)).deferAndRetry = p.claimTurnedAway := deferAndRetry_of_claiming hs
  cases report
  all_goals
    simp only [giveReport, claimReport, hs, if_true, requeue_eq, dropped, reduceCtorEq, if_false]
    rfl

@[simp] theorem Part.giveReport_none (p : Part) : p.giveReport none = p := rfl

theorem Part.claimGivenUp_lineAvailable (p : Part) : p.claimGivenUp.lineAvailable = p.lineAvailable :=
  lineAvailable_congr rfl rfl (Fre.duplicate_of_rest (p.fre.removeKind_rest .claim))

/-- The Claim that waits again carries the key that moved. -/
theorem Part.mem_requeued {key : Key} (idle : p.fre.inFlight = none) (pending : p.adu.pendingKey = true)
    (hk : p.pcu.plan.key = some key) : { frame := .claim key p.pcu.plan.draw, attempts := 0 } ∈ p.requeued.fre.queue := by
  simp only [requeued, pending, if_true, offerClaim, hk]
  exact Fre.mem_offer_self idle

theorem Part.requeued_fre (pending : p.adu.pendingKey = false) : p.requeued.fre = p.fre := by simp [requeued, pending]

theorem Fre.removeKind_queue_of_idle {r : Fre} (idle : r.inFlight = none) (k : FrameKind) :
    (r.removeKind k).queue = r.queue.filter fun e => e.frame.kind != k := by
  simp [Fre.removeKind, Fre.flying, idle, dropKind]

/-- The node claims again once its withdrawn claim is settled (R70). -/
theorem Part.claimGivenUp_seeks {key : Key} (idle : p.fre.inFlight = none) (line : p.lineAvailable = true)
    (hk : p.pcu.plan.key = some key) :
    let q := p.claimGivenUp.queueing true
    q.adu.withdrawn = false ∧ q.adu.pendingSeek = false
      ∧ (deferralAnswer (some key) p.pvw.records = true → q.adu.state = .defer ∧ q.adu.deferralTimer = .running 2500000)
      ∧ (deferralAnswer (some key) p.pvw.records = false →
          q.adu.state = .queued ∧ { frame := .claim key p.pcu.plan.draw, attempts := 0 } ∈ q.fre.queue) := by
  have line : p.claimGivenUp.lineAvailable = true := by rw [claimGivenUp_lineAvailable, line]
  obtain ⟨s, t, adu⟩ := queueing_adu_of_available line
  refine ⟨by rw [adu]; rfl, by rw [adu]; rfl, fun yes => ?_, fun no => ?_⟩
  · have asked : deferralAnswer p.claimGivenUp.pcu.plan.key p.claimGivenUp.pvw.records = true := by
      rw [show p.claimGivenUp.pcu.plan.key = some key from hk]
      exact yes
    rw [queueing_of_available line, if_pos asked]
    exact ⟨rfl, rfl⟩
  · rw [queueing_of_answer_no (key := key) line hk no]
    refine ⟨rfl, Fre.mem_offer_self ?_⟩
    simp [claimGivenUp, Fre.removeKind_inFlight, idle]

/-! ## A key recomputed as the traffic closes (R45, R87) -/

/-- Twins whose standing answers agree take the deferral answer anew alike, also in DEFER. -/
theorem Part.Twin.reevaluateDeferral {still : Bool} (h : q.Twin still p) (answer : q.pvw.deferral = p.pvw.deferral) :
    q.reevaluateDeferral.Twin still p.reevaluateDeferral := by
  have now : q.answered.pvw.deferral = p.answered.pvw.deferral := by simp only [Part.answered, h.pcu, h.records]
  rw [reevaluateDeferral_eq, reevaluateDeferral_eq, answer, now, h.adu]
  split
  · exact h.answered.queueing true
  · exact h.answered

theorem Part.Twin.recomputeKey_of_answer {still : Bool} (h : q.Twin still p) (answer : q.pvw.deferral = p.pvw.deferral) :
    q.recomputeKey.Twin still p.recomputeKey := by
  have plan : q.rekeyedPlan = p.rekeyedPlan := by simp only [Part.rekeyedPlan, h.pcu, h.settings, h.lastReleased]
  have keyed := h.mapPcu fun c => { c with plan := p.rekeyedPlan }
  unfold Part.recomputeKey
  dsimp only
  rw [h.rsq, h.pcu, plan, keyed.adu]
  split
  · split
    · exact keyed.offerClaim.reevaluateDeferral (by simpa using answer)
    · exact (keyed.mapAdu _).reevaluateDeferral answer
    all_goals exact keyed.reevaluateDeferral answer
  · exact h

/-- A key recomputed with nothing in flight, and the traffic closed: in either order. -/
theorem Part.recomputeKey_atFrameEnd (idle : p.fre.inFlight = none) :
    p.recomputeKey.mapFre Fre.atFrameEnd = (p.mapFre Fre.atFrameEnd).recomputeKey := by
  by_cases keyed : (p.rsq.state = .wait ∨ p.rsq.state = .blocked) ∧ p.pcu.plan.key ≠ none
  · obtain ⟨hs, hk⟩ := keyed
    have opened : p.Twin true (p.mapFre Fre.atFrameEnd) :=
      ⟨rfl, rfl, rfl, rfl, rfl, idle, rfl, rfl, rfl, rfl, rfl, rfl, fun _ => rfl⟩
    have twin := (opened.recomputeKey_of_answer rfl).atFrameEnd
    refine Part.eq_of_calm (twin.calm_eq ?_ ?_) (by simp)
    · rw [recomputeKey_rest]
      exact Fre.atFrameEnd_rest (recomputeKey_rest p)
    · rw [recomputeKey_deferral (p := p.mapFre Fre.atFrameEnd) hs hk, ← twin.pcu, ← twin.records]
      exact recomputeKey_deferral hs hk
  · have still : p.rsq.state ≠ .wait ∧ p.rsq.state ≠ .blocked ∨ p.pcu.plan.key = none := by
      rwa [not_and_or, not_or, not_not] at keyed
    rw [recomputeKey_of_idle still, recomputeKey_of_idle (p := p.mapFre Fre.atFrameEnd) still]

/-! ## The node's own frame ends clean (R84, R97, R114) -/

/-- The node has sent a frame that is no CLAIM and heard it back valid, and the line has been released since. -/
structure Part.HeardBack (f : Frame) (x : InFlight) (p : Part) : Prop where
  traffic   : p.lif.traffic = true
  released  : p.lif.filtered = false
  dataEnd   : 48 ≤ p.lif.samples
  lineState : p.lif.lineState = .sending
  retry     : p.lif.retry = .none
  phase     : p.fre.phase = .frame
  role      : p.fre.role = .sender
  valid     : p.fre.valid = some f
  report    : p.fre.report = none
  kind      : f.kind ≠ .claim
  inFlight  : p.fre.inFlight = some x
  sent      : x.kind = f.kind

/-- The part once the node's own frame has ended clean, with the last-released node given: the entry has left the queue, a held offer has
joined it, and the traffic is closed. -/
def Part.sentClean (x : InFlight) (n : Node) (p : Part) : Part :=
  { p with
    lif := { p.lif with samples := 96, traffic := false, tx := none, lineState := .idle, echoRun := 0 }
    pvw := { p.pvw with lastReleased := n }
    fre := { p.fre.afterTraffic with
      queue := applyHeld x.kind x.held (p.fre.queue.filter fun e => e.frame.kind != x.kind) } }

/-- The part as the entry leaves the queue, its traffic still open. -/
def Part.attemptClean (p : Part) : Part :=
  (p.lineEnded.mapFre Fre.cleanAttempt).mapLif fun l => { l with echoRun := 0 }

/-- Outside the LOST retry only the queue, the echo run and the last-released node move. -/
theorem Part.ownFrameClean_lineEnded (retry : p.lif.retry = .none) (f : Frame) : p.lineEnded.ownFrameClean f =
    if f.kind = .release then p.attemptClean.setLastReleased p.settings.node else p.attemptClean := by
  have noRetry : ¬ p.attemptClean.lif.retry = Retry.sending := by
    rw [show p.attemptClean.lif.retry = p.lif.retry from rfl, retry]
    decide
  have clean : (if p.attemptClean.lif.retry = Retry.sending then p.attemptClean.retryClean else p.attemptClean) = p.attemptClean :=
    if_neg noRetry
  unfold ownFrameClean
  rw [show (p.lineEnded.mapFre Fre.cleanAttempt).mapLif (fun l => { l with echoRun := 0 }) = p.attemptClean from rfl]
  dsimp only
  rw [clean]
  cases f.kind <;> rfl

variable {x : InFlight}

theorem Part.HeardBack.handOn (h : p.HeardBack f x) : p.lineEnded.handOn =
    if f.kind = .release then p.attemptClean.setLastReleased p.settings.node else p.attemptClean := by
  rw [← ownFrameClean_lineEnded h.retry f]
  unfold Part.handOn
  rw [show p.lineEnded.fre.phase = .frame from h.phase, show p.lineEnded.fre.valid = some f from h.valid]
  exact if_pos (by simp [Fre.isSender, lineEnded, h.role])

/-- The entry has left the queue, and nothing is in flight. -/
theorem Part.HeardBack.attemptClean_atFrameEnd (h : p.HeardBack f x) (n : Node) :
    ({ p.attemptClean with pvw := { p.pvw with lastReleased := n } } : Part).mapFre Fre.atFrameEnd = p.sentClean x n := by
  have fre : p.attemptClean.fre.atFrameEnd = (p.sentClean x n).fre := by
    simp [attemptClean, lineEnded, Fre.cleanAttempt, h.inFlight, sentClean, Fre.atFrameEnd, Fre.afterTraffic, dropKind]
  have lif : p.attemptClean.lif = (p.sentClean x n).lif := by
    simp [attemptClean, lineEnded, Lif.atFrameEnd, h.lineState, sentClean, lu, Config.samplesPerLU]
  unfold mapFre
  dsimp only
  rw [fre, lif]
  rfl

/-- The last-released node once the node's own frame has been heard back (R84). -/
def Part.heardLast (f : Frame) (p : Part) : Node := if f.kind = .release then p.settings.node else p.pvw.lastReleased

/-- The frame end of the node's own frame: its RELEASE moves the last-released node, and with it the key. -/
theorem Part.HeardBack.frameEndReached (h : p.HeardBack f x) :
    (¬ (f.kind = .release ∧ p.pvw.lastReleased ≠ p.settings.node) → p.frameEndReached = p.sentClean x (p.heardLast f))
      ∧ (f.kind = .release ∧ p.pvw.lastReleased ≠ p.settings.node →
          p.frameEndReached = (p.sentClean x (p.heardLast f)).recomputeKey) := by
  have retry : p.lineEnded.handOn.lif.retry = .none := by
    rw [h.handOn]
    split
    · rw [setLastReleased_lif]; exact h.retry
    · exact h.retry
  rw [frameEndReached_of_released h.traffic h.released h.dataEnd (by simp [h.lineState]) retry, h.report, giveReport_none, h.handOn]
  by_cases hk : f.kind = .release
  · rw [if_pos hk, heardLast, if_pos hk]
    refine ⟨fun hn => ?_, fun ⟨_, other⟩ => ?_⟩
    · have same : p.pvw.lastReleased = p.settings.node := not_not.mp fun other => hn ⟨hk, other⟩
      rw [setLastReleased_of_eq (by exact same)]
      exact h.attemptClean_atFrameEnd _
    · have idle : p.attemptClean.fre.inFlight = none := by simp [attemptClean, lineEnded, Fre.cleanAttempt, h.inFlight]
      rw [setLastReleased_of_ne (by exact other), recomputeKey_atFrameEnd (by exact idle)]
      exact congrArg Part.recomputeKey (h.attemptClean_atFrameEnd _)
  · rw [if_neg hk, heardLast, if_neg hk]
    exact ⟨fun _ => h.attemptClean_atFrameEnd _, fun moved => absurd moved.1 hk⟩

/-! ## What a report leaves (R60, R61, R69, R70) -/

theorem Part.giveReport_of_settled (hs : p.adu.state ≠ .claiming) (report : PendingReport) : p.giveReport (some report) = p := by
  cases report <;> exact if_neg hs

/-- A report taken leaves the view, FRE's traffic, and nothing in flight. -/
theorem Part.giveReport_idle (idle : p.fre.inFlight = none) (report : PendingReport) :
    (p.giveReport (some report)).pvw = p.pvw ∧ (p.giveReport (some report)).fre.rest = p.fre.rest
      ∧ (p.giveReport (some report)).fre.inFlight = none := by
  by_cases hs : p.adu.state = .claiming
  · have self : p.Twin true p := ⟨rfl, rfl, rfl, rfl, rfl, rfl, rfl, rfl, rfl, rfl, rfl, rfl, fun _ => idle⟩
    have gone : p.claimGivenUp.Twin true p.claimGivenUp := (self.removeKind .claim).mapAdu Adu.claimDropped
    have removed : (p.fre.removeKind .claim).rest = p.fre.rest := Fre.removeKind_rest ..
    rw [giveReport_of_claiming hs]
    repeat' split
    · exact ⟨queueing_pvw .., (queueing_rest ..).trans removed, (gone.queueing true).idle rfl⟩
    · exact ⟨rfl, removed, gone.idle rfl⟩
    · exact ⟨rfl, removed, gone.idle rfl⟩
    · refine ⟨rfl, ?_⟩
      simp only [requeued]
      split
      · exact ⟨offerClaim_rest p, self.offerClaim.idle rfl⟩
      · exact ⟨rfl, idle⟩
  · rw [giveReport_of_settled hs]
    exact ⟨rfl, rfl, idle⟩

/-- `c` is `p`, whose Claim is on the line, as the traffic is over and before the report owed is given: of what ADU and PCU read the key
alone may have moved. -/
structure Part.AwaitsReport (c p : Part) : Prop where
  claiming : p.adu.state = .claiming
  adu      : c.adu = { p.adu with pendingKey := c.adu.pendingKey }
  pcu      : c.pcu = { p.pcu with plan := { p.pcu.plan with key := c.pcu.plan.key } }
  fre      : c.fre = p.fre.afterTraffic
  outside  : c.sameOutside [.pcu, .adu, .pvw, .fre, .lif, .choices] p

section
variable (h : c.AwaitsReport p)
include h

theorem Part.AwaitsReport.state : c.adu.state = .claiming := by rw [h.adu]; exact h.claiming

theorem Part.AwaitsReport.withdrawn : c.adu.withdrawn = p.adu.withdrawn := by rw [h.adu]

theorem Part.AwaitsReport.pendingSeek : c.adu.pendingSeek = p.adu.pendingSeek := by rw [h.adu]

theorem Part.AwaitsReport.draw : c.pcu.plan.draw = p.pcu.plan.draw := by rw [h.pcu]

theorem Part.AwaitsReport.idle : c.fre.inFlight = none := by rw [h.fre]; rfl

theorem Part.AwaitsReport.removed :
    (c.fre.removeKind .claim).queue = p.fre.queue.filter fun e => e.frame.kind != .claim := by
  rw [Fre.removeKind_queue_of_idle h.idle, h.fre]
  rfl

/-- Where a claim sought again finds the line available, ADU and the queue alone take the report. -/
theorem Part.AwaitsReport.sameOutside (line : p.adu.withdrawn = false ∨ p.adu.pendingSeek = false ∨ c.lineAvailable = true)
    (report : PendingReport) : (c.giveReport (some report)).sameOutside [.adu, .fre] c := by
  have settled : c.claimGivenUp.sameOutside [.adu, .fre] c := by simp [Part.sameOutside, claimGivenUp]
  rw [giveReport_of_claiming h.state]
  repeat' split
  next gone again =>
    have free : c.lineAvailable = true := by simpa [← h.withdrawn, ← h.pendingSeek, gone, again] using line
    exact (queueing_sameOutside_of_available (by rwa [claimGivenUp_lineAvailable])).trans settled
  next => exact settled
  next => simp [Part.sameOutside, claimTurnedAway]
  next => simp [Part.sameOutside, requeued]

/-- A claim that stands is queued again on the report lost or spoiled. -/
theorem Part.AwaitsReport.requeues (stands : p.adu.withdrawn = false) {report : PendingReport} (kept : report ≠ .dropped) :
    let q := c.giveReport (some report)
    q.adu = { p.adu with
        state := .queued, pendingKey := false
        retryTimer := if c.lineAvailable then p.adu.retryTimer else .running 1250000 }
      ∧ (c.adu.pendingKey = false → q.fre.queue = p.fre.queue)
      ∧ (∀ key, c.adu.pendingKey = true → c.pcu.plan.key = some key →
          { frame := .claim key p.pcu.plan.draw, attempts := 0 } ∈ q.fre.queue) := by
  have standing : ¬ c.adu.withdrawn = true := by simp [h.withdrawn, stands]
  have taken : c.giveReport (some report) = c.requeued := by
    rw [giveReport_of_claiming h.state, if_neg standing, if_neg kept]
  rw [taken]
  refine ⟨?_, fun key => ?_, fun key pending hk => ?_⟩
  · simp only [requeued]
    rw [h.adu]
  · rw [requeued_fre key, h.fre]
    rfl
  · rw [← h.draw]
    exact mem_requeued h.idle pending hk

/-- A claim that stands defers once its entry is dropped. -/
theorem Part.AwaitsReport.defers (stands : p.adu.withdrawn = false) :
    let q := c.giveReport (some .dropped)
    q.adu = { p.adu with
        state := .defer, pendingKey := false, deferralTimer := .running 2500000, retryTimer := .running 1250000 }
      ∧ (∀ e ∈ q.fre.queue, e.frame.kind ≠ .claim) := by
  have standing : ¬ c.adu.withdrawn = true := by simp [h.withdrawn, stands]
  have taken : c.giveReport (some .dropped) = c.claimTurnedAway := by
    rw [giveReport_of_claiming h.state, if_neg standing, if_pos rfl]
  rw [taken]
  refine ⟨?_, fun e he => ?_⟩
  · simp only [claimTurnedAway]
    rw [h.adu]
    rfl
  · have he : e ∈ (c.fre.removeKind .claim).queue := he
    rw [h.removed, List.mem_filter] at he
    simpa using he.2

/-- A withdrawn claim is gone. -/
theorem Part.AwaitsReport.givesUp (gone : p.adu.withdrawn = true) (last : p.adu.pendingSeek = false) (report : PendingReport) :
    let q := c.giveReport (some report)
    q.adu = { p.adu with state := .none, withdrawn := false, pendingKey := false, retryTimer := .stopped }
      ∧ q.fre.queue = (p.fre.queue.filter fun e => e.frame.kind != .claim) := by
  have again : ¬ c.adu.pendingSeek = true := by simp [h.pendingSeek, last]
  have taken : c.giveReport (some report) = c.claimGivenUp := by
    rw [giveReport_of_claiming h.state, if_pos (h.withdrawn.trans gone), if_neg again]
  rw [taken]
  refine ⟨?_, h.removed⟩
  simp only [claimGivenUp, Adu.claimDropped]
  rw [h.adu, last]

/-- A withdrawn claim that is sought again goes through the queueing procedure. -/
theorem Part.AwaitsReport.seeksAgain (gone : p.adu.withdrawn = true) (again : p.adu.pendingSeek = true)
    (line : c.lineAvailable = true) (report : PendingReport) {key : Key} (hk : c.pcu.plan.key = some key) :
    let q := c.giveReport (some report)
    q.adu.withdrawn = false ∧ q.adu.pendingSeek = false
      ∧ (deferralAnswer (some key) c.pvw.records = true → q.adu.state = .defer ∧ q.adu.deferralTimer = .running 2500000)
      ∧ (deferralAnswer (some key) c.pvw.records = false →
          q.adu.state = .queued ∧ { frame := .claim key p.pcu.plan.draw, attempts := 0 } ∈ q.fre.queue) := by
  have taken : c.giveReport (some report) = c.claimGivenUp.queueing true := by
    rw [giveReport_of_claiming h.state, if_pos (h.withdrawn.trans gone), if_pos (h.pendingSeek.trans again)]
  rw [taken, ← h.draw]
  exact claimGivenUp_seeks h.idle line hk

end

/-! ## The traffic was discarded (R100, R103) -/

/-- The part as the frame end finds nothing to hand on: a window given up leaves its claim to PVW no more. -/
theorem Part.handOn_of_discard (h : p.fre.phase = .discard) : ∃ claim, p.lineEnded.handOn
    = { p.lineEnded with pvw := { p.pvw with claim := claim } } := by
  unfold Part.handOn
  rw [show p.lineEnded.fre.phase = .discard from h]
  dsimp only
  split
  · exact ⟨none, rfl⟩
  · exact ⟨p.pvw.claim, rfl⟩

/-! ## A frame of a peer that won the line (R99, assumption 40) -/

/-- Some record is refreshed, whatever the order of the collection. -/
theorem recordOf_upsert_of_node {n : Node} {g : PeerRecord → PeerRecord} (hg : ∀ r, (g r).node = r.node) (records : List PeerRecord) :
    ∃ old, recordOf n (upsert n g records) = some (g old) := by
  have blank : (g (.blank n)).node = n := hg _
  induction records with
  | nil => exact ⟨.blank n, by rw [upsert, recordOf_cons, if_pos blank]⟩
  | cons x xs ih =>
    unfold upsert
    split
    next same => exact ⟨x, by rw [recordOf_cons, if_pos (by rw [hg, same])]⟩
    next other =>
      split
      · exact ⟨.blank n, by rw [recordOf_cons, if_pos blank]⟩
      · rw [recordOf_cons, if_neg other]
        exact ih

/-- Where S_eff stands, an update of a record moves the view alone. -/
theorem Part.updateRecord_of_sEff {n : Node} {g : PeerRecord → PeerRecord} {always : Bool}
    (stands : (p.updateRecord n g always).pvw.sEff = p.pvw.sEff) :
    ∃ v, p.updateRecord n g always = { p with pvw := v } ∧ v.lastReleased = p.pvw.lastReleased := by
  unfold updateRecord at stands ⊢
  dsimp only at stands ⊢
  split
  next taken =>
    rw [if_pos taken] at stands
    obtain ⟨d, view⟩ := (p.mapPvw fun v => { v with records := upsert n g v.records }).recomputeLimit_pvw
    have same : (p.mapPvw fun v => { v with records := upsert n g v.records }).limited.pvw.sEff = p.pvw.sEff := by
      rw [view] at stands
      exact stands
    rw [recomputeLimit_eq, if_pos (by exact same)]
    exact ⟨_, rfl, rfl⟩
  next => exact ⟨_, rfl, rfl⟩

/-- The key composed with a node released last, taken by ADU while its Claim is on the line (R45, R59). -/
def Part.rekeyedOnLine (n : Node) (p : Part) : Part :=
  { p with
    pcu := { p.pcu with plan := { p.pcu.plan with
      key := some (composeKey p.pcu.plan.occupied p.pcu.waitSeconds p.pcu.plan.timeUnits p.settings.node n p.pcu.refusals) } }
    adu := { p.adu with pendingKey := true } }

/-- With its Claim on the line and S_eff as it was, a node takes of a peer's frame the view, and the key where it moves. -/
theorem Part.peerFrame_of_claiming (hc : p.lpc.committed = true) (hf : f.kind ≠ .claim) (hs : p.adu.state = .claiming)
    (stands : (p.peerFrame f).pvw.sEff = p.pvw.sEff) :
    (¬ p.moves f → ∃ v, p.peerFrame f = { p with pvw := v })
      ∧ (p.moves f → ∃ v, p.peerFrame f = { p.rekeyedOnLine f.node with pvw := v }) := by
  have answered (r : Part) (hr : r.adu.state = .claiming) : r.reevaluateDeferral = r.answered :=
    reevaluateDeferral_of_not_defer (by simp [hr])
  unfold peerFrame at stands ⊢
  rw [if_pos hc] at stands ⊢
  cases f with
  | claim k u => exact absurd rfl hf
  | presence n d | adjust n d =>
    dsimp only at stands ⊢
    rw [reevaluateDeferral_pvw] at stands
    obtain ⟨v, updated, -⟩ := updateRecord_of_sEff stands
    refine ⟨fun _ => ?_, fun hm => absurd hm.1 (by simp [Frame.kind])⟩
    rw [updated, answered _ (by exact hs)]
    exact ⟨_, rfl⟩
  | release o n =>
    dsimp only at stands ⊢
    obtain ⟨d, released⟩ := (p.updateRecord n (.takeRelease o) false).setLastReleased_pvw n
    rw [reevaluateDeferral_pvw, released] at stands
    obtain ⟨v, updated, last⟩ := updateRecord_of_sEff stands
    rw [updated]
    refine ⟨fun hm => ?_, fun ⟨_, hn, hw, hk⟩ => ?_⟩
    · by_cases hn : v.lastReleased = n
      · rw [setLastReleased_of_eq (by exact hn), answered _ (by exact hs)]
        exact ⟨_, rfl⟩
      · rw [setLastReleased_of_ne (by exact hn), recomputeKey_of_idle, answered _ (by exact hs)]
        · exact ⟨_, rfl⟩
        · by_contra keyed
          rw [not_or, not_and_or, not_not, not_not] at keyed
          exact hm ⟨rfl, by rw [← last]; exact Ne.symm hn, keyed⟩
    · have moved : v.lastReleased ≠ n := by rw [last]; exact hn.symm
      rw [setLastReleased_of_ne (by exact moved),
        (recomputeKey_rekeysAs (p := ({ p with pvw := v } : Part).mapPvw fun w => { w with lastReleased := n }) hw hk _ rfl _ rfl).2.1 hs,
        answered _ (by exact hs)]
      exact ⟨_, rfl⟩

/-- While its Claim is on the line a retry trigger has no effect. -/
theorem Part.retryTrigger_of_claiming (hs : p.adu.state = .claiming) : p.retryTrigger = p :=
  retryTrigger_of_settled (by simp [hs])

theorem Part.peerFrameHeard_of_claiming (hc : p.lpc.committed = true) (hf : f.kind ≠ .claim) (hs : p.adu.state = .claiming)
    (stands : (p.peerFrameHeard f).pvw.sEff = p.pvw.sEff) :
    (¬ p.moves f → ∃ v n, p.peerFrameHeard f = { p with pvw := v, choices := n })
      ∧ (p.moves f → ∃ v n, p.peerFrameHeard f = { p.rekeyedOnLine f.node with pvw := v, choices := n }) := by
  obtain ⟨n, heard⟩ : ∃ n, p.peerFrameHeard f = (({ p with choices := n } : Part).peerFrame f).retryTrigger
      ∨ p.peerFrameHeard f = ({ p with choices := n } : Part).peerFrame f := by
    by_cases hk : f.kind = .release ∨ f.kind = .adjust
    · obtain ⟨n, h | h⟩ := p.peerFrameHeard_orders hk
      · exact ⟨n, .inl h⟩
      · exact ⟨n, .inr (by rw [h, retryTrigger_of_claiming (by exact hs)])⟩
    · refine ⟨p.choices, .inr ?_⟩
      unfold peerFrameHeard
      cases f <;> simp [Frame.kind] at hk ⊢
  have limit : (({ p with choices := n } : Part).peerFrame f).pvw.sEff = p.pvw.sEff := by
    rw [← stands]
    obtain h | h := heard <;> rw [h]
    rw [retryTrigger_pvw]
  obtain ⟨still, moved⟩ := peerFrame_of_claiming (p := { p with choices := n }) hc hf hs limit
  have untriggered (r : Part) (hr : ({ p with choices := n } : Part).peerFrame f = r) (hrs : r.adu.state = .claiming) :
      p.peerFrameHeard f = r := by
    obtain h | h := heard <;> rw [h, hr]
    exact retryTrigger_of_claiming hrs
  refine ⟨fun hm => ?_, fun hm => ?_⟩
  · obtain ⟨v, hv⟩ := still hm
    exact ⟨v, n, untriggered _ hv hs⟩
  · obtain ⟨v, hv⟩ := moved hm
    exact ⟨v, n, untriggered _ hv hs⟩

/-! ## The frame end, case by case -/

/-- The line has been released for 24 LU after traffic, out of STUCK, and no LOST retry is under way. -/
structure Part.LineFrees (p : Part) : Prop where
  committed : p.lpc.committed = true
  traffic   : p.lif.traffic = true
  released  : p.lif.filtered = false
  dataEnd   : 48 ≤ p.lif.samples
  lineState : p.lif.lineState ≠ .stuck
  retry     : p.lif.retry = .none

/-- The part as its report is about to be given. -/
def Part.handedOn (p : Part) : Part := p.lineEnded.handOn.mapFre Fre.atFrameEnd

theorem Part.LineFrees.frameEndReached (h : p.LineFrees) (hl : p.lineEnded.handOn.lif = p.lineEnded.lif) :
    p.frameEndReached = p.handedOn.giveReport p.fre.report :=
  frameEndReached_of_released h.traffic h.released h.dataEnd h.lineState (by rw [hl]; exact h.retry)

theorem Part.lineAvailable_of_ended (line : c.lif.lineState = if p.lif.lineState = .lost then .lost else .idle)
    (duplicate : c.fre.duplicate = p.fre.duplicate) :
    c.lineAvailable = (p.lif.lineState != .lost && !p.fre.duplicate) := by
  unfold lineAvailable
  rw [line, duplicate]
  cases p.lif.lineState <;> rfl

theorem Part.handedOn_of_discard (h : p.fre.phase = .discard) : ∃ claim, p.handedOn
    = { p with lif := p.lif.atFrameEnd, fre := p.fre.afterTraffic, pvw := { p.pvw with claim := claim } } := by
  obtain ⟨claim, handed⟩ := handOn_of_discard h
  exact ⟨claim, by rw [handedOn, handed]; rfl⟩

theorem Part.handOn_of_peer (hc : p.lpc.committed = true) (phase : p.fre.phase = .frame) (role : p.fre.role = .receiver)
    (valid : p.fre.valid = some f) (peer : f.node ≠ p.settings.node) : p.lineEnded.handOn = p.lineEnded.peerFrameHeard f := by
  have receives : ¬ p.lineEnded.fre.isSender = true := by simp [lineEnded, Fre.isSender, role]
  have other : ¬ p.lineEnded.ownNode = some f.node := by
    simpa [lineEnded, ownNode, settings, hc] using peer.symm
  unfold Part.handOn
  rw [show p.lineEnded.fre.phase = .frame from phase, show p.lineEnded.fre.valid = some f from valid]
  dsimp only
  rw [if_neg receives, if_neg other]

/-- The frame that won the line, handed on where S_eff stands: the view, and the key where it moves. -/
theorem Part.handedOn_of_peer (hc : p.lpc.committed = true) (phase : p.fre.phase = .frame) (role : p.fre.role = .receiver)
    (valid : p.fre.valid = some f) (peer : f.node ≠ p.settings.node) (hf : f.kind ≠ .claim) (hs : p.adu.state = .claiming)
    (stands : p.handedOn.pvw.sEff = p.pvw.sEff) :
    p.handedOn.AwaitsReport p
      ∧ (¬ p.moves f → p.handedOn.pcu = p.pcu ∧ p.handedOn.adu = p.adu)
      ∧ (p.moves f → p.handedOn.pcu = (p.rekeyedOnLine f.node).pcu ∧ p.handedOn.adu = (p.rekeyedOnLine f.node).adu) := by
  have handed : p.handedOn = (p.lineEnded.peerFrameHeard f).mapFre Fre.atFrameEnd := by
    rw [handedOn, handOn_of_peer hc phase role valid peer]
  rw [handed] at stands ⊢
  obtain ⟨still, moved⟩ := peerFrameHeard_of_claiming (p := p.lineEnded) hc hf hs stands
  by_cases hm : p.moves f
  · obtain ⟨v, n, heard⟩ := moved hm
    rw [heard]
    exact ⟨⟨hs, rfl, rfl, rfl, by simp [sameOutside, rekeyedOnLine, lineEnded]⟩, fun hn => absurd hm hn, fun _ => ⟨rfl, rfl⟩⟩
  · obtain ⟨v, n, heard⟩ := still hm
    rw [heard]
    exact ⟨⟨hs, rfl, rfl, rfl, by simp [sameOutside, lineEnded]⟩, fun _ => ⟨rfl, rfl⟩, fun hn => absurd hn hm⟩

end

/-- Settles O6: the own frame leaves the queue as `Part.HeardBack.frameEndReached` has it, and the report owed is given once the traffic
has been handed on or dropped, as `Part.AwaitsReport` has it. -/
theorem ownFrameAndReportsAtFrameEnd : Obligations.OwnFrameAndReportsAtFrameEnd := by
  refine ⟨?_, ?_, ?_⟩
  · intro s f x hl hc traffic released dataEnd lineState retry phase role valid report kind inFlight sent
    have heard : s.part.HeardBack f x :=
      ⟨traffic, released, dataEnd, lineState, retry, phase, role, valid, report, kind, inFlight, sent⟩
    obtain ⟨q, outcome⟩ : ∃ q, s.part.frameEndReached = q := ⟨_, rfl⟩
    refine ⟨q, by rw [exec_frameEnd hl, outcome], ?_⟩
    by_cases moved : f.kind = .release ∧ s.part.pvw.lastReleased ≠ s.part.settings.node
    · obtain rfl := (heard.frameEndReached.2 moved).symm.trans outcome
      obtain ⟨d, view⟩ := (s.part.sentClean x (s.part.heardLast f)).recomputeKey_pvw
      refine ⟨Part.recomputeKey_lif _, by rw [view]; rfl, by rw [view]; rfl, ?_⟩
      intro p hp
      obtain rfl : p = s.part.sentClean x (s.part.heardLast f) := by
        rw [hp, Part.recomputeKey_lif, view, ← sent]
        rfl
      refine ⟨?_, fun _ _ hs hk => Part.recomputeKey_rekeysAs hs hk⟩
      rintro (h | h | h)
      · exact absurd moved.1 h
      · exact absurd h moved.2
      · exact Part.recomputeKey_of_idle h
    · obtain rfl := (heard.frameEndReached.1 moved).symm.trans outcome
      refine ⟨rfl, rfl, rfl, ?_⟩
      rintro _ rfl
      refine ⟨fun _ => by rw [← sent]; rfl, fun hk hn => absurd ⟨hk, hn⟩ moved⟩
  · intro s report hl hc traffic released dataEnd lineState retry phase owed claiming
    have frees : s.part.LineFrees := ⟨hc, traffic, released, dataEnd, by rintro e; simp [e] at lineState, retry⟩
    obtain ⟨claim, handed⟩ := Part.handedOn_of_discard phase
    have awaits : s.part.handedOn.AwaitsReport s.part := by
      rw [handed]
      exact ⟨claiming, rfl, rfl, rfl, by simp [Part.sameOutside]⟩
    have outside : s.part.handedOn.sameOutside [.adu, .pvw, .fre, .lif] s.part := by
      rw [handed]
      simp [Part.sameOutside]
    have line : s.part.handedOn.lineAvailable = (s.part.lif.lineState != .lost && !s.part.fre.duplicate) := by
      rw [handed]
      exact Part.lineAvailable_of_ended rfl rfl
    have lif : s.part.lineEnded.handOn.lif = s.part.lineEnded.lif := by
      obtain ⟨_, h⟩ := Part.handOn_of_discard phase
      rw [h]
    have key : s.part.handedOn.adu = s.part.adu ∧ s.part.handedOn.pcu = s.part.pcu
        ∧ s.part.handedOn.pvw.records = s.part.pvw.records := by rw [handed]; exact ⟨rfl, rfl, rfl⟩
    obtain ⟨adu, pcu, records⟩ := key
    obtain ⟨-, rest, idle⟩ := Part.giveReport_idle awaits.idle report
    refine ⟨_, exec_frameEnd hl, ?_⟩
    rw [frees.frameEndReached lif, owed]
    refine ⟨?_, ?_, idle, ?_⟩
    · exact Fre.phase_of_rest (rest.trans (by rw [awaits.fre]))
    · exact congrArg (·.report) (rest.trans (congrArg Fre.rest awaits.fre))
    rintro _ rfl
    rw [← line, ← records]
    have elsewhere (solo : s.part.adu.withdrawn = false ∨ s.part.adu.pendingSeek = false ∨ s.part.handedOn.lineAvailable = true) :
        (s.part.handedOn.giveReport (some report)).sameOutside [.adu, .pvw, .fre, .lif] s.part :=
      ((awaits.sameOutside solo report).mono (by simp)).trans outside
    refine ⟨fun stands kept => ?_, fun stands dropped => ?_, fun gone last => ?_, fun key gone again free hk => ?_⟩
    · obtain ⟨taken, queue, offered⟩ := awaits.requeues (report := report) stands (by obtain rfl | rfl := kept <;> simp)
      rw [adu] at queue offered
      rw [pcu] at offered
      exact ⟨taken, queue, offered, elsewhere (.inl stands)⟩
    · obtain ⟨taken, queue⟩ := awaits.defers stands
      subst dropped
      exact ⟨taken, queue, elsewhere (.inl stands)⟩
    · obtain ⟨taken, queue⟩ := awaits.givesUp gone last report
      exact ⟨taken, queue, elsewhere (.inr (.inl last))⟩
    · exact awaits.seeksAgain gone again free report (by rw [pcu]; exact hk)
  · intro s f hl hc traffic released dataEnd lineState retry phase role valid kind peer owed claiming
    have frees : s.part.LineFrees := ⟨hc, traffic, released, dataEnd, by simp [lineState], retry⟩
    have handed := Part.handOn_of_peer (p := s.part) hc phase role valid peer
    have lif : s.part.lineEnded.handOn.lif = s.part.lineEnded.lif := by rw [handed, Part.peerFrameHeard_lif]
    have idle : s.part.handedOn.fre.inFlight = none := rfl
    obtain ⟨view, rest, flight⟩ := Part.giveReport_idle idle .lost
    obtain ⟨⟨e, m, d, taken, -⟩, -, -⟩ := Part.peerFrameHeard_view (p := s.part.lineEnded) (f := f) hc kind
    have taken : s.part.handedOn.pvw = { (s.part.viewed f).pvw with sEff := e, mismatch := m, deferral := d } := by
      rw [Part.handedOn, handed, Part.mapFre_pvw, taken]
      rfl
    have ended : s.part.handedOn.lif = s.part.lif.atFrameEnd := lif
    refine ⟨_, exec_frameEnd hl, ?_⟩
    rw [frees.frameEndReached lif, owed]
    refine ⟨Fre.phase_of_rest rest, congrArg (·.report) rest, flight, ?_, ?_, ?_, fun stands solo => ?_⟩
    · rw [Part.giveReport_lif, ended]
      simp [Lif.atFrameEnd, lineState]
    · obtain ⟨old, record⟩ := recordOf_upsert_of_node f.onRecord_node s.part.pvw.records
      rw [view, taken]
      exact ⟨f.onRecord old, record, f.onRecord_age old, by cases f <;> rfl⟩
    · rw [view, taken]
      cases f <;> rfl
    rw [view] at stands ⊢
    obtain ⟨awaits, still, moved⟩ := Part.handedOn_of_peer hc phase role valid peer kind claiming stands
    have line : s.part.handedOn.lineAvailable = !s.part.fre.duplicate := by
      rw [Part.lineAvailable_of_ended (p := s.part) (by rw [ended]; rfl) (by rw [awaits.fre]; rfl), lineState]
      rfl
    have elsewhere := awaits.sameOutside (line ▸ solo.imp_right (.imp_right fun h => by rw [h]; rfl)) .lost
    have pcu := elsewhere.2.1 (by simp)
    have outside := (elsewhere.mono (b := [.pcu, .adu, .pvw, .fre, .lif, .choices]) (by simp)).trans awaits.outside
    intro moves
    have key : s.part.handedOn.pcu.plan.key = (if moves then some (composeKey s.part.pcu.plan.occupied s.part.pcu.waitSeconds
        s.part.pcu.plan.timeUnits s.part.settings.node f.node s.part.pcu.refusals) else s.part.pcu.plan.key) := by
      by_cases hm : moves
      · rw [if_pos hm, (moved hm).1]
        rfl
      · rw [if_neg hm, (still hm).1]
    have pending : s.part.handedOn.adu.pendingKey = true ↔ s.part.adu.pendingKey = true ∨ moves := by
      by_cases hm : moves
      · rw [(moved hm).2]
        simp [Part.rekeyedOnLine, hm]
      · rw [(still hm).2]
        simp [hm]
    rw [pcu]
    refine ⟨key, awaits.pcu, fun stands => ?_, fun gone last => ?_, fun key gone again hk => ?_⟩
    · obtain ⟨taken, queue, offered⟩ := awaits.requeues (report := .lost) stands (by simp)
      refine ⟨?_, fun calm hm => ?_, fun key hp hk => ?_, outside⟩
      · rw [taken, line]
        cases s.part.fre.duplicate <;> rfl
      · exact queue (by rw [Bool.eq_false_iff]; exact fun hp => (pending.mp hp).elim (by simp [calm]) hm)
      · exact offered key (pending.mpr hp) hk
    · obtain ⟨taken, queue⟩ := awaits.givesUp gone last .lost
      exact ⟨taken, queue, outside⟩
    · have single : s.part.fre.duplicate = false := by simpa [gone, again] using solo
      obtain ⟨withdrawn, seek, yes, no⟩ := awaits.seeksAgain gone again (by rw [line, single]; rfl) .lost hk
      exact ⟨withdrawn, seek, yes, no, outside⟩

end Sys2Proof.Machine
end

section
/-! PROOF. The frame engine's state beside its queue under the events of the lift side, the port and the timers (chapters 1 to 4, 7, 9):
what they offer or remove moves the queue alone. -/

namespace Sys2Proof.Machine

-- Checked one after another: side by side, each waiting proof keeps a thread of its own.
set_option Elab.async false

section
variable (p : Part)

/-! ## RSQ's entries (chapter 1) -/

@[simp] theorem Part.enterParked_rest : p.enterParked.fre.rest = p.fre.rest := by simp [enterParked]
@[simp] theorem Part.neededDraw_rest (needed : Nat) : (p.neededDraw needed).fre.rest = p.fre.rest := by
  unfold neededDraw; dsimp only; repeat' split
  all_goals simp
@[simp] theorem Part.enterHalted_rest (cause : Cause) : (p.enterHalted cause).fre.rest = p.fre.rest := by simp [enterHalted]
@[simp] theorem Part.enterLevel_rest : p.enterLevel.fre.rest = p.fre.rest := by simp [enterLevel]
@[simp] theorem Part.enterCreep_rest : p.enterCreep.fre.rest = p.fre.rest := by simp [enterCreep]
@[simp] theorem Part.decideCase_rest : p.decideCase.fre.rest = p.fre.rest := by
  unfold decideCase; dsimp only; repeat' split
  all_goals simp
@[simp] theorem Part.replan_rest : p.replan.fre.rest = p.fre.rest := by
  unfold replan; dsimp only; repeat' split
  all_goals simp
@[simp] theorem Part.raceEnds_rest (outcome : ProbeOutcome) : (p.raceEnds outcome).fre.rest = p.fre.rest := by
  unfold raceEnds; dsimp only; repeat' split
  all_goals simp

/-! ## What RSQ takes from its neighbours -/

@[simp] theorem Part.stallRaised_rest : p.stallRaised.fre.rest = p.fre.rest := by unfold stallRaised; split <;> simp
@[simp] theorem Part.stallWithdrawn_rest : p.stallWithdrawn.fre.rest = p.fre.rest := by unfold stallWithdrawn; split <;> simp
@[simp] theorem Part.cancelHolds_rest : p.cancelHolds.fre.rest = p.fre.rest := by unfold cancelHolds; split <;> simp
@[simp] theorem Part.chainOpens_rest : p.chainOpens.fre.rest = p.fre.rest := by unfold chainOpens; split <;> simp
@[simp] theorem Part.clears_rest (causes : List Cause) : (p.clears causes).fre.rest = p.fre.rest := by
  unfold clears; split <;> simp
@[simp] theorem Part.validChanged_rest (valid : Bool) : (p.validChanged valid).fre.rest = p.fre.rest := by
  unfold validChanged; split <;> simp
@[simp] theorem Part.loadChanged_rest : p.loadChanged.fre.rest = p.fre.rest := by simp [loadChanged]
@[simp] theorem Part.lineRecovered_rest : p.lineRecovered.fre.rest = p.fre.rest := by simp [lineRecovered]
@[simp] theorem Part.endCreep_rest (e : CreepEnd) : (p.endCreep e).fre.rest = p.fre.rest := by unfold endCreep; split <;> simp
@[simp] theorem Part.testTarget_rest : p.testTarget.fre.rest = p.fre.rest := by
  unfold testTarget; repeat' split
  all_goals simp
@[simp] theorem Part.firstOf_rest (ends : List CreepEnd) : (p.firstOf ends).fre.rest = p.fre.rest := by
  unfold firstOf; split <;> simp

/-! ## Claim reports and the peer view (chapters 3 and 4) -/

@[simp] theorem Part.requeue_rest : p.requeue.fre.rest = p.fre.rest := by
  unfold requeue; dsimp only; repeat' split
  all_goals simp
@[simp] theorem Part.refused_rest : p.refused.fre.rest = p.fre.rest := by simp [refused]
@[simp] theorem Part.settleWithdrawn_rest (report : ClaimReport) : (p.settleWithdrawn report).fre.rest = p.fre.rest := by
  unfold settleWithdrawn; dsimp only; repeat' split
  all_goals simp
@[simp] theorem Part.claimReport_rest (report : ClaimReport) : (p.claimReport report).fre.rest = p.fre.rest := by
  unfold claimReport; dsimp only; repeat' split
  all_goals simp
@[simp] theorem Part.giveReport_rest (report : Option PendingReport) : (p.giveReport report).fre.rest = p.fre.rest := by
  unfold giveReport; split <;> simp
@[simp] theorem Part.ownReleaseHeard_rest : p.ownReleaseHeard.fre.rest = p.fre.rest := by simp [ownReleaseHeard]
@[simp] theorem Part.recordReachesStale_rest (n : Node) : (p.recordReachesStale n).fre.rest = p.fre.rest := by
  unfold recordReachesStale; repeat' split
  all_goals simp
@[simp] theorem Part.recordReachesRemoval_rest (n : Node) : (p.recordReachesRemoval n).fre.rest = p.fre.rest := by
  unfold recordReachesRemoval; repeat' split
  all_goals simp
@[simp] theorem Part.peerFrameHeard_rest (f : Frame) : (p.peerFrameHeard f).fre.rest = p.fre.rest := by
  have either (b : Bool) (q : Part) : (if b then q.peerFrame f else q.retryTrigger).fre.rest = q.fre.rest := by
    split <;> simp
  unfold peerFrameHeard
  repeat' split
  case h_1.isTrue | h_2.isTrue => exact takeUnordered_proj (·.fre.rest) either (fun _ => rfl) _ p
  all_goals simp
@[simp] theorem Part.leaveStuck_rest : p.leaveStuck.fre.rest = p.fre.rest := by unfold leaveStuck; dsimp only; split <;> simp

/-! ## LIU's reports, the inputs and the encoder (chapter 7) -/

@[simp] theorem LiuReport.act_rest (r : LiuReport) : (r.act p).fre.rest = p.fre.rest := by unfold act; split <;> simp
@[simp] theorem Part.takeReports_rest (reports : List LiuReport) : (p.takeReports reports).fre.rest = p.fre.rest :=
  takeReports_proj (·.fre.rest) (fun r q => LiuReport.act_rest q r) (fun _ => rfl) reports p
@[simp] theorem Part.evaluateConditions_rest : p.evaluateConditions.fre.rest = p.fre.rest := by simp [evaluateConditions]
@[simp] theorem Part.acceptTick_rest (kind : TickKind) (d : TickData) (controller : ControllerState) :
    (p.acceptTick kind d controller).fre.rest = p.fre.rest := by simp [acceptTick]
@[simp] theorem Part.heartbeatExpires_rest : p.heartbeatExpires.fre.rest = p.fre.rest := by
  unfold heartbeatExpires; split <;> simp
@[simp] theorem Part.inputChanged_rest (i : Input) (level : Bool) : (p.inputChanged i level).fre.rest = p.fre.rest := by
  unfold inputChanged; repeat' split
  all_goals simp
@[simp] theorem Part.mainsChanges_rest : p.mainsChanges.fre.rest = p.fre.rest := by
  unfold mainsChanges; dsimp only; split <;> simp
@[simp] theorem Part.debounceExpires_rest (i : Input) : (p.debounceExpires i).fre.rest = p.fre.rest := by
  unfold debounceExpires; dsimp only; repeat' split
  all_goals simp
@[simp] theorem Part.probeStep_rest (d : Dir) : (p.probeStep d).fre.rest = p.fre.rest := by
  unfold probeStep; dsimp only; split <;> simp
@[simp] theorem Part.creepStep_rest (d : Dir) : (p.creepStep d).fre.rest = p.fre.rest := by simp [creepStep]
@[simp] theorem Part.stepEvent_rest (d : Dir) : (p.stepEvent d).fre.rest = p.fre.rest := by unfold stepEvent; split <;> simp
@[simp] theorem Part.encoderMoves_rest (d : Dir) : (p.encoderMoves d).fre.rest = p.fre.rest := by simp [encoderMoves]
@[simp] theorem Part.encoderSkips_rest : p.encoderSkips.fre.rest = p.fre.rest := by
  unfold encoderSkips; dsimp only; split <;> simp
@[simp] theorem Part.sampleEncoder_rest : p.sampleEncoder.fre.rest = p.fre.rest := by unfold sampleEncoder; split <;> simp

/-! ## Timers (R11 to R57) and announcements -/

@[simp] theorem Part.verifyExpires_rest : p.verifyExpires.fre.rest = p.fre.rest := by unfold verifyExpires; split <;> simp
@[simp] theorem Part.gateExpires_rest : p.gateExpires.fre.rest = p.fre.rest := by
  unfold gateExpires; repeat' split
  all_goals simp
@[simp] theorem Part.probeWindowEnds_rest : p.probeWindowEnds.fre.rest = p.fre.rest := by
  unfold probeWindowEnds; split <;> simp
@[simp] theorem Part.brakeExpires_rest : p.brakeExpires.fre.rest = p.fre.rest := by
  unfold brakeExpires; repeat' split
  all_goals simp
@[simp] theorem Part.progressWindowEnds_rest : p.progressWindowEnds.fre.rest = p.fre.rest := by
  unfold progressWindowEnds; repeat' split
  all_goals simp
@[simp] theorem Part.levelExpires_rest : p.levelExpires.fre.rest = p.fre.rest := by unfold levelExpires; split <;> simp
@[simp] theorem Part.standstillExpires_rest : p.standstillExpires.fre.rest = p.fre.rest := by
  unfold standstillExpires; split <;> simp
@[simp] theorem Part.doorExpires_rest : p.doorExpires.fre.rest = p.fre.rest := by unfold doorExpires; split <;> simp
@[simp] theorem Part.waitSecondPasses_rest : p.waitSecondPasses.fre.rest = p.fre.rest := by
  unfold waitSecondPasses; dsimp only; repeat' split
  all_goals simp
@[simp] theorem Part.retryExpires_rest : p.retryExpires.fre.rest = p.fre.rest := by unfold retryExpires; split <;> simp
@[simp] theorem Part.deferralExpires_rest : p.deferralExpires.fre.rest = p.fre.rest := by
  unfold deferralExpires; split <;> simp
@[simp] theorem Part.announce_rest (act : Settings → Bool → Anu → Anu × Option MovingReport) :
    (p.announce act).fre.rest = p.fre.rest := by simp [announce]

end

end Sys2Proof.Machine
end

section
/-! PROOF. A node that has recorded DUPLICATE drives nothing (R105, R106): every step but a reset leaves it silent. -/

namespace Sys2Proof.Machine

-- Checked one after another: side by side, each waiting proof keeps a thread of its own.
set_option Elab.async false

/-- A node in service that has recorded DUPLICATE and drives nothing. -/
structure Part.Silenced (p : Part) : Prop where
  duplicate : p.fre.duplicate = true
  tx        : p.lif.tx = none
  committed : p.lpc.committed = true

section
variable {p q : Part}

/-! ## What RSQ, PCU, ADU, PVW, LIU and ANU do -/

/-- An event that moves of FRE the queue alone, and neither LIF's drive nor the commit. -/
theorem Part.Silenced.congr (h : p.Silenced) (fre : q.fre.rest = p.fre.rest := by simp) (tx : q.lif.tx = p.lif.tx := by simp)
    (committed : q.lpc.committed = p.lpc.committed := by simp) : q.Silenced :=
  ⟨(Fre.duplicate_of_rest fre).trans h.duplicate, tx.trans h.tx, committed.trans h.committed⟩

theorem Part.Silenced.heartbeatExpires (h : p.Silenced) : p.heartbeatExpires.Silenced := h.congr
theorem Part.Silenced.debounceExpires (h : p.Silenced) (i : Input) : (p.debounceExpires i).Silenced := h.congr
theorem Part.Silenced.sampleEncoder (h : p.Silenced) : p.sampleEncoder.Silenced := h.congr
theorem Part.Silenced.verifyExpires (h : p.Silenced) : p.verifyExpires.Silenced := h.congr
theorem Part.Silenced.gateExpires (h : p.Silenced) : p.gateExpires.Silenced := h.congr
theorem Part.Silenced.probeWindowEnds (h : p.Silenced) : p.probeWindowEnds.Silenced := h.congr
theorem Part.Silenced.brakeExpires (h : p.Silenced) : p.brakeExpires.Silenced := h.congr
theorem Part.Silenced.progressWindowEnds (h : p.Silenced) : p.progressWindowEnds.Silenced := h.congr
theorem Part.Silenced.speedWindowEnds (h : p.Silenced) : p.speedWindowEnds.Silenced := h.congr
theorem Part.Silenced.levelExpires (h : p.Silenced) : p.levelExpires.Silenced := h.congr
theorem Part.Silenced.standstillExpires (h : p.Silenced) : p.standstillExpires.Silenced := h.congr
theorem Part.Silenced.doorExpires (h : p.Silenced) : p.doorExpires.Silenced := h.congr
theorem Part.Silenced.waitSecondPasses (h : p.Silenced) : p.waitSecondPasses.Silenced := h.congr
theorem Part.Silenced.retryExpires (h : p.Silenced) : p.retryExpires.Silenced := h.congr
theorem Part.Silenced.deferralExpires (h : p.Silenced) : p.deferralExpires.Silenced := h.congr
theorem Part.Silenced.stuckExpires (h : p.Silenced) : p.stuckExpires.Silenced := h.congr
theorem Part.Silenced.recordReachesStale (h : p.Silenced) (n : Node) : (p.recordReachesStale n).Silenced := h.congr
theorem Part.Silenced.recordReachesRemoval (h : p.Silenced) (n : Node) : (p.recordReachesRemoval n).Silenced := h.congr

theorem Part.Silenced.sampleInput (h : p.Silenced) (i : Input) (level : Bool) : (p.sampleInput i level).Silenced := h.congr

theorem Part.Silenced.mapAnu (h : p.Silenced) (f : Anu → Anu) : (p.mapAnu f).Silenced := ⟨h.duplicate, h.tx, h.committed⟩

theorem Part.Silenced.mapPins (h : p.Silenced) (f : Pins → Pins) : (p.mapPins f).Silenced := ⟨h.duplicate, h.tx, h.committed⟩

theorem Part.Silenced.moveEncoder (h : p.Silenced) (move : Bool × Bool → Bool × Bool) : (p.moveEncoder move).Silenced :=
  h.mapPins _

theorem Part.Silenced.mapFre (h : p.Silenced) {f : Fre → Fre} (hf : (f p.fre).duplicate = p.fre.duplicate) :
    (p.mapFre f).Silenced := ⟨hf.trans h.duplicate, h.tx, h.committed⟩

theorem Part.Silenced.mapLif (h : p.Silenced) {f : Lif → Lif} (hf : (f p.lif).tx = none) : (p.mapLif f).Silenced :=
  ⟨h.duplicate, hf, h.committed⟩

theorem Part.Silenced.announce (h : p.Silenced) (act : Settings → Bool → Anu → Anu × Option MovingReport) :
    (p.announce act).Silenced := h.congr (tx := by simp [Part.announce]) (committed := by simp [Part.announce])

theorem Part.Silenced.presenceExpires (h : p.Silenced) : p.presenceExpires.Silenced := by
  have runs : (p.mapFre fun r => { r with presenceTimer := .running Config.presenceTime }).Silenced := h.mapFre rfl
  unfold Part.presenceExpires
  dsimp only
  repeat' split
  · exact runs
  · exact runs.congr
  · exact h

/-! ## Errors, duplicates and the filtered line -/

@[simp] theorem Fre.countError_duplicate (k : Option ErrorKind) (r : Fre) : (r.countError k).duplicate = r.duplicate := by
  unfold countError; split <;> rfl

@[simp] theorem Fre.errorAttempt_duplicate (r : Fre) : r.errorAttempt.duplicate = r.duplicate := by
  unfold errorAttempt; split <;> rfl

theorem Part.Silenced.lineTurnsDriven (h : p.Silenced) : p.lineTurnsDriven.Silenced := by
  refine h.congr (tx := ?_)
  unfold Part.lineTurnsDriven
  split
  · rfl
  · simp [Lif.turnDriven, h.tx]

theorem Part.Silenced.lineTurnsReleased (h : p.Silenced) : p.lineTurnsReleased.Silenced :=
  h.congr (tx := by simp [Part.lineTurnsReleased, Lif.turnReleased, h.tx])

theorem Part.Silenced.attemptFails (h : p.Silenced) : p.attemptFails.Silenced :=
  ⟨(Fre.errorAttempt_duplicate _).trans h.duplicate, h.tx, h.committed⟩

/-- A node that has recorded DUPLICATE answers with no error mark (R100). -/
theorem Part.Silenced.abandon (h : p.Silenced) (k : Option ErrorKind) (mark : Bool) : (p.abandon k mark).Silenced := by
  have unmarked : p.mayMark = false := by simp [mayMark, h.duplicate]
  have counted : (p.mapFre (Fre.countError k)).Silenced := h.mapFre (Fre.countError_duplicate ..)
  unfold Part.abandon
  dsimp only
  rw [unmarked, Bool.and_false]
  refine Part.Silenced.mapFre (Part.Silenced.mapLif ?_ rfl) rfl
  split
  · exact counted.attemptFails
  · exact counted

theorem Part.Silenced.recordDuplicate (h : p.Silenced) : p.recordDuplicate.Silenced :=
  ⟨by rw [recordDuplicate_fre], by rw [recordDuplicate_lif], by rw [recordDuplicate_lpc]; exact h.committed⟩

theorem Part.Silenced.duplicateFound (h : p.Silenced) : (p.recordDuplicate.mapFre Fre.spoilLost).Silenced :=
  h.recordDuplicate.mapFre (Fre.spoilLost_duplicate _)

theorem Part.Silenced.duplicateFrame (h : p.Silenced) : p.duplicateFrame.Silenced := h.duplicateFound.mapFre rfl

theorem Part.Silenced.duplicateResponse (h : p.Silenced) : p.duplicateResponse.Silenced := h.duplicateFound.abandon ..

/-! ## Symbols (R98, R110) -/

theorem Part.Silenced.takeBit (h : p.Silenced) (b : Bool) : (p.takeBit b).Silenced := by
  unfold Part.takeBit
  repeat' split
  · exact h.abandon ..
  · exact h.mapFre rfl
  · exact h.mapFre rfl
  · exact h.abandon ..
  · exact h
  · exact h

theorem Part.Silenced.takeSymbol (h : p.Silenced) (x : Symbol) : (p.takeSymbol x).Silenced := by
  unfold Part.takeSymbol
  repeat' split
  · exact h.mapFre rfl
  · exact h.takeBit _
  · exact h.takeBit _
  · exact h
  · exact h.abandon ..
  · exact h
  · exact h.abandon ..

theorem Part.Silenced.drivenPhaseEnds (h : p.Silenced) (length : Nat) : (p.drivenPhaseEnds length).Silenced := by
  have turned := h.lineTurnsDriven.lineTurnsReleased
  unfold Part.drivenPhaseEnds
  dsimp only
  repeat' split
  · exact turned
  · exact turned.takeSymbol _
  · exact turned

/-! ## The data end and the window (R98 to R103) -/

theorem Part.Silenced.openWindow (h : p.Silenced) (f : Frame) (draw : Nat) : (p.openWindow f draw).Silenced := by
  unfold Part.openWindow
  dsimp only
  split
  · exact h.mapFre rfl
  · refine Part.Silenced.congr (p := Part.mapFre _ p) ?_ (peerFrame_rest ..) (by rw [peerFrame_lif]) (by rw [peerFrame_lpc])
    exact h.mapFre rfl

theorem Part.Silenced.acceptFrame (h : p.Silenced) (f : Frame) : (p.acceptFrame f).Silenced := by
  unfold Part.acceptFrame
  split
  · exact h.openWindow ..
  all_goals exact h.mapFre rfl

theorem Part.Silenced.testReceived (h : p.Silenced) : p.testReceived.Silenced := by
  unfold Part.testReceived
  repeat' split
  · exact h.abandon ..
  · exact h.abandon ..
  · exact h.abandon ..
  · exact h.duplicateFrame
  · exact h.acceptFrame _

theorem Part.Silenced.takeResponse (h : p.Silenced) (sent : Bool) : (p.takeResponse sent).Silenced := by
  have judged (r : Part) (hr : r.Silenced) (valid : Bool) (entry : Node × Nat) : (if valid = true then r.mapFre fun x =>
      { x with list := x.list ++ [entry], rx := .empty, inResponse := false } else r.abandon (some .framing) true).Silenced := by
    split
    · exact hr.mapFre rfl
    · exact hr.abandon ..
  unfold Part.takeResponse
  dsimp only
  split
  · exact h.duplicateResponse
  · refine judged _ ?_ _ _
    split
    · exact ⟨h.duplicate, h.tx, h.committed⟩
    · exact h

theorem Part.Silenced.boundary (h : p.Silenced) (sent : Bool) : (p.boundary sent).Silenced := by
  unfold Part.boundary
  repeat' split
  · exact h
  · exact h.testReceived
  · exact h.takeResponse _
  · exact h.abandon ..
  all_goals exact h

theorem Part.Silenced.dataEndReached (h : p.Silenced) : p.dataEndReached.Silenced := by
  have reached : (p.mapLif fun l => { l with samples := lu 12, tx := none }).Silenced := h.mapLif rfl
  unfold Part.dataEndReached
  dsimp only
  repeat' split
  · exact reached
  · exact reached.boundary _
  · exact h

theorem Part.Silenced.judgeEdge (h : p.Silenced) (length : Nat) : (p.judgeEdge length).Silenced := by
  unfold Part.judgeEdge
  repeat' split
  · exact h.mapFre rfl
  · exact h.abandon ..
  · exact h.abandon ..
  all_goals exact h

theorem Part.Silenced.edgeAfter (h : p.Silenced) (length : Nat) : (p.edgeAfter length).Silenced := by
  have turned := h.dataEndReached.lineTurnsDriven
  unfold Part.edgeAfter
  dsimp only
  repeat' split
  · exact turned
  · exact turned.judgeEdge _
  · exact h

theorem Part.Silenced.symbolFault (h : p.Silenced) (e : SymbolFault) : (p.symbolFault e).Silenced := by
  unfold Part.symbolFault
  dsimp only
  repeat' split
  · exact h.drivenPhaseEnds _
  · exact h
  · exact h.lineTurnsDriven
  · exact h.lineTurnsDriven.takeSymbol _
  · exact h

/-! ## HELD and STUCK (R116) -/

theorem Part.Silenced.takeHeld (h : p.Silenced) : p.takeHeld.Silenced := by
  unfold Part.takeHeld
  split
  · exact h.abandon ..
  · exact h

theorem Part.Silenced.heldReached (h : p.Silenced) : p.heldReached.Silenced := by
  have driven : (p.lineTurnsDriven.othersDrive.mapLif fun l => { l with samples := max (lu 40) l.samples }).Silenced :=
    h.lineTurnsDriven.congr
  unfold Part.heldReached
  dsimp only
  split
  · exact driven
  · exact driven
  · exact driven.takeHeld
  all_goals exact Part.Silenced.takeHeld driven.congr

theorem Part.Silenced.stuckReached (h : p.Silenced) : p.stuckReached.Silenced := by
  have held : (p.heldReached.mapLif fun l => { l with samples := max (lu 160) l.samples }).Silenced := h.heldReached.congr
  unfold Part.stuckReached
  dsimp only
  split
  · exact held.congr
  · exact held

/-! ## The node's own sending: nothing begins, and nothing that is not driven fails -/

theorem Part.Silenced.startAttempt (h : p.Silenced) : p.startAttempt = p :=
  startAttempt_of_not_mayStart fun may => by simp [mayStart, h.duplicate] at may

theorem Part.Silenced.startRetry (h : p.Silenced) : p.startRetry = p := if_neg (by simp [mayRetry, h.duplicate])

theorem Part.Silenced.startResponse (h : p.Silenced) : p.startResponse = p := by
  unfold Part.startResponse
  split
  · exact if_neg (by simp [h.duplicate])
  · rfl

theorem Part.Silenced.loseArbitration (h : p.Silenced) : p.loseArbitration = p := by
  unfold Part.loseArbitration
  rw [h.tx]

theorem Part.Silenced.failEcho (h : p.Silenced) : p.failEcho = p := by
  unfold Part.failEcho
  rw [h.tx]

theorem Part.Silenced.failSymbol (h : p.Silenced) : p.failSymbol = p := by
  unfold Part.failSymbol
  rw [h.tx]
  exact if_neg (by simp [firstEdgeDue, h.duplicate])

theorem Part.Silenced.dueTime (h : p.Silenced) : p.mapLif Lif.dueTime = p := by
  have none : p.lif.dueTime = p.lif := by
    unfold Lif.dueTime
    rw [h.tx]
  rw [Part.mapLif, none]

theorem Part.Silenced.retryDue (h : p.Silenced) : p.retryDue.Silenced := by
  unfold Part.retryDue
  split
  · exact h.congr
  · exact h

theorem Part.Silenced.endLoopback (h : p.Silenced) (e : LoopEnd) : (p.endLoopback e).Silenced := by
  unfold Part.endLoopback
  split
  · exact h.mapLif rfl
  · exact h

/-! ## The frame end (R97, R99, R104, R111) -/

theorem Part.Silenced.retryClean (h : p.Silenced) : p.retryClean.Silenced := by
  unfold Part.retryClean
  dsimp only
  split
  · exact h.congr
  · exact h.congr

theorem Part.Silenced.ownFrameClean (h : p.Silenced) (f : Frame) : (p.ownFrameClean f).Silenced := by
  have clean : ((p.mapFre Fre.cleanAttempt).mapLif fun l => { l with echoRun := 0 }).Silenced := h.congr
  have retried (retry : Prop) [Decidable retry] {r : Part} (hr : r.Silenced) : (if retry then r.retryClean else r).Silenced := by
    split
    · exact hr.retryClean
    · exact hr
  have released {r : Part} (hr : r.Silenced) : r.ownReleaseHeard.Silenced := hr.congr
  unfold Part.ownFrameClean
  dsimp only
  cases f.kind
  case release => exact released (retried _ clean)
  all_goals exact retried _ clean

theorem Part.Silenced.windowEndsClean (h : p.Silenced) : p.windowEndsClean.Silenced := by
  have clean : ((p.mapFre Fre.cleanAttempt).mapLif fun l => { l with echoRun := 0 }).Silenced := h.congr
  unfold Part.windowEndsClean
  dsimp only
  split
  · exact clean.congr
  · exact h.congr

theorem Part.Silenced.handOn (h : p.Silenced) : p.handOn.Silenced := by
  unfold Part.handOn
  repeat' split
  · exact h.ownFrameClean _
  · exact h.recordDuplicate
  · exact h.congr
  · exact h
  · exact h.windowEndsClean
  · exact h.congr
  · exact h
  · exact h

theorem Part.Silenced.frameEndReached (h : p.Silenced) : p.frameEndReached.Silenced := by
  have data : (if p.lif.filtered = true then p.lineTurnsReleased else p).dataEndReached.Silenced := by
    refine Part.Silenced.dataEndReached ?_
    split
    · exact h.lineTurnsReleased
    · exact h
  unfold Part.frameEndReached
  dsimp only
  split
  · exact h
  split
  · exact h
  generalize (if p.lif.filtered = true then p.lineTurnsReleased else p).dataEndReached = r at data ⊢
  have closed : ((r.mapLif Lif.atFrameEnd).handOn.mapFre Fre.atFrameEnd).Silenced :=
    Part.Silenced.mapFre (Part.Silenced.handOn (data.mapLif rfl)) rfl
  have reported : ((((r.mapLif Lif.atFrameEnd).handOn.mapFre Fre.atFrameEnd).giveReport r.fre.report).mapLif
      Lif.retryEnds).Silenced := by
    refine Part.Silenced.congr (p := (r.mapLif Lif.atFrameEnd).handOn.mapFre Fre.atFrameEnd) closed (tx := ?_)
    simp only [Part.mapLif_lif, Part.giveReport_lif]
    unfold Lif.retryEnds
    split <;> rfl
  split
  · exact reported.congr
  · exact reported

/-! ## The lift port (R147 to R155) -/

theorem Lpc.clockByte_committed (status : List Byte) (viewed : Nat → List Byte) (b : Byte) (l : Lpc) :
    (l.clockByte status viewed b).committed = l.committed := by
  unfold clockByte
  dsimp only
  repeat' split
  all_goals rfl

theorem Lpc.foldl_clockByte_committed (status : List Byte) (viewed : Nat → List Byte) (bytes : List Byte) (l : Lpc) :
    (bytes.foldl (fun l b => l.clockByte status viewed b) l).committed = l.committed := by
  induction bytes generalizing l with
  | nil => rfl
  | cons b bytes ih => exact (ih _).trans (clockByte_committed ..)

/-- A transaction leaves the node silent where the command taken at its end does. -/
theorem Part.Silenced.transaction (h : p.Silenced) (bytes : List Byte) (bits : Nat) {finish : Lpc → Part → Part}
    (hf : ∀ l q, q.Silenced → (finish l q).Silenced) : (p.transaction bytes bits finish).Silenced := by
  have clocked : (p.clock bytes bits).release.Silenced := h.congr (committed := by
    exact Lpc.foldl_clockByte_committed p.statusRecord (fun i => p.viewRecord i) bytes p.lpc.select)
  unfold Part.transaction
  split
  · exact ⟨h.duplicate, h.tx, h.committed⟩
  · exact (hf (p.clock bytes bits).lpc _ clocked).congr

theorem Part.Silenced.modify (h : p.Silenced) (c : PortCommand) (t : Tail) {take : List Byte → Part → Part}
    (hf : ∀ bytes q, q.Silenced → (take bytes q).Silenced) : (p.modify c t take).Silenced := by
  refine h.transaction _ _ fun l q hq => ?_
  split
  · exact hf _ _ hq
  · exact ⟨hq.duplicate, hq.tx, hq.committed⟩

theorem Part.Silenced.refuseTransaction (h : p.Silenced) (r : CommandResult) : (p.refuseTransaction r).Silenced :=
  ⟨h.duplicate, h.tx, h.committed⟩

theorem Part.Silenced.setResult (h : p.Silenced) (r : CommandResult) : (p.setResult r).Silenced :=
  ⟨h.duplicate, h.tx, h.committed⟩

/-- After COMMIT the three commands of the part out of service are refused (R150, R151, R154). -/
theorem Part.Silenced.refused (h : p.Silenced) (staged : List Byte) :
    p.takeLoad staged = p.setResult .wrongState ∧ p.takeCommit = p.setResult .wrongState
      ∧ p.takeLoopback = p.setResult .wrongState :=
  ⟨if_pos h.committed, if_pos h.committed, if_pos h.committed⟩

theorem Part.Silenced.takeTick (h : p.Silenced) (kind : TickKind) (staged : List Byte) : (p.takeTick kind staged).Silenced := by
  have judged : (p.judgeTick kind (TickData.ofBytes staged)).2.Silenced := by
    unfold Part.judgeTick
    repeat' split
    · exact h
    · exact h.congr
    · exact h.congr
  unfold Part.takeTick
  split
  · exact h.setResult _
  · split <;> rename_i answer <;> rw [answer] at judged <;> exact judged.setResult _

theorem Part.Silenced.takeResume (h : p.Silenced) : p.takeResume.Silenced := by
  obtain ⟨_, hr⟩ | ⟨_, _, _, _, hr⟩ | ⟨_, _, hr⟩ := p.takeResume_cases <;> rw [hr]
  · exact Part.Silenced.setResult h.congr _
  · exact ⟨h.duplicate, h.tx, h.committed⟩
  · exact h.setResult _

/-- A RESTART that is not exactly framed is refused (R148, R153). -/
theorem Part.Silenced.restart (h : p.Silenced) {t : Tail} (framing : t ≠ ⟨[], 0⟩) :
    (p.modify .restart t fun _ p => p.takeRestart).Silenced := by
  cases ready : p.lpc.awaitRelease
  · have unfit : ¬ (PortCommand.restart.countFits (t.bytes.length + 1) = true ∧ t.bits.val = 0) := by
      obtain ⟨bytes, bits⟩ := t
      rintro ⟨fits, whole⟩
      have bare : bytes = [] := by simpa [PortCommand.countFits] using fits
      exact framing (by rw [bare, show bits = 0 from Fin.ext whole])
    rw [modify_ready .restart rfl t _ p ready, if_neg unfit]
    exact ⟨h.duplicate, h.tx, h.committed⟩
  · unfold Part.modify Part.transaction
    rw [if_pos ready]
    exact ⟨h.duplicate, h.tx, h.committed⟩

/-! ## A sample period -/

theorem Part.Silenced.phaseGoesOn (h : p.Silenced) : p.phaseGoesOn.2.Silenced := by
  unfold Part.phaseGoesOn
  dsimp only
  repeat' split
  all_goals exact ⟨h.duplicate, h.tx, h.committed⟩

theorem Part.Silenced.edgeFound (h : p.Silenced) (length : Nat) (early : Bool) : (p.edgeFound length early).2.Silenced := by
  unfold Part.edgeFound
  extract_lets stop
  split
  · exact h
  split
  · exact h
  split
  · split
    · exact ⟨h.duplicate, h.tx, h.committed⟩
    · exact h
  split
  · exact h.lineTurnsDriven
  · exact h

theorem Part.Silenced.sampleLine (h : p.Silenced) : p.sampleLine.2.Silenced := by
  have sampled : (p.mapLif (Lif.sampleWire (p.lif.drives || p.pins.lineOther))).Silenced :=
    h.mapLif (by simp [Lif.sampleWire, h.tx])
  unfold Part.sampleLine
  dsimp only
  repeat' split
  · exact sampled.edgeFound _ _
  · exact sampled
  · exact sampled
  · exact sampled.phaseGoesOn
  · exact sampled
  · exact sampled.phaseGoesOn

/-- The internal path of a loopback test is sampled with nothing driven on it. -/
theorem Part.Silenced.sampleTest (h : p.Silenced) (run : LoopRun) : (p.sampleTest run).2.Silenced := by
  have sampled : (p.lif.sampleWire p.lif.drives).tx = none := by simp [Lif.sampleWire, h.tx]
  have symbol (l : Lif) (hl : l.tx = none) : (l.testSymbol run).2.tx = none := by
    unfold Lif.testSymbol
    dsimp only
    repeat' split
    all_goals simp [Lif.turnReleased, hl]
  have edge (l : Lif) (hl : l.tx = none) (early : Bool) : (l.testEdge early).2.tx = none := by
    unfold Lif.testEdge
    dsimp only
    repeat' split
    all_goals simp [Lif.turnDriven, hl]
  have goesOn (l : Lif) (hl : l.tx = none) : (l.testGoesOn run).2.tx = none := by
    unfold Lif.testGoesOn
    dsimp only
    repeat' split
    all_goals exact hl
  refine ⟨h.duplicate, ?_, h.committed⟩
  unfold Part.sampleTest
  dsimp only
  repeat' split
  · exact edge _ sampled _
  · exact sampled
  · exact symbol _ sampled
  · exact sampled
  · exact goesOn _ sampled

theorem Part.Silenced.inFreeOrder (h : p.Silenced) (groups : List (List Instr)) : (p.inFreeOrder groups).2.Silenced := by
  unfold Part.inFreeOrder
  split
  · exact h
  · exact h
  · exact ⟨h.duplicate, h.tx, h.committed⟩

theorem Part.Silenced.advanceProbe (h : p.Silenced) : p.advanceProbe.2.Silenced := by
  unfold Part.advanceProbe
  repeat' split
  all_goals exact ⟨h.duplicate, h.tx, h.committed⟩

theorem Part.Silenced.advanceSamples (h : p.Silenced) : p.advanceSamples.2.Silenced := by
  unfold Part.advanceSamples
  split
  all_goals exact ⟨h.duplicate, h.tx, h.committed⟩

theorem Part.Silenced.sample (h : p.Silenced) : p.sample.2.Silenced := by
  unfold Part.sample
  split
  · exact h.sampleTest _
  · exact h.sampleLine

theorem Part.Silenced.period (h : p.Silenced) : p.period.2.Silenced := by
  have elapsed : p.elapse.Silenced := ⟨h.duplicate, h.tx, h.committed⟩
  exact elapsed.advanceProbe.advanceSamples.sample.inFreeOrder _

theorem Part.Silenced.idle (h : p.Silenced) : p.idle.2.Silenced := by
  unfold Part.idle
  repeat' split
  · exact h
  · exact h.period
  · exact h

/-! ## Every step -/

/-- Every command but a reset leaves the node silent. -/
theorem exec_silenced (c : Instr) {s t : State} (h : s.part.Silenced) (power : ∀ selected, c ≠ .powerOn selected)
    (reset : ∀ low selected, c ≠ .resetInput low selected) (restart : c ≠ .restart ⟨[], 0⟩) (ht : exec c s = .next t) :
    t.part.Silenced := by
  have stays {f : Part → Part} (hf : ∀ p : Part, p.Silenced → f p = p) (p : Part) (h : p.Silenced) : (f p).Silenced := by
    rw [hf p h]
    exact h
  cases c with
  | powerOn selected => exact absurd rfl (power selected)
  | resetInput low selected => exact absurd rfl (reset low selected)
  | restart tail => exact State.run_keeps h (fun _ h => h.restart fun e => restart (by rw [e])) ht
  | load tail => exact State.run_keeps h (fun _ h => h.modify _ _ fun _ _ h => by rw [(h.refused _).1]; exact h.setResult _) ht
  | commit tail => exact State.run_keeps h (fun _ h => h.modify _ _ fun b _ h => by rw [(h.refused b).2.1]; exact h.setResult _) ht
  | loopback tail =>
    exact State.run_keeps h (fun _ h => h.modify _ _ fun b _ h => by rw [(h.refused b).2.2]; exact h.setResult _) ht
  | loopbackTestEnd e => exact State.run_keeps h (fun _ h => h.endLoopback e) ht
  | tickA tail => exact State.run_keeps h (fun _ h => h.modify _ _ fun _ _ h => h.takeTick _ _) ht
  | tickB tail => exact State.run_keeps h (fun _ h => h.modify _ _ fun _ _ h => h.takeTick _ _) ht
  | resume tail => exact State.run_keeps h (fun _ h => h.modify _ _ fun _ _ h => h.takeResume) ht
  | status tail => exact State.run_keeps h (fun _ h => h.transaction _ _ fun _ _ h => h) ht
  | view tail => exact State.run_keeps h (fun _ h => h.transaction _ _ fun _ _ h => h) ht
  | unknownCommand code tail =>
    exact State.runIf_keeps h (fun _ h => h.transaction _ _ fun _ _ h => h.refuseTransaction _) ht
  | incompleteCommandByte bits =>
    exact State.run_keeps h (fun _ h => h.transaction _ _ fun _ _ h => h.refuseTransaction _) ht
  | heartbeatExpiry => exact State.runExpiry_keeps (·.liu.heartbeatTimer) h (fun _ h => h.heartbeatExpires) ht
  | debounceExpiry i => exact State.runExpiry_keeps (fun p => (p.liu.input i).timer) h (fun _ h => h.debounceExpires i) ht
  | encoderStep d | illegalTransition =>
    obtain rfl := Host.Outcome.next.inj ht
    exact Part.whenWorking_keeps (fun _ h => h.sampleEncoder) (h.moveEncoder _)
  | verifyTimerExpiry => exact State.runExpiry_keeps (·.rsq.verifyTimer) h (fun _ h => h.verifyExpires) ht
  | gateFallbackExpiry => exact State.runExpiry_keeps (·.rsq.gateTimer) h (fun _ h => h.gateExpires) ht
  | probeWindowExpiry => exact State.runExpiry_keeps (·.rsq.probeTick) h (fun _ h => h.probeWindowEnds) ht
  | brakeTimerExpiry => exact State.runExpiry_keeps (·.rsq.brakeTimer) h (fun _ h => h.brakeExpires) ht
  | progressWindowEnd => exact State.runExpiry_keeps (·.rsq.progressTimer) h (fun _ h => h.progressWindowEnds) ht
  | speedWindowEnd => exact State.runExpiry_keeps (·.rsq.speedTimer) h (fun _ h => h.speedWindowEnds) ht
  | levelTimerExpiry => exact State.runExpiry_keeps (·.rsq.levelTimer) h (fun _ h => h.levelExpires) ht
  | standstillExpiry => exact State.runExpiry_keeps (·.rsq.standstillTimer) h (fun _ h => h.standstillExpires) ht
  | doorTimerExpiry => exact State.runExpiry_keeps (·.rsq.doorTimer) h (fun _ h => h.doorExpires) ht
  | waitSecondsTimerExpiry => exact State.runExpiry_keeps (·.pcu.waitTimer) h (fun _ h => h.waitSecondPasses) ht
  | retryTimerExpiry => exact State.runExpiry_keeps (·.adu.retryTimer) h (fun _ h => h.retryExpires) ht
  | deferralLimitExpiry => exact State.runExpiry_keeps (·.adu.deferralTimer) h (fun _ h => h.deferralExpires) ht
  | lineStuckTimerExpiry => exact State.runExpiry_keeps (·.adu.stuckTimer) h (fun _ h => h.stuckExpires) ht
  | recordStale n => exact State.run_keeps h (fun _ h => h.recordReachesStale n) ht
  | recordRemoved n => exact State.run_keeps h (fun _ h => h.recordReachesRemoval n) ht
  | presenceTimerExpiry => exact State.runExpiry_keeps (·.fre.presenceTimer) h (fun _ h => h.presenceExpires) ht
  | attemptStart => exact State.run_keeps h (stays fun _ h => h.startAttempt) ht
  | arbitrationLoss => exact State.run_keeps h (stays fun _ h => h.loseArbitration) ht
  | transmitSymbolError => exact State.run_keeps h (stays fun _ h => h.failSymbol) ht
  | echoFailure => exact State.run_keeps h (stays fun _ h => h.failEcho) ht
  | lineSymbolError e => exact State.runIf_keeps h (fun _ h => Part.whenListening_keeps (fun _ h => h.symbolFault e) h) ht
  | lineHeld => exact State.run_keeps h (fun _ h => Part.whenListening_keeps (fun _ h => h.heldReached) h) ht
  | lineStuck => exact State.run_keeps h (fun _ h => Part.whenListening_keeps (fun _ h => h.stuckReached) h) ht
  | dataEnd => exact State.run_keeps h (fun _ h => Part.whenListening_keeps (fun _ h => h.dataEndReached) h) ht
  | responseStart => exact State.run_keeps h (fun _ h => Part.whenListening_keeps (stays fun _ h => h.startResponse) h) ht
  | edgeAfterDataEnd length =>
    exact State.runIf_keeps h (fun _ h => Part.whenListening_keeps (fun _ h => h.edgeAfter length) h) ht
  | rollCallResponse =>
    refine State.run_keeps h (fun p h => ?_) ht
    split
    · exact h.takeResponse _
    · exact h
  | frameEnd => exact State.run_keeps h (fun _ h => Part.whenListening_keeps (fun _ h => h.frameEndReached) h) ht
  | lostRetryTimerExpiry => exact State.runExpiry_keeps (·.lif.lostTimer) h (fun _ h => h.retryDue) ht
  | lostRetryPresence => exact State.run_keeps h (stays fun _ h => h.startRetry) ht
  | voiceDirectoryReadDone bytes => exact State.runIf_keeps h (fun _ h => h.announce _) ht
  | voiceRefillReadDone bytes => exact State.runIf_keeps h (fun _ h => h.mapAnu _) ht
  | sampleInstant => exact State.run_keeps h (fun _ h => h.announce _) ht
  | patienceTimerExpiry => exact State.runExpiry_keeps (·.anu.patience) h (fun _ h => h.announce _) ht
  | classifiedSymbol length =>
    exact State.runIf_keeps h (fun _ h => Part.whenListening_keeps (fun _ h => h.drivenPhaseEnds length) h) ht
  | idleLineDriven =>
    refine State.run_keeps h (fun p h => Part.whenListening_keeps (fun p h => ?_) h) ht
    split
    · exact h
    · exact h.lineTurnsDriven
  | symbolDueTime => exact State.runDue_keeps (due := (·.lif.symbolDue)) h (stays fun _ h => h.dueTime) ht
  | inputPinChange i level =>
    obtain rfl := Host.Outcome.next.inj ht
    exact Part.whenWorking_keeps (fun _ h => h.sampleInput i level) (h.mapPins _)

end

/-- Settles O60: a command that is no reset, or a sample period, leaves the node silent, as each operation does. -/
theorem duplicateNodeStaysSilent : Obligations.DuplicateNodeStaysSilent := by
  intro s t duplicate tx committed ht
  have silenced : s.part.Silenced := ⟨duplicate, tx, committed⟩
  have kept (h : t.part.Silenced) : t.part.fre.duplicate = true ∧ t.part.lif.tx = none ∧ t.part.lpc.committed = true :=
    ⟨h.duplicate, h.tx, h.committed⟩
  unfold step at ht
  split at ht
  next c rest pending =>
    by_cases reset : (∃ selected, c = .powerOn selected) ∨ (∃ low selected, c = .resetInput low selected) ∨ c = .restart ⟨[], 0⟩
    · exact .inr ⟨c, rest, pending, reset⟩
    · rw [not_or, not_or, not_exists, not_exists] at reset
      obtain ⟨power, input, restart⟩ := reset
      exact .inl (kept (exec_silenced c (s := { s with pending := rest }) silenced power
        (fun low selected e => input low ⟨selected, e⟩) restart ht))
  next =>
    obtain rfl := Host.Outcome.next.inj ht
    exact .inl (kept silenced.idle)

end Sys2Proof.Machine
end

section
/-! PROOF. The LOST retry (R118), and the recovery of a line that was LOST or STUCK (R14, R52, R116). -/

namespace Sys2Proof.Machine

-- Checked one after another: side by side, each waiting proof keeps a thread of its own.
set_option Elab.async false

/-! ## The line-stuck timer stands as a blocked node makes a new plan (R52) -/

section
variable (p : Part)

@[simp] theorem Part.ended_stuckTimer (o : ReleaseOutcome) : (p.ended o).adu.stuckTimer = p.adu.stuckTimer := by
  rw [ended_eq]; dsimp only; unfold Adu.released; split <;> rfl
@[simp] theorem Part.enterLanded_stuckTimer : p.enterLanded.adu.stuckTimer = p.adu.stuckTimer := by
  unfold enterLanded; dsimp only; split <;> simp
@[simp] theorem Part.enterDoors_stuckTimer : p.enterDoors.adu.stuckTimer = p.adu.stuckTimer := by
  unfold enterDoors; dsimp only; split <;> simp
@[simp] theorem Part.enterWarn_stuckTimer : p.enterWarn.adu.stuckTimer = p.adu.stuckTimer := by simp [enterWarn]
@[simp] theorem Part.admitted_stuckTimer : p.admitted.adu.stuckTimer = p.adu.stuckTimer := by
  unfold admitted; repeat' split
  all_goals simp
@[simp] theorem Part.lineBlocked_stuckTimer : p.lineBlocked.adu.stuckTimer = p.adu.stuckTimer := by
  unfold lineBlocked; split <;> simp
@[simp] theorem Part.soloRule_stuckTimer : p.soloRule.adu.stuckTimer = p.adu.stuckTimer := by
  unfold soloRule; dsimp only; split <;> simp [Adu.grant]
@[simp] theorem Adu.enterDefer_stuckTimer (a : Adu) : a.enterDefer.stuckTimer = a.stuckTimer := by unfold enterDefer; split <;> rfl
@[simp] theorem Part.queueing_stuckTimer (asked : Bool) : (p.queueing asked).adu.stuckTimer = p.adu.stuckTimer := by
  unfold queueing; repeat' split
  all_goals simp
@[simp] theorem Part.seek_stuckTimer : p.seek.adu.stuckTimer = p.adu.stuckTimer := by
  unfold seek; repeat' split
  all_goals simp
@[simp] theorem Part.enterWait_stuckTimer (confirm : Bool) : (p.enterWait confirm).adu.stuckTimer = p.adu.stuckTimer := by
  unfold enterWait; dsimp only; split <;> simp
@[simp] theorem Part.requestPlan_stuckTimer : p.requestPlan.adu.stuckTimer = p.adu.stuckTimer := by
  unfold requestPlan reevaluateDeferral; dsimp only; split <;> simp
@[simp] theorem Part.replanBlocked_stuckTimer : p.replanBlocked.adu.stuckTimer = p.adu.stuckTimer := by
  unfold replanBlocked; dsimp only; split <;> simp
@[simp] theorem Part.lineRecovered_stuckTimer : p.lineRecovered.adu.stuckTimer = p.adu.stuckTimer := by
  unfold lineRecovered clears; split <;> simp

end

section
variable {p q u : Part} {f : Frame}

/-! ## The line recovers (R14, R52) -/

theorem Part.lineRecovered_of_other (h : p.rsq.state ≠ .blocked ∨ p.rsq.cause ≠ .line) : p.lineRecovered = p := by
  refine if_neg fun ⟨blocked, line⟩ => ?_
  rw [List.mem_singleton] at line
  exact h.elim (· blocked) (· line)

/-- A node that seeks on a line that is available queues its Claim, or defers (R53). -/
theorem Part.seeksAs.queued_or_defer (h : q.seeksAs p) (line : p.lineAvailable = true) (key : p.pcu.plan.key ≠ none) :
    q.rsq = p.rsq ∧ (q.adu.state = .queued ∨ q.adu.state = .defer) := by
  obtain ⟨-, defers, queues⟩ := h
  obtain ⟨k, hk⟩ := Option.ne_none_iff_exists'.mp key
  cases hd : p.pvw.deferral
  · rw [queues line hd k hk]
    exact ⟨rfl, .inl rfl⟩
  · rw [defers line hd]
    exact ⟨rfl, .inr rfl⟩

/-- A plan that is not blocked has its position, and so a key (R36, R44). -/
theorem Settings.makePlan_key_of_unblocked {c : Settings} {i : PlanInputs} (h : (c.makePlan i).blockCause = .none) :
    (c.makePlan i).key ≠ none := by
  rw [ne_eq, makePlan_key_eq_none]
  intro invalid
  rw [makePlan_of_invalid invalid] at h
  exact absurd h (by decide)

/-- The line's recovery, on a part of which FRE, LIF and ADU's timers alone have moved since `p`. -/
theorem Part.lineRecovered_recoversAs (hc : p.lpc.committed = true) (same : u.sameOutside [.fre, .lif, .adu] p)
    (state : u.adu.state = p.adu.state) (line : u.lineAvailable = true) : u.lineRecovered.recoversAs p := by
  obtain ⟨rsq, pcu, -, pvw, -, -, liu, -, lpc, -, -⟩ := id same
  replace rsq := rsq (by decide)
  replace lpc := lpc (by decide)
  have inputs : u.settings.makePlan u.planInputs = p.settings.makePlan p.planInputs := by
    simp only [settings, planInputs, lpc, pcu (by decide), pvw (by decide), liu (by decide)]
  refine ⟨fun blocked cause none => ?_, fun other => ?_⟩
  · have replans : u.lineRecovered = u.replanBlocked := if_pos (by simp [rsq, blocked, cause])
    obtain ⟨plan, position, infeasible, waits, -⟩ := replanBlocked_replansBlockedAs (p := u) (by rw [lpc, hc])
      (by rw [rsq, blocked]) (.inl (state.trans none))
    rw [replans]
    refine ⟨plan.trans inputs, fun hb => ?_, fun hb => ?_, fun hb => ?_⟩
    all_goals rw [plan] at hb
    · rw [← rsq]
      exact congrArg (·.rsq) (position hb)
    · rw [← rsq]
      exact congrArg (·.rsq) (infeasible hb)
    · have available : (u.planned (u.settings.makePlan u.planInputs)).waiting.lineAvailable = true := by
        rw [← line]
        exact lineAvailable_congr rfl rfl (Fre.duplicate_of_rest (Fre.offer_rest ..))
      obtain ⟨waiting, admission⟩ := (waits hb (state.trans none)).queued_or_defer available (Settings.makePlan_key_of_unblocked hb)
      exact ⟨by rw [← rsq]; exact waiting, admission⟩
  · rw [lineRecovered_of_other (by rwa [rsq])]
    exact same

/-- What the recovery has made of RSQ, PCU and ADU stands while FRE and LIF close the traffic. -/
theorem Part.recoversAs.congr {r : Part} (h : q.recoversAs p) (same : r.sameOutside [.fre, .lif] q) : r.recoversAs p := by
  obtain ⟨rsq, pcu, adu, -⟩ := id same
  obtain ⟨blocked, other⟩ := h
  unfold Part.recoversAs
  rw [rsq (by decide), pcu (by decide), adu (by decide)]
  exact ⟨blocked, fun h => (same.mono (by simp)).trans (other h)⟩

/-! ## The frame end (R111, R116, R118) -/

/-- A line in traffic has been released for 24 LU, and no claim report is owed. -/
structure Part.LineReleased (p : Part) : Prop where
  traffic  : p.lif.traffic = true
  released : p.lif.filtered = false
  dataEnd  : 48 ≤ p.lif.samples
  report   : p.fre.report = none

theorem Part.LineReleased.frameEndReached (h : p.LineReleased) : p.frameEndReached =
    if p.lif.lineState = .stuck then (p.handedOn.mapLif Lif.retryEnds).leaveStuck else p.handedOn.mapLif Lif.retryEnds := by
  unfold Part.frameEndReached
  simp only [h.released, h.traffic, dataEndReached_of_past h.dataEnd, h.report, giveReport_none, Bool.false_eq_true, false_and,
    and_false, if_false, Bool.not_true]
  rfl

/-! ## The retry's Presence is heard back clean (R118) -/

/-- The node has sent the LOST retry's Presence and heard it back valid. -/
structure Part.RetryHeardBack (f : Frame) (p : Part) : Prop extends p.LineReleased where
  lost     : p.lif.lineState = .lost
  retry    : p.lif.retry = .sending
  phase    : p.fre.phase = .frame
  role     : p.fre.role = .sender
  valid    : p.fre.valid = some f
  kind     : f.kind = .presence
  inFlight : p.fre.inFlight = none

/-- The part as the retry's clean ending finds the line IDLE. -/
def Part.lineRegained (p : Part) : Part :=
  { p with lif := { p.lif with
      samples := 96, traffic := false, tx := none, lineState := .idle, echoRun := 0, lostTimer := .stopped, retry := .none } }

theorem Part.RetryHeardBack.handOn (h : p.RetryHeardBack f) :
    p.lineEnded.handOn = if p.fre.duplicate then p.lineRegained else p.lineRegained.lineRecovered := by
  have own : p.lineEnded.handOn = p.lineEnded.ownFrameClean f := by
    unfold Part.handOn
    rw [show p.lineEnded.fre.phase = .frame from h.phase, show p.lineEnded.fre.valid = some f from h.valid]
    exact if_pos (by simp [Fre.isSender, lineEnded, h.role])
  have fre : p.fre.cleanAttempt = p.fre := by simp [Fre.cleanAttempt, h.inFlight]
  have sending : p.attemptClean.lif.retry = .sending := h.retry
  have regained : p.attemptClean.mapLif (fun l => { l with lineState := .idle, echoRun := 0, lostTimer := .stopped, retry := .none })
      = p.lineRegained := by
    unfold attemptClean lineEnded mapFre mapLif
    dsimp only
    rw [fre]
    rfl
  calc p.lineEnded.handOn
      = p.attemptClean.retryClean := by
        rw [own, ownFrameClean]
        simp only [h.kind]
        exact if_pos sending
    _ = if p.fre.duplicate then p.lineRegained else p.lineRegained.lineRecovered := by
        rw [retryClean, regained]
        rfl

theorem Part.RetryHeardBack.frameEndReached (h : p.RetryHeardBack f) :
    p.frameEndReached = (if p.fre.duplicate then p.lineRegained else p.lineRegained.lineRecovered).mapFre Fre.atFrameEnd := by
  have ended : (p.handedOn.mapLif Lif.retryEnds) = p.handedOn := by
    have retry : p.handedOn.lif.retry = .none := by
      rw [handedOn, h.handOn]
      split <;> simp [lineRegained]
    simp [mapLif, Lif.retryEnds, retry]
  rw [h.toLineReleased.frameEndReached, if_neg (by simp [h.lost]), ended, handedOn, h.handOn]

/-! ## The line leaves STUCK (R52, R116) -/

/-- The part as the line that was STUCK has been released for 24 LU. -/
def Part.lineFreed (p : Part) : Part :=
  { p with
    lif := { p.lif with samples := 96, traffic := false, tx := none, lineState := .idle }
    fre := p.fre.afterTraffic, adu := { p.adu with stuckTimer := .stopped } }

theorem Part.LineReleased.frameEndReached_of_stuck (h : p.LineReleased) (stuck : p.lif.lineState = .stuck) (retry : p.lif.retry = .none)
    (phase : p.fre.phase = .discard) (window : p.fre.windowAbandoned = false) :
    p.frameEndReached = if p.adu.stuckTimer = .expired ∧ p.fre.duplicate = false then p.lineFreed.lineRecovered else p.lineFreed := by
  have handed : p.handedOn = p.lineEnded.mapFre Fre.atFrameEnd := by
    unfold Part.handedOn Part.handOn
    rw [show p.lineEnded.fre.phase = .discard from phase]
    simp [lineEnded, window]
  have ended : (p.handedOn.mapLif Lif.retryEnds) = p.handedOn := by
    rw [handed]
    simp [mapLif, mapFre, lineEnded, Lif.retryEnds, Lif.atFrameEnd, retry]
  have freed : p.handedOn.mapAdu (fun a => { a with stuckTimer := .stopped }) = p.lineFreed := by
    rw [handed]
    simp [mapAdu, mapFre, mapLif, lineEnded, lineFreed, Lif.atFrameEnd, stuck, lu, Config.samplesPerLU, Fre.atFrameEnd, Fre.afterTraffic]
  have expired : p.handedOn.adu.stuckTimer.hasExpired = true ↔ p.adu.stuckTimer = .expired := by
    rw [handed, show (p.lineEnded.mapFre Fre.atFrameEnd).adu.stuckTimer = p.adu.stuckTimer from rfl]
    cases p.adu.stuckTimer <;> simp [Timer.hasExpired]
  have available : p.lineFreed.lineAvailable = true ↔ p.fre.duplicate = false := by
    simp [lineAvailable, lineFreed, Fre.afterTraffic]
  rw [h.frameEndReached, if_pos stuck, ended, leaveStuck, freed]
  exact if_congr (and_congr expired available) rfl rfl

/-! ## The retry is armed and sent (R118, R90) -/

theorem Part.mayRetry_iff : p.mayRetry = true ↔
    p.lif.lineState = .lost ∧ p.lif.retry = .waiting
      ∧ (p.lif.filtered = false ∧ p.lif.traffic = false ∧ 96 ≤ p.lif.samples ∧ p.lif.loopRun = none) ∧ p.fre.duplicate = false := by
  have released : decide (lu 24 ≤ p.lif.samples) = true ↔ 96 ≤ p.lif.samples := decide_eq_true_iff
  simp [mayRetry, Lif.quiet, released, and_assoc]

theorem Part.startRetry_of_mayRetry {code : Nat} (h : p.mayRetry = true) (hc : p.lpc.committed = true)
    (hcode : p.rsq.state.presenceCode = some code) :
    p.startRetry = { p with
      fre := { p.fre with role := .sender }
      lif := { p.lif with
        retry := .sending
        tx := some (openingTx .retry (p.presence code p.presenceDraw (if p.rsq.state = .wait then p.pcu.plan.key else none)
          (p.adu.state == .solo)).bits) } } := by
  unfold startRetry
  rw [if_pos h, buildPresence_eq hc hcode, presenceDraw_eq]
  rfl

end

/-- Settles O52: the retry's timer, its start, and the three frame ends at which a LOST or a STUCK line ends its retry or recovers. -/
theorem lostLineIsRetried : Obligations.LostLineIsRetried := by
  refine ⟨fun s code hs lost => ⟨fun expires => ?_, fun retry filtered traffic samples loopRun duplicate hcode f hf => ?_⟩,
    fun s hl hc traffic filtered samples report => ?_⟩
  · refine (State.runExpiry_of_expires (timer := (·.lif.lostTimer)) Part.retryDue hs expires).trans ?_
    rw [Part.retryDue, if_pos expires.1]
    rfl
  · refine (State.run_of_working Part.startRetry hs.1).trans ?_
    rw [Part.startRetry_of_mayRetry (Part.mayRetry_iff.mpr ⟨lost, retry, ⟨filtered, traffic, samples, loopRun⟩, duplicate⟩) hs.2 hcode,
      hf]
    rfl
  have released : s.part.LineReleased := ⟨traffic, filtered, samples, report⟩
  refine ⟨fun f lost retry phase role valid kind inFlight => ⟨_, exec_frameEnd hl, ?_⟩,
    fun lost retry phase => ⟨_, exec_frameEnd hl, ?_⟩, fun stuck retry phase window => ⟨_, exec_frameEnd hl, ?_⟩⟩
  · rw [Part.RetryHeardBack.frameEndReached ⟨released, lost, retry, phase, role, valid, kind, inFlight⟩]
    refine ⟨?_, fun duplicate => ?_, fun duplicate => ?_⟩
    · split <;> simp [Part.lineRegained]
    · rw [if_pos duplicate]
      exact ⟨by simp [Part.sameOutside, Part.lineRegained], rfl⟩
    · rw [if_neg (by simp [duplicate])]
      refine (Part.lineRecovered_recoversAs (u := s.part.lineRegained) hc (by simp [Part.sameOutside, Part.lineRegained]) rfl ?_).congr
        (by simp [Part.sameOutside])
      simp [Part.lineAvailable, Part.lineRegained, duplicate]
  · obtain ⟨claim, handed⟩ := Part.handedOn_of_discard phase
    rw [released.frameEndReached, if_neg (by simp [lost]), handed]
    refine ⟨?_, by simp [Part.sameOutside]⟩
    simp [Part.mapLif, Lif.retryEnds, Lif.atFrameEnd, lost, retry, lu, Config.samplesPerLU, Config.lostRetryTime, Config.ms,
      Config.samplesPerMs]
  · rw [released.frameEndReached_of_stuck stuck retry phase window]
    have freed : s.part.lineFreed.sameOutside [.fre, .lif, .adu] s.part := by simp [Part.sameOutside, Part.lineFreed]
    refine ⟨?_, ?_, fun expired duplicate => ?_, fun other => ?_⟩
    · split <;> simp [Part.lineFreed]
    · split <;> simp [Part.lineFreed]
    · rw [if_pos ⟨expired, duplicate⟩]
      refine Part.lineRecovered_recoversAs hc freed rfl ?_
      simp [Part.lineAvailable, Part.lineFreed, Fre.afterTraffic, duplicate]
    · rw [if_neg fun ⟨expired, duplicate⟩ => other.elim (· expired) fun found => by simp [found] at duplicate]
      exact freed

end Sys2Proof.Machine
end

section
/-! PROOF. Driven phases of the line (R98, R110, R112, R116): their edges and LIF's own due times, the lengths that hold the line, and the
classification at their end. -/

namespace Sys2Proof.Machine

-- Checked one after another: side by side, each waiting proof keeps a thread of its own.
set_option Elab.async false

section
variable {p r : Part}

/-! ## An edge on an idle line (R112, R115) -/

theorem Part.lineTurnsDriven_of_idle (traffic : p.lif.traffic = false) (filtered : p.lif.filtered = false) (tx : p.lif.tx = none) :
    p.lineTurnsDriven = { p with
      lif := { p.lif with
        integrator := 6, filtered := true, samples := 0, idleBefore := true, traffic := true
        lineState := if p.lif.lineState = .idle then .busy else p.lif.lineState }
      pins := { p.pins with lineOther := true } } := by
  have lif := lineTurnsDriven_lif filtered
  have turned : p.lineTurnsDriven = { p with lif := p.lineTurnsDriven.lif, pins := { p.pins with lineOther := true } } := by
    simp [lineTurnsDriven, filtered, Lif.drives, tx, mapPins, mapLif]
  rw [turned, lif, traffic, tx]
  simp [tx]

/-! ## LIF's own due times (R112) -/

variable {tx : Tx}

theorem Lif.symbolDue_iff {l : Lif} (h : l.tx = some tx) : l.symbolDue = true ↔ tx.releaseDue = some 0 ∨ tx.edgeDue = some 0 := by
  simp [symbolDue, h, Tx.due]

theorem Lif.dueTime_of_mark {l : Lif} (h : l.tx = some tx) (driving : tx.driving = true) (mark : tx.source = .mark) :
    l.dueTime = { l with tx := none } := by
  simp [dueTime, h, driving, mark]

theorem Lif.dueTime_of_drive {l : Lif} (h : l.tx = some tx) (driving : tx.driving = true) (mark : tx.source ≠ .mark) :
    l.dueTime = { l with tx := some { tx with driving := false, driveAge := 0, releaseDue := none } } := by
  simp [dueTime, h, driving, mark]

theorem Lif.dueTime_of_edge {l : Lif} (h : l.tx = some tx) (driving : tx.driving = false) (bits : tx.begun < tx.bits.length) :
    l.dueTime = { l with tx := some { tx with
      driving := true, begun := tx.begun + 1, driveAge := 0, shown := l.filtered, edgeDue := none } } := by
  simp [dueTime, h, driving, bits]

end

/-- Settles O51: the edge on the idle line, and the due time by what LIF then drives, where it stands. -/
theorem lineEdgesAndDueTimes : Obligations.LineEdgesAndDueTimes := by
  intro s hw
  refine ⟨fun loopRun traffic filtered tx => ?_, fun tx htx due => ?_, fun tx htx release edge queued => ?_⟩
  · refine (State.run_of_listening _ ⟨hw, loopRun⟩).trans ?_
    rw [traffic, ← Part.lineTurnsDriven_of_idle traffic filtered tx]
    rfl
  · have stands : s.part.lif.symbolDue = true ∨ .symbolDueTime ∉ s.announced := by
      rw [Lif.symbolDue_iff htx, or_assoc]
      exact due
    have runs : exec .symbolDueTime s = .next { s with part := { s.part with lif := s.part.lif.dueTime } } :=
      (State.runDue_of_stands (due := (·.lif.symbolDue)) stands).trans (State.run_of_working _ hw)
    rw [runs]
    refine ⟨fun driving mark => ?_, fun driving mark => ?_, fun driving bits => ?_⟩
    · rw [Lif.dueTime_of_mark htx driving mark]
    · rw [Lif.dueTime_of_drive htx driving mark]
    · rw [Lif.dueTime_of_edge htx driving bits]
  · refine State.runDue_of_past (due := (·.lif.symbolDue)) queued ?_
    rw [← Bool.not_eq_true, Lif.symbolDue_iff htx]
    exact fun due => due.elim release edge

section
variable {p : Part}

/-! ## The traffic given up, on any line -/

/-- A giving up moves of LIF what it drives and the LOST retry. -/
theorem Part.abandon_lif (k : Option ErrorKind) (mark : Bool) (p : Part) :
    (p.abandon k mark).lif = { p.lif with tx := (p.abandon k mark).lif.tx, retry := (p.abandon k mark).lif.retry } := by
  unfold abandon
  by_cases own : (p.mapFre (Fre.countError k)).fre.isSender = true
  · simp only [own, if_true, attemptFails]
    rfl
  · simp only [own, if_false, Bool.false_eq_true]
    rfl

/-- A giving up without a mark leaves the node driving nothing. -/
theorem Part.abandon_tx_of_unmarked (k : Option ErrorKind) (p : Part) : (p.abandon k false).lif.tx = none := rfl

theorem Part.abandon_counters (k : Option ErrorKind) (mark : Bool) (p : Part) :
    (p.abandon k mark).fre.counters = (p.fre.countError k).counters := by
  have attempt (r : Fre) : r.errorAttempt.counters = r.counters := by rw [Fre.errorAttempt_eq]
  unfold abandon
  by_cases own : (p.mapFre (Fre.countError k)).fre.isSender = true
  · simp only [own, if_true]
    exact attempt _
  · simp only [own, if_false, Bool.false_eq_true]
    rfl

/-! ## HELD and STUCK (R116, R117) -/

/-- A driven line in traffic has reached 40 LU: the length is counted, the drive is another's where it is not LIF's, and outside LOST
the line is HELD. -/
def Part.lineHeld (p : Part) : Part :=
  { p with
    lif := { p.lif with samples := max 160 p.lif.samples, lineState := if p.lif.lineState = .lost then .lost else .held }
    pins := { p.pins with lineOther := p.pins.lineOther || (p.lif.filtered && !p.lif.drives) } }

theorem Part.heldReached_eq (filtered : p.lif.filtered = true) (line : p.lif.lineState ∈ [LineState.idle, .busy, .sending, .lost]) :
    p.heldReached = p.lineHeld.takeHeld := by
  unfold heldReached
  rw [lineTurnsDriven_of_driven filtered]
  cases h : p.lif.lineState
  case held | stuck => simp [h] at line
  all_goals simp [mapLif, othersDrive, mapPins, lineHeld, h, lu, Config.samplesPerLU]

/-- A line that is HELD takes its length alone, and then STUCK (R52, R116). -/
theorem Part.stuckReached_eq (filtered : p.lif.filtered = true) (held : p.lif.lineState = .held) :
    p.stuckReached = { p with
      lif := { p.lif with lineState := .stuck, samples := max 640 p.lif.samples }
      adu := { p.adu with stuckTimer := .running 500000 }
      pins := { p.pins with lineOther := p.pins.lineOther || !p.lif.drives } } := by
  have length : max 640 (max 160 p.lif.samples) = max 640 p.lif.samples := by omega
  unfold stuckReached heldReached
  rw [lineTurnsDriven_of_driven filtered]
  simp [mapLif, mapAdu, othersDrive, mapPins, filtered, held, lu, Config.samplesPerLU, Config.lineStuckTime, Config.ms,
    Config.samplesPerMs, length]

theorem Part.takeHeld_of_traffic (h : p.fre.phase = .frame ∨ p.fre.phase = .window) : p.takeHeld = p.abandon (some .framing) false :=
  if_pos (h.elim .inl fun window => .inr (.inl window))

theorem Part.takeHeld_of_none (h : p.fre.phase = .idle ∨ p.fre.phase = .discard) (sender : p.fre.isSender = false) : p.takeHeld = p := by
  refine if_neg ?_
  obtain phase | phase := h <;> simp [phase, sender]

theorem Part.takeHeld_lif (p : Part) : p.takeHeld.lif = { p.lif with tx := p.takeHeld.lif.tx, retry := p.takeHeld.lif.retry } := by
  unfold takeHeld
  split
  · exact abandon_lif ..
  · rfl

end

/-- Settles O49: the length is counted and the line held, and FRE gives up what is in progress. -/
theorem longDrivenPhaseHoldsLine : Obligations.LongDrivenPhaseHoldsLine := by
  intro s hl filtered
  refine ⟨fun line => ⟨_, State.run_of_listening Part.heldReached hl, ?_⟩, fun held => ?_⟩
  · rw [Part.heldReached_eq filtered line]
    have lif := s.part.lineHeld.takeHeld_lif
    refine ⟨by rw [lif]; rfl, by rw [lif]; rfl, fun traffic => ?_, fun still sender => ?_, ?_⟩
    · rw [Part.takeHeld_of_traffic (by exact traffic)]
      exact ⟨rfl, rfl, Part.abandon_counters ..⟩
    · rw [Part.takeHeld_of_none (by exact still) (by exact sender)]
      rfl
    · simp [Part.sameOutside, Part.lineHeld]
  · refine (State.run_of_listening Part.stuckReached hl).trans ?_
    rw [Part.stuckReached_eq filtered held]

/-! ## A byte in progress (R98) -/

/-- A bit moves the bits held up by one place, and is the least significant of them. -/
theorem shiftLeft_or_bit (c : Byte) (bit : Bool) :
    (c <<< 1) ||| (if bit then 1#8 else 0#8) = BitVec.ofNat 8 (2 * c.toNat + if bit then 1 else 0) := by
  have apart : (c <<< 1) &&& (if bit then 1#8 else 0#8) = 0#8 := by
    cases bit
    · simp
    · ext i
      simp
      omega
  rw [← BitVec.add_eq_or_of_and_eq_zero _ _ apart]
  cases bit <;> simp <;> bv_omega

/-- The bits of a byte from place `i` up are those above it with the bit at `i`. -/
theorem ushiftRight_succ_shiftLeft_or (b : Byte) (i : Nat) :
    ((b >>> (i + 1)) <<< 1) ||| (if b.getLsbD i then 1#8 else 0#8) = b >>> i := by
  ext j hj
  cases j with
  | zero => cases h : b.getLsbD i <;> simp [h]
  | succ j =>
    have place : i + 1 + j = i + (j + 1) := by omega
    cases h : b.getLsbD i <;> simp [place]

theorem RxBuffer.take_of_short {rx : RxBuffer} (h : rx.count < 7) (bit : Bool) : rx.take bit = { rx with
    current := (rx.current <<< 1) ||| (if bit then 1#8 else 0#8), count := rx.count + 1 } :=
  if_neg (by omega)

theorem RxBuffer.take_of_full {rx : RxBuffer} (h : rx.count = 7) (bit : Bool) : rx.take bit =
    { bytes := rx.bytes ++ [(rx.current <<< 1) ||| (if bit then 1#8 else 0#8)], current := 0, count := 0 } :=
  if_pos (by omega)

/-- Eight bits, most significant first, are a byte. -/
theorem RxBuffer.take_byte {rx : RxBuffer} (b : Byte) (count : rx.count = 0) (current : rx.current = 0) :
    [7, 6, 5, 4, 3, 2, 1, 0].foldl (fun r i => r.take (b.getLsbD i)) rx = { rx with bytes := rx.bytes ++ [b] } := by
  obtain ⟨bytes, c, n⟩ := rx
  obtain rfl : n = 0 := count
  obtain rfl : c = 0 := current
  have next (n i : Nat) (hn : n < 7) : (RxBuffer.mk bytes (b >>> (i + 1)) n).take (b.getLsbD i) = ⟨bytes, b >>> i, n + 1⟩ := by
    rw [take_of_short hn, ushiftRight_succ_shiftLeft_or]
  have last : (RxBuffer.mk bytes (b >>> 1) 7).take (b.getLsbD 0) = ⟨bytes ++ [b], 0, 0⟩ := by
    rw [take_of_full rfl, ushiftRight_succ_shiftLeft_or, BitVec.ushiftRight_zero]
  have start : (0 : Byte) = b >>> (7 + 1) := by
    ext i hi
    simp
  conv_lhs => rw [start]
  simp only [List.foldl_cons, List.foldl_nil]
  rw [next 0 7 (by omega), next 1 6 (by omega), next 2 5 (by omega), next 3 4 (by omega), next 4 3 (by omega), next 5 2 (by omega),
    next 6 1 (by omega), last]

/-! ## The table of R110 -/

section
variable {length : Nat}

theorem classify_bit (h1 : 1 ≤ length) (h6 : length ≤ 6) :
    classify false length = some (if length ≤ 3 then .one else .zero) := by
  unfold classify
  rw [if_neg (by omega), if_neg Bool.false_ne_true]
  by_cases h3 : length ≤ 3
  · rw [if_pos h3, if_pos h3]
  · rw [if_neg h3, if_neg h3, if_pos h6]

theorem classify_opening (h10 : 10 ≤ length) (h14 : length ≤ 14) : classify true length = some .opening := by
  unfold classify
  rw [if_neg (by omega), if_pos rfl, if_pos ⟨h10, h14⟩]

theorem classify_openingInTraffic (h10 : 10 ≤ length) (h14 : length ≤ 14) : classify false length = some .framingError := by
  unfold classify
  rw [if_neg (by omega), if_neg Bool.false_ne_true, if_neg (by omega), if_neg (by omega), if_neg (by omega), if_pos h14]

theorem classify_stray (h1 : 1 ≤ length) (h40 : length < 40) (stray : length < 10 ∨ 14 < length) :
    classify true length = some .symbolError := by
  unfold classify
  rw [if_neg (by omega), if_pos rfl, if_neg (by omega)]

theorem classify_long (idle : Bool) (h40 : 40 ≤ length) : classify idle length = none := if_pos (.inr h40)

end

/-! ## A driven phase ends (R110) -/

section
variable {p : Part} {length : Nat}

/-- FRE takes what the phase is classified as, once the line has turned released. -/
theorem Part.drivenPhaseEnds_of_symbol {x : Symbol} (filtered : p.lif.filtered = true) (silent : p.lif.silent = false)
    (symbol : classify p.lif.idleBefore length = some x) : p.drivenPhaseEnds length = p.lineTurnsReleased.takeSymbol x := by
  simp [drivenPhaseEnds, lineTurnsDriven_of_driven filtered, symbol, silent]

theorem Part.drivenPhaseEnds_of_none (filtered : p.lif.filtered = true) (symbol : classify p.lif.idleBefore length = none) :
    p.drivenPhaseEnds length = p.lineTurnsReleased := by
  simp [drivenPhaseEnds, lineTurnsDriven_of_driven filtered, symbol]

theorem Part.takeSymbol_lif (x : Symbol) (p : Part) :
    (p.takeSymbol x).lif = { p.lif with tx := (p.takeSymbol x).lif.tx, retry := (p.takeSymbol x).lif.retry } := by
  have bit (b : Bool) : (p.takeBit b).lif = { p.lif with tx := (p.takeBit b).lif.tx, retry := (p.takeBit b).lif.retry } := by
    unfold takeBit
    split
    · split
      · exact abandon_lif ..
      · rfl
    · split
      · rfl
      · exact abandon_lif ..
    · rfl
    · rfl
  cases x
  case one => exact bit true
  case zero => exact bit false
  case opening => rfl
  case symbolError | framingError =>
    unfold takeSymbol
    dsimp only
    split
    · rfl
    · exact abandon_lif ..

theorem Part.drivenPhaseEnds_lif (length : Nat) (filtered : p.lif.filtered = true) :
    (p.drivenPhaseEnds length).lif = { p.lif with
      integrator := 0, filtered := false, samples := 0
      tx := (p.drivenPhaseEnds length).lif.tx, retry := (p.drivenPhaseEnds length).lif.retry } := by
  unfold drivenPhaseEnds
  rw [lineTurnsDriven_of_driven filtered]
  dsimp only
  split
  · split
    · rfl
    · rw [takeSymbol_lif]; rfl
  · rfl

theorem Part.drivenPhaseEnds_sameOutside (length : Nat) (p : Part) : (p.drivenPhaseEnds length).sameOutside [.fre, .lif, .pins] p := by
  simp [sameOutside]

theorem Part.takeBit_of_frame (bit : Bool) (phase : p.fre.phase = .frame) (valid : p.fre.valid = none) (room : p.fre.rx.bytes.length < 12) :
    p.takeBit bit = p.mapFre fun r => { r with rx := r.rx.take bit } := by
  unfold takeBit
  simp [phase, valid, room]

/-- A stray symbol gives up a frame of which nothing was received (assumption 18). -/
theorem Part.takeSymbol_of_stray (phase : p.fre.phase = .idle) : p.takeSymbol .symbolError = p.abandon (some .symbol) true :=
  if_neg (by simp [phase])

end

/-- Settles O50: the bits of a byte, and the end of a driven phase by its class. -/
theorem drivenPhaseClassified : Obligations.DrivenPhaseClassified := by
  refine ⟨fun rx bit => ⟨fun h => ?_, fun h => ?_⟩, fun rx b => RxBuffer.take_byte b, fun s length hl h1 filtered state => ?_⟩
  · rw [RxBuffer.take_of_short h, shiftLeft_or_bit]
  · rw [RxBuffer.take_of_full h, shiftLeft_or_bit]
  have held : s.part.lif.lineState ≠ .held := by obtain h | h | h := state <;> simp [h]
  have stuck : s.part.lif.lineState ≠ .stuck := by obtain h | h | h := state <;> simp [h]
  have silent := Lif.silent_eq_false_iff.mpr ⟨held, stuck⟩
  have runs : exec (.classifiedSymbol length) s = .next { s with part := s.part.drivenPhaseEnds length } :=
    (State.runIf_of_ok _ s (by simpa [Instr.wellFormed] using h1)).trans (State.run_of_listening _ hl)
  have taken {x : Symbol} {idle : Bool} (hi : s.part.lif.idleBefore = idle) (symbol : classify idle length = some x) :
      s.part.drivenPhaseEnds length = s.part.lineTurnsReleased.takeSymbol x :=
    Part.drivenPhaseEnds_of_symbol filtered silent (by rw [hi]; exact symbol)
  refine ⟨_, runs, Part.drivenPhaseEnds_lif length filtered, fun traffic h6 phase valid room => ?_, fun idle h10 h14 => ?_,
    fun traffic h10 h14 phase => ?_, fun idle stray h40 phase sender => ?_, fun h40 => ?_, s.part.drivenPhaseEnds_sameOutside length⟩
  · have bit : s.part.drivenPhaseEnds length = s.part.lineTurnsReleased.takeBit (decide (length ≤ 3)) := by
      rw [taken traffic (classify_bit h1 h6)]
      by_cases h3 : length ≤ 3
      · rw [if_pos h3, decide_eq_true h3]; rfl
      · rw [if_neg h3, decide_eq_false h3]; rfl
    rw [bit, Part.takeBit_of_frame _ (by exact phase) (by exact valid) (by exact room)]
    rfl
  · rw [taken idle (classify_opening h10 h14)]
    rfl
  · have abandoned : s.part.lineTurnsReleased.takeSymbol .framingError = s.part.lineTurnsReleased.abandon (some .framing) true :=
      if_neg (by simp [phase])
    rw [taken traffic (classify_openingInTraffic h10 h14), abandoned]
    exact ⟨rfl, Part.abandon_counters ..⟩
  · have given : s.part.drivenPhaseEnds length = s.part.lineTurnsReleased.abandon (some .symbol) true := by
      rw [taken idle (classify_stray h1 h40 stray), Part.takeSymbol_of_stray (by exact phase)]
    have fault : s.part.symbolFault (.driven length) = s.part.drivenPhaseEnds length := by
      refine if_pos ?_
      rw [Part.lineTurnsDriven_of_driven filtered, idle, classify_stray h1 h40 stray]
    obtain ⟨⟨discards, -, others⟩, counters, lif, -⟩ := s.part.lineTurned_released.abandon (some .symbol) true held stuck
    obtain ⟨notSender, notClaimant⟩ : s.part.fre.role ≠ .sender ∧ s.part.fre.role ≠ .claimant := by
      simpa [Fre.isSender] using sender
    obtain ⟨queue, inFlight, report, -, tx⟩ := others notSender notClaimant
    rw [given]
    have window : (s.part.fre.windowAbandoned || s.part.fre.phase == .window) = s.part.fre.windowAbandoned := by simp [phase]
    have shown : (s.part.lineTurnsReleased.abandon (some .symbol) true).lif.filtered = false := by rw [lif]; rfl
    refine ⟨?_, ?_, ?_⟩
    · rw [discards, queue, inFlight, report, counters, window]
      rfl
    · rw [tx, shown]
      exact if_congr (by simp) rfl rfl
    · have wellFormed : (Instr.lineSymbolError (.driven length)).wellFormed = true := by
        simp [Instr.wellFormed, SymbolFault.wellFormed]
        omega
      rw [← given, ← fault]
      exact (State.runIf_of_ok _ s wellFormed).trans (State.run_of_listening _ hl)
  · rw [Part.drivenPhaseEnds_of_none filtered (classify_long _ h40)]
    rfl

end Sys2Proof.Machine
end

section
/-! PROOF. The idle step (assumption 1): what is due at once joins the queue, or a sample period passes, which runs the timers down, samples
the wire (R109) and queues what comes due, and decides nothing. -/

namespace Sys2Proof.Machine

-- Checked one after another: side by side, each waiting proof keeps a thread of its own.
set_option Elab.async false

/-! ## The timers and their expiries -/

/-- An expiry is taken as its own timer's. -/
theorem exec_expiry : ∀ e ∈ timersWithExpiries, ∃ f, ∀ s, exec e.2 s = s.runExpiry e.2 e.1 f := by
  intro e he
  fin_cases he <;> exact ⟨_, fun _ => rfl⟩

/-- The commands of the timers are events of the part, and none is a clock command of another kind. -/
theorem expiry_spec : ∀ e ∈ timersWithExpiries,
    e.2.wellFormed = true ∧ e.2 ≠ .probeWindowExpiry ∧ e.2 ≠ .symbolDueTime := by
  simp [timersWithExpiries, Instr.wellFormed]

/-- Each timer has a command of its own. -/
theorem expiries_nodup : (timersWithExpiries.map (·.2)).Nodup := by decide

section
variable {p q : Part}

theorem Part.expiries_eq (p : Part) :
    p.expiries = timersWithExpiries.filterMap fun e => if (e.1 p).due then some e.2 else none := rfl

theorem Part.mem_expiries {e : (Part → Timer) × Instr} (he : e ∈ timersWithExpiries) : e.2 ∈ p.expiries ↔ (e.1 p).due = true := by
  rw [expiries_eq, List.mem_filterMap]
  refine ⟨fun ⟨a, ha, hc⟩ => ?_, fun due => ⟨e, he, by simp [due]⟩⟩
  obtain ⟨due, same⟩ : (a.1 p).due = true ∧ a.2 = e.2 := by simpa using hc
  obtain rfl := List.inj_on_of_nodup_map expiries_nodup ha he same
  exact due

theorem Part.expiries_wellFormed {c : Instr} (h : c ∈ p.expiries) : c.wellFormed = true := by
  obtain ⟨e, he, hc⟩ := List.mem_filterMap.mp (expiries_eq p ▸ h)
  obtain ⟨-, rfl⟩ : (e.1 p).due = true ∧ e.2 = c := by simpa using hc
  exact (expiry_spec e he).1

/-! ## The free order of what comes due at one sample (assumption 4) -/

theorem mem_pick {α : Type} {x : α} {n : Nat} {l : List α} : x ∈ pick n l ↔ x ∈ l := by
  induction l generalizing n with
  | nil => cases n <;> rfl
  | cons a l ih =>
    cases n with
    | zero => rfl
    | succ n =>
      rw [List.mem_cons, ← ih (n := n)]
      simp only [pick]
      cases pick n l with
      | nil => simp
      | cons b bs => simp [or_left_comm]

theorem mem_arrange {α : Type} {x : α} {fuel n : Nat} {l : List α} : x ∈ arrange fuel n l ↔ x ∈ l := by
  induction fuel generalizing n l with
  | zero => rfl
  | succ fuel ih =>
    rw [← mem_pick (n := n % l.length) (l := l)]
    unfold arrange
    cases pick (n % l.length) l with
    | nil => rfl
    | cons a as => simp [ih]

theorem Part.mem_inFreeOrder {c : Instr} {groups : List (List Instr)} : c ∈ (p.inFreeOrder groups).1 ↔ ∃ g ∈ groups, c ∈ g := by
  unfold inFreeOrder
  split
  · simp
  · simp
  · simp only [List.mem_flatten, mem_arrange]

theorem Part.inFreeOrder_part (groups : List (List Instr)) (p : Part) : ∃ n, (p.inFreeOrder groups).2 = { p with choices := n } := by
  unfold inFreeOrder
  split
  · exact ⟨_, rfl⟩
  · exact ⟨_, rfl⟩
  · exact ⟨_, rfl⟩

/-! ## The probe window and the sample instants (R20, R142) -/

theorem Part.advanceProbe_part (p : Part) :
    ∃ w t, p.advanceProbe.2 = p.mapRsq fun r => { r with probeWindow := w, probeTick := t } := by
  unfold advanceProbe
  split
  · exact ⟨_, _, rfl⟩
  · split <;> exact ⟨_, _, rfl⟩

theorem Part.advanceProbe_events {g : List Instr} {c : Instr} (hg : g ∈ p.advanceProbe.1) (hc : c ∈ g) : c.wellFormed = true := by
  unfold advanceProbe at hg
  split at hg
  · simp_all [Instr.wellFormed]
  · split at hg <;> simp at hg

theorem Part.advanceSamples_part (p : Part) : ∃ t, p.advanceSamples.2 = p.mapAnu fun a => { a with sampleClock := t } := by
  unfold advanceSamples
  split <;> exact ⟨_, rfl⟩

theorem Part.advanceSamples_events {g : List Instr} {c : Instr} (hg : g ∈ p.advanceSamples.1) (hc : c ∈ g) :
    c.wellFormed = true := by
  unfold advanceSamples at hg
  split at hg <;> simp_all [Instr.wellFormed]

theorem PeerRecord.dueCommands_events {r : PeerRecord} {g : List Instr} {c : Instr} (hg : g ∈ r.dueCommands) (hc : c ∈ g) :
    c.wellFormed = true := by
  unfold dueCommands at hg
  repeat' split at hg
  all_goals simp_all [Instr.wellFormed]

/-! ## One sample of the line (R109 to R114) -/

/-- What is made of a part once its wire has been sampled: commands that are events of the part, and a part of which LIF's record, the pins
and the count of free choices alone have moved, the LOST retry timer and the integrator not among them. -/
structure Part.Measured (r : List Instr × Part) (p : Part) : Prop where
  events     : ∀ c ∈ r.1, c.wellFormed = true
  outside    : r.2.sameOutside [.lif, .pins, .choices] p
  lostTimer  : r.2.lif.lostTimer = p.lif.lostTimer
  integrator : r.2.lif.integrator = p.lif.integrator

/-- Commands alone are measured. -/
theorem Part.Measured.of_events {events : List Instr} (h : ∀ c ∈ events, c.wellFormed = true) : Part.Measured (events, p) p :=
  ⟨h, by simp [sameOutside], rfl, rfl⟩

theorem Part.Measured.append {r : List Instr × Part} (h : Part.Measured r p) {more : List Instr} (hm : ∀ c ∈ more, c.wellFormed = true) :
    Part.Measured (r.1 ++ more, r.2) p :=
  { h with events := fun c hc => (List.mem_append.mp hc).elim (h.events c) (hm c) }

/-- The filter's integrator has come to its end where the filtered output turns (R109). -/
theorem Lif.integrator_of_turns {l : Lif} (h : l.turns = true) : l.integrator = if l.filtered then 0 else 6 := by
  unfold turns at h
  split at h <;> simp_all [filterDelay]

theorem Part.edgeFound_measured {length : Nat} (early : Bool) (h1 : 1 ≤ length) (filtered : p.lif.filtered = false)
    (turns : p.lif.turns = true) : Part.Measured (p.edgeFound length early) p := by
  have stop : ∀ c ∈ (if early then [Instr.transmitSymbolError] else []), c.wellFormed = true := by
    split <;> simp [Instr.wellFormed]
  unfold edgeFound
  extract_lets stops
  split
  · exact .of_events (by simp [Instr.wellFormed])
  split
  · exact .of_events (by simp [Instr.wellFormed])
  split
  next h24 h12 =>
    have edge : (Instr.edgeAfterDataEnd length).wellFormed = true := by
      simp [Instr.wellFormed]
      omega
    split
    · refine ⟨?_, by simp [sameOutside, choose], rfl, rfl⟩
      simp only [List.mem_singleton, forall_eq]
      split
      · exact edge
      · rfl
    · exact .of_events (by simpa using edge)
  next h12 =>
    split
    · have lif := lineTurnsDriven_lif filtered
      refine ⟨stop, by simp [sameOutside], by rw [lif], ?_⟩
      rw [lif, Lif.integrator_of_turns turns, filtered]
      rfl
    next h27 =>
      have edge : (Instr.lineSymbolError (.edge length)).wellFormed = true := by
        simp [Instr.wellFormed, SymbolFault.wellFormed]
        omega
      refine .of_events fun c hc => (List.mem_append.mp hc).elim (stop c) fun hc => ?_
      obtain rfl := List.mem_singleton.mp hc
      exact edge

theorem Tx.overrun_events (samples : Nat) (t : Tx) {c : Instr} (h : c ∈ t.overrun samples) : c.wellFormed = true := by
  unfold overrun at h
  repeat' split at h
  all_goals simp_all [Instr.wellFormed]

theorem Part.phaseGoesOn_measured (p : Part) : Part.Measured p.phaseGoesOn p := by
  have overrun (n : Nat) : ∀ c ∈ (p.lif.tx.map (Tx.overrun n)).getD [], c.wellFormed = true := by
    cases p.lif.tx with
    | none => simp
    | some t => exact fun c => Tx.overrun_events n t
  have counted {events : List Instr} (h : ∀ c ∈ events, c.wellFormed = true) (n : Nat) :
      Part.Measured (events, p.mapLif fun l => { l with samples := n }) p := ⟨h, by simp [sameOutside], rfl, rfl⟩
  unfold phaseGoesOn
  extract_lets samples longer
  split
  · split
    · exact .of_events (by simp [Instr.wellFormed])
    split
    · exact .of_events (by simp [Instr.wellFormed])
    · exact counted (overrun _) _
  split
  · exact .of_events (by simp [Instr.wellFormed])
  split
  · exact .of_events (by simp [Instr.wellFormed])
  split
  · exact counted (by simp [Instr.wellFormed]) _
  · exact counted (by simp) _

theorem wholeLU_pos (samples : Nat) : 1 ≤ wholeLU samples := Nat.le_max_left ..

theorem phaseEnds_events (samples : Nat) : ∀ c ∈ phaseEnds samples, c.wellFormed = true := by
  intro c hc
  unfold phaseEnds at hc
  have classified : (Instr.classifiedSymbol (wholeLU samples)).wellFormed = true := by simpa [Instr.wellFormed] using wholeLU_pos samples
  rw [List.mem_append, List.mem_append] at hc
  obtain (h | h) | h := hc
  · split at h <;> simp_all [Instr.wellFormed]
  · split at h <;> simp_all [Instr.wellFormed]
  · rwa [List.mem_singleton.mp h]

theorem symbolDue_events (l : Lif) : ∀ c ∈ (if l.symbolDue then [Instr.symbolDueTime] else []), c.wellFormed = true := by
  split <;> simp [Instr.wellFormed]

/-- What is found on the line once the wire has been sampled: an edge, the end of a driven phase, a failed echo, or a phase that goes
on. -/
def Part.lineFound (r : Part) : List Instr × Part :=
  if r.lif.turns then
    if !r.lif.filtered then r.edgeFound (wholeLU (r.lif.samples + 1)) ((r.lif.tx.map Tx.earlyEdge).getD false)
    else if r.lif.drives then ([.echoFailure], r)
    else (phaseEnds (r.lif.samples + 1), r)
  else if r.lif.echoFails then
    if r.lif.answers then (.echoFailure :: r.phaseGoesOn.1, r.phaseGoesOn.2) else ([.echoFailure], r)
  else r.phaseGoesOn

theorem Part.lineFound_measured (r : Part) : Part.Measured r.lineFound r := by
  have goesOn := r.phaseGoesOn_measured
  unfold lineFound
  split
  next turns =>
    split
    next released => exact edgeFound_measured _ (wholeLU_pos _) (by simpa using released) turns
    · split
      · exact .of_events (by simp [Instr.wellFormed])
      · exact .of_events (phaseEnds_events _)
  · split
    · split
      · exact { goesOn with events := List.forall_mem_cons.mpr ⟨rfl, goesOn.events⟩ }
      · exact .of_events (by simp [Instr.wellFormed])
    · exact goesOn

/-- The line once its wire has been sampled. -/
def Part.wireSampled (p : Part) : Part := p.mapLif (Lif.sampleWire (p.lif.drives || p.pins.lineOther))

theorem Part.sampleLine_eq (p : Part) : p.sampleLine =
    (p.wireSampled.lineFound.1 ++ (if p.wireSampled.lif.symbolDue then [Instr.symbolDueTime] else []), p.wireSampled.lineFound.2) := rfl

/-- One sample of the line. -/
theorem Part.sampleLine_measured (p : Part) : Part.Measured p.sampleLine p.wireSampled := by
  rw [sampleLine_eq]
  exact p.wireSampled.lineFound_measured.append (symbolDue_events _)

/-! ## One sample of the internal path (R119, R120) -/

theorem testEnds_events (e : LoopEnd) : ∀ c ∈ testEnds e, c.wellFormed = true := by simp [testEnds, Instr.wellFormed]

/-- What LIF makes of a sample of the internal path. -/
structure Lif.Measured (r : List Instr × Lif) (l : Lif) : Prop where
  events     : ∀ c ∈ r.1, c.wellFormed = true
  lostTimer  : r.2.lostTimer = l.lostTimer
  integrator : r.2.integrator = l.integrator

theorem Lif.testSymbol_measured (run : LoopRun) {l : Lif} (filtered : l.filtered = true) (turns : l.turns = true) :
    Lif.Measured (l.testSymbol run) l := by
  have ended : l.integrator = 0 := by rw [integrator_of_turns turns, filtered]; rfl
  unfold testSymbol
  extract_lets turned
  split
  case h_4 | h_5 | h_6 => exact ⟨testEnds_events _, rfl, ended.symm⟩
  all_goals exact ⟨by simp, rfl, ended.symm⟩

theorem Lif.testEdge_measured (early : Bool) {l : Lif} (filtered : l.filtered = false) (turns : l.turns = true) :
    Lif.Measured (l.testEdge early) l := by
  have ended : l.integrator = 6 := by rw [integrator_of_turns turns, filtered]; rfl
  unfold testEdge
  extract_lets length
  split
  · exact ⟨by simp, rfl, ended.symm⟩
  split <;> exact ⟨testEnds_events _, rfl, ended.symm⟩

theorem Lif.testGoesOn_measured (run : LoopRun) (l : Lif) : Lif.Measured (l.testGoesOn run) l := by
  unfold testGoesOn
  extract_lets samples longer
  split
  · exact ⟨by simp, rfl, rfl⟩
  split
  · exact ⟨testEnds_events _, rfl, rfl⟩
  split
  · exact ⟨testEnds_events _, rfl, rfl⟩
  · exact ⟨by simp, rfl, rfl⟩

/-- What is found on the internal path once it has been sampled. -/
def Lif.testFound (run : LoopRun) (l : Lif) : List Instr × Lif :=
  if l.turns then
    if !l.filtered then l.testEdge ((l.tx.map Tx.earlyEdge).getD false)
    else if l.drives then (testEnds (.error .echo), l)
    else l.testSymbol run
  else if l.echoFails then (testEnds (.error .echo), l)
  else l.testGoesOn run

theorem Lif.testFound_measured (run : LoopRun) (l : Lif) : Lif.Measured (l.testFound run) l := by
  have echo : Lif.Measured (testEnds (.error .echo), l) l := ⟨testEnds_events _, rfl, rfl⟩
  unfold testFound
  split
  next turns =>
    split
    next released => exact testEdge_measured _ (by simpa using released) turns
    next driven =>
      split
      · exact echo
      · exact testSymbol_measured run (by simpa using driven) turns
  · split
    · exact echo
    · exact testGoesOn_measured run l

theorem Part.sampleTest_eq (run : LoopRun) (p : Part) : p.sampleTest run =
    (((p.lif.sampleWire p.lif.drives).testFound run).1
        ++ (if (p.lif.sampleWire p.lif.drives).symbolDue then [Instr.symbolDueTime] else []),
      { p with lif := ((p.lif.sampleWire p.lif.drives).testFound run).2 }) := rfl

theorem Part.sampleTest_measured (run : LoopRun) (p : Part) :
    Part.Measured (p.sampleTest run) (p.mapLif (Lif.sampleWire p.lif.drives)) := by
  obtain ⟨events, lostTimer, integrator⟩ := (p.lif.sampleWire p.lif.drives).testFound_measured run
  rw [sampleTest_eq]
  exact ⟨fun c hc => (List.mem_append.mp hc).elim (events c) (symbolDue_events _ c), by simp [sameOutside], lostTimer, integrator⟩

/-- One sample of the line, or of the internal path. -/
theorem Part.sample_measured (p : Part) : ∃ wire, (p.lif.loopRun = none → wire = (p.lif.drives || p.pins.lineOther))
    ∧ Part.Measured p.sample (p.mapLif (Lif.sampleWire wire)) := by
  unfold sample
  split
  next run h => exact ⟨_, fun hn => by simp [h] at hn, p.sampleTest_measured run⟩
  next => exact ⟨_, fun _ => rfl, p.sampleLine_measured⟩

/-! ## A sample period -/

/-- `q` is `p` one sample period later: every timer one period down, the records older, and of LIF's record the LOST retry timer. -/
structure Part.PeriodLater (q p : Part) : Prop where
  rsq       : ∃ w t, q.rsq = { p.rsq.elapse with probeWindow := w, probeTick := t }
  anu       : ∃ t, q.anu = { p.elapse.anu with sampleClock := t }
  lostTimer : q.lif.lostTimer = p.lif.lostTimer.elapse
  outside   : q.sameOutside [.rsq, .lif, .anu, .pins, .choices] p.elapse

theorem Part.periodLater_elapse (p : Part) : p.elapse.PeriodLater p :=
  ⟨⟨_, _, rfl⟩, ⟨_, rfl⟩, rfl, by simp [sameOutside]⟩

/-- Every timer that has an expiry runs one period down. -/
theorem Part.PeriodLater.timer (h : q.PeriodLater p) : ∀ e ∈ timersWithExpiries, e.1 q = (e.1 p).elapse := by
  obtain ⟨⟨w, t, rsq⟩, ⟨t', anu⟩, lostTimer, -, pcu, adu, -, fre, -, liu, -⟩ := h
  simp [timersWithExpiries, rsq, anu, lostTimer, pcu, adu, fre, liu, elapse, Rsq.elapse, Liu.elapse, Debounced.elapse]

/-- The part as its wire is sampled: the period elapsed, the probe window and the sample instants advanced. -/
def Part.advanced (p : Part) : Part := p.elapse.advanceProbe.2.advanceSamples.2

theorem Part.advanced_eq (p : Part) : ∃ w t t', p.advanced =
    { p.elapse with
      rsq := { p.rsq.elapse with probeWindow := w, probeTick := t }, anu := { p.elapse.anu with sampleClock := t' } } := by
  obtain ⟨w, t, probe⟩ := p.elapse.advanceProbe_part
  obtain ⟨t', samples⟩ := p.elapse.advanceProbe.2.advanceSamples_part
  exact ⟨w, t, t', by rw [advanced, samples, probe]; rfl⟩

/-- What comes due in a sample period, in groups that have no order among themselves (assumption 4). -/
def Part.dueGroups (p : Part) : List (List Instr) :=
  p.elapse.expiries.map (fun c => [c]) ++ p.elapse.pvw.records.flatMap PeerRecord.dueCommands ++ p.elapse.advanceProbe.1
    ++ p.elapse.advanceProbe.2.advanceSamples.1 ++ (if p.advanced.sample.1.isEmpty then [] else [p.advanced.sample.1])

theorem Part.period_eq (p : Part) : p.period = p.advanced.sample.2.inFreeOrder p.dueGroups := rfl

theorem Part.period_part (p : Part) : ∃ n, p.period.2 = { p.advanced.sample.2 with choices := n } := by
  rw [period_eq]
  exact inFreeOrder_part ..

theorem Part.period_later (p : Part) : p.period.2.PeriodLater p := by
  obtain ⟨n, period⟩ := p.period_part
  obtain ⟨w, t, t', advanced⟩ := p.advanced_eq
  obtain ⟨wire, -, -, outside, lostTimer, -⟩ := p.advanced.sample_measured
  obtain ⟨rsq, -, -, -, -, -, -, anu, -⟩ := id outside
  rw [period]
  refine ⟨⟨w, t, ?_⟩, ⟨t', ?_⟩, ?_, ?_⟩
  · exact (rsq (by decide)).trans (by rw [advanced]; rfl)
  · exact (anu (by decide)).trans (by rw [advanced]; rfl)
  · exact lostTimer.trans (by rw [advanced]; rfl)
  · have sampled : (p.advanced.mapLif (Lif.sampleWire wire)).sameOutside [.rsq, .lif, .anu, .pins, .choices] p.elapse := by
      rw [advanced]
      simp [sameOutside]
    have chosen : ({ p.advanced.sample.2 with choices := n } : Part).sameOutside [.rsq, .lif, .anu, .pins, .choices]
        p.advanced.sample.2 := by simp [sameOutside]
    exact chosen.trans ((outside.mono (by simp)).trans sampled)

/-- The integrator takes one sample of the wire (R109). -/
theorem Part.period_integrator (p : Part) (loopRun : p.lif.loopRun = none) : p.period.2.lif.integrator =
    if p.lif.drives = true ∨ p.pins.lineOther = true then min 6 (p.lif.integrator + 1) else p.lif.integrator - 1 := by
  obtain ⟨n, period⟩ := p.period_part
  obtain ⟨w, t, t', advanced⟩ := p.advanced_eq
  have lif : p.advanced.lif = p.elapse.lif := by rw [advanced]
  have pins : p.advanced.pins = p.pins := by rw [advanced]; rfl
  obtain ⟨wire, line, measured⟩ := p.advanced.sample_measured
  have drives : wire = (p.lif.drives || p.pins.lineOther) := by
    rw [line (by rw [lif]; exact loopRun), lif, pins]
    rfl
  have sampled : p.period.2.lif.integrator = integrate wire p.lif.integrator := by
    rw [period]
    exact measured.integrator.trans (by rw [mapLif, lif]; rfl)
  rw [sampled, drives, integrate]
  exact if_congr (by simp) rfl rfl

theorem Part.period_events (p : Part) {c : Instr} (h : c ∈ p.period.1) : c.wellFormed = true := by
  obtain ⟨wire, -, measured⟩ := p.advanced.sample_measured
  rw [period_eq] at h
  obtain ⟨g, hg, hc⟩ := mem_inFreeOrder.mp h
  simp only [dueGroups, List.mem_append] at hg
  obtain (((hg | hg) | hg) | hg) | hg := hg
  · obtain ⟨e, he, rfl⟩ := List.mem_map.mp hg
    rw [List.mem_singleton.mp hc]
    exact expiries_wellFormed he
  · obtain ⟨r, -, hr⟩ := List.mem_flatMap.mp hg
    exact r.dueCommands_events hr hc
  · exact advanceProbe_events hg hc
  · exact advanceSamples_events hg hc
  · split at hg
    · simp at hg
    · rw [List.mem_singleton.mp hg] at hc
      exact measured.events c hc

/-- The expiries that come due join the queue. -/
theorem Part.mem_period_of_expiry {c : Instr} (h : c ∈ p.elapse.expiries) : c ∈ p.period.1 := by
  rw [period_eq, mem_inFreeOrder]
  exact ⟨[c], by simp [dueGroups, h], List.mem_singleton_self c⟩

theorem Part.dueNow_events {c : Instr} (h : c ∈ p.dueNow) : c.wellFormed = true := by
  unfold dueNow at h
  simp only [List.mem_append] at h
  obtain (h | h) | h := h
  all_goals split at h <;> simp_all [Instr.wellFormed]

/-! ## No decision is taken -/

/-- What a step that decides nothing leaves of a part. -/
structure Part.Undecided (q p : Part) : Prop where
  state        : q.rsq.state = p.rsq.state
  cause        : q.rsq.cause = p.rsq.cause
  outputs      : q.rsq.outputs = p.rsq.outputs
  plan         : q.pcu.plan = p.pcu.plan
  waitSeconds  : q.pcu.waitSeconds = p.pcu.waitSeconds
  refusals     : q.pcu.refusals = p.pcu.refusals
  admission    : q.adu.state = p.adu.state
  heldDraw     : q.adu.heldDraw = p.adu.heldDraw
  admittedDraw : q.adu.admittedDraw = p.adu.admittedDraw
  lpc          : q.lpc = p.lpc
  sEff         : q.pvw.sEff = p.pvw.sEff
  lastReleased : q.pvw.lastReleased = p.pvw.lastReleased
  nodes        : q.pvw.records.map (·.node) = p.pvw.records.map (·.node)
  queue        : q.fre.queue = p.fre.queue
  list         : q.fre.list = p.fre.list
  counters     : q.fre.counters = p.fre.counters
  position     : q.liu.position = p.liu.position
  fifo         : q.anu.fifo = p.anu.fifo

theorem Part.PeriodLater.undecided (h : q.PeriodLater p) : q.Undecided p := by
  obtain ⟨⟨w, t, rsq⟩, ⟨t', anu⟩, -, -, pcu, adu, pvw, fre, -, liu, -, lpc, -⟩ := h
  have records : (p.elapse.pvw.records).map (·.node) = p.pvw.records.map (·.node) := by simp [elapse, Function.comp_def]
  constructor
  case nodes => rw [pvw (by decide), records]
  case state | cause | outputs => rw [rsq]; rfl
  case fifo => rw [anu]; rfl
  case lpc => rw [lpc (by decide)]; rfl
  case plan | waitSeconds | refusals => rw [pcu (by decide)]; rfl
  case admission | heldDraw | admittedDraw => rw [adu (by decide)]; rfl
  case sEff | lastReleased => rw [pvw (by decide)]; rfl
  case queue | list | counters => rw [fre (by decide)]; rfl
  case position => rw [liu (by decide)]; rfl

/-! ## The idle step, case by case -/

theorem Part.idle_of_low (h : p.pins.resetLow = true) : p.idle = ([], p) := if_pos h

theorem Part.idle_of_due (h : p.pins.resetLow = false) (due : p.dueNow ≠ []) : p.idle = (p.dueNow, p) := by
  unfold idle
  rw [if_neg (by simp [h]), if_neg (by simp [due])]

theorem Part.idle_of_period (h : p.pins.resetLow = false) (due : p.dueNow = []) : p.idle = p.period := by
  unfold idle
  rw [if_neg (by simp [h]), if_pos (by simp [due])]

theorem Part.idle_events (p : Part) {c : Instr} (h : c ∈ p.idle.1) : c.wellFormed = true := by
  unfold idle at h
  split at h
  · simp at h
  split at h
  · exact p.period_events h
  · exact dueNow_events h

theorem Part.idle_undecided (p : Part) : p.idle.2.Undecided p := by
  unfold idle
  split
  · constructor <;> rfl
  split
  · exact p.period_later.undecided
  · constructor <;> rfl

/-- The clock announces of the timers those that come to their end. -/
theorem Part.mem_announces {e : (Part → Timer) × Instr} (he : e ∈ timersWithExpiries) (h : p.pins.resetLow = false) (due : p.dueNow = [])
    (before : List Instr) : e.2 ∈ p.announces before ↔ (e.1 p).elapse.due = true := by
  obtain ⟨-, probe, symbol⟩ := expiry_spec e he
  rw [announces, if_pos (by simp [periodPasses, h, due]), mem_comesDue, mem_expiries he, p.periodLater_elapse.timer e he]
  simp [probe, symbol]

end

/-- Settles O2: a queued expiry of a restarted timer is void; and the idle step by its three cases, of which only the sample period moves
the part. -/
theorem idleStepTakesNoDecision : Obligations.IdleStepTakesNoDecision := by
  refine ⟨fun s timer expiry n he queued running => ?_, fun s pending => ?_⟩
  · obtain ⟨f, runs⟩ := exec_expiry _ he
    exact (runs s).trans (State.runExpiry_of_restarted queued running)
  have stepped : step s = .next s.idle := by
    unfold step
    rw [pending]
  have queue : s.idle.pending = s.part.idle.1 := by rw [State.idle, pending, List.nil_append]
  have kept : s.part.idle.2.Undecided s.part := s.part.idle_undecided
  refine ⟨s.idle, stepped, kept.state, kept.cause, kept.outputs, kept.plan, kept.waitSeconds, kept.refusals, kept.admission,
    kept.heldDraw, kept.admittedDraw, kept.lpc, kept.sEff, kept.lastReleased, kept.nodes, kept.queue, kept.list, kept.counters,
    kept.position, kept.fifo, fun c hc => s.part.idle_events (queue ▸ hc), fun low => ?_, fun high due => ?_, fun high due => ?_⟩
  · have silent : s.part.periodPasses = false := by simp [Part.periodPasses, low]
    simp [State.idle, Part.idle_of_low low, Part.announces, silent]
  · have busy : s.part.periodPasses = false := by simp [Part.periodPasses, due]
    simp [State.idle, Part.idle_of_due high due, Part.announces, busy, pending]
  · have passed : s.idle.part = s.part.period.2 := by rw [State.idle, Part.idle_of_period high due]
    have later := s.part.period_later
    rw [passed]
    refine ⟨fun timer expiry he => ?_, ?_, s.part.period_integrator⟩
    · have elapses : timer s.part.period.2 = (timer s.part).elapse := later.timer _ he
      have announced : expiry ∈ s.part.announces s.announced ↔ (timer s.part).elapse.due = true :=
        Part.mem_announces he high due s.announced
      have expires : expiry ∈ s.part.elapse.expiries ↔ (timer s.part).elapse.due = true := by
        rw [← s.part.periodLater_elapse.timer _ he]
        exact Part.mem_expiries he
      refine ⟨fun stopped => ?_, fun n running => ?_⟩
      · rw [stopped] at elapses announced
        exact ⟨elapses, fun queued => nomatch announced.mp queued⟩
      · rw [running] at elapses announced expires
        refine ⟨elapses, announced.trans beq_iff_eq, fun ends => ?_⟩
        rw [queue, Part.idle_of_period high due]
        exact Part.mem_period_of_expiry (expires.mpr (beq_iff_eq.mpr ends))
    · obtain ⟨w, t, rsq⟩ := later.rsq
      rw [rsq]
      rfl

end Sys2Proof.Machine
end

section
/-! PROOF. The encoder and the input pins (R126, R127, R130): what LIU makes of a step, of an illegal transition and of a sample. -/

namespace Sys2Proof.Machine

-- Checked one after another: side by side, each waiting proof keeps a thread of its own.
set_option Elab.async false

/-! ## The debounced inputs by name -/

@[simp] theorem Liu.input_setInput_same (i : Input) (d : Debounced) (l : Liu) : (l.setInput i d).input i = d := by
  cases i <;> rfl

theorem Liu.input_setInput_of_ne {i j : Input} (h : j ≠ i) (d : Debounced) (l : Liu) : (l.setInput i d).input j = l.input j := by
  cases i <;> cases j <;> simp [setInput, input] at h ⊢

/-- Writing an input moves the five debounced inputs alone. -/
theorem Liu.setInput_eq (i : Input) (d : Debounced) (l : Liu) :
    l.setInput i d = { l with
      mains := (l.setInput i d).mains, chain := (l.setInput i d).chain, doorZone := (l.setInput i d).doorZone
      doorsOpen := (l.setInput i d).doorsOpen, brakeFeedback := (l.setInput i d).brakeFeedback } := by
  cases i <;> rfl

@[simp] theorem Pins.setInput_resetLow (i : Input) (level : Bool) (pins : Pins) :
    (pins.setInput i level).resetLow = pins.resetLow := by
  cases i <;> rfl

/-! ## A sample of a pin -/

/-- The command of a pin in a working part: the pin takes the level, and LIU samples it. -/
theorem State.exec_inputPinChange {s : State} (h : s.working) (i : Input) (level : Bool) :
    exec (.inputPinChange i level) s =
      .next { s with part := (s.part.mapPins (Pins.setInput i level)).sampleInput i level } := by
  have high : (s.part.mapPins (Pins.setInput i level)).pins.resetLow = false :=
    (Pins.setInput_resetLow i level s.part.pins).trans h
  change Host.Outcome.next { s with part := (s.part.mapPins (Pins.setInput i level)).whenWorking (Part.sampleInput i level) } = _
  rw [Part.whenWorking_of_high _ _ high]

theorem Part.sampleInput_liu (i : Input) (level : Bool) (p : Part) :
    (p.sampleInput i level).liu = p.liu.setInput i ((p.liu.input i).sample level) := rfl

theorem Debounced.sample_eq (level : Bool) (d : Debounced) :
    d.sample level = if level = d.candidate then d else { d with candidate := level, timer := .running 5000 } := rfl

/-- Settles O22: the sample writes one input, and a timer that it restarts voids the queued expiry. -/
theorem pinSampleMovesCandidate : Obligations.PinSampleMovesCandidate := by
  intro s i level working
  refine ⟨_, State.exec_inputPinChange working i level, ?_, fun j hj => ?_, ?_, ?_, fun differs queued => ?_⟩
  · rw [Part.sampleInput_liu, Liu.input_setInput_same, Debounced.sample_eq]
    rfl
  · exact Liu.input_setInput_of_ne hj _ _
  · exact Liu.setInput_eq i _ _
  · simp [Part.sameOutside]
  · refine State.runExpiry_of_restarted (n := 4999) (timer := fun p => (p.liu.input i).timer) queued ?_
    dsimp only
    rw [Part.sampleInput_liu, Liu.input_setInput_same, Debounced.sample_eq, if_neg (by exact differs)]

/-! ## A step of the encoder -/

/-- The table of R126: a pair follows another in a direction exactly as the cycle has it. -/
theorem eq_pairMoved_of_cycle {d : Dir} {held pair : Bool × Bool}
    (h : d = .up ∧ (held, pair) ∈
        [((false, false), (true, false)), ((true, false), (true, true)), ((true, true), (false, true)),
         ((false, true), (false, false))]
      ∨ d = .down ∧ (pair, held) ∈
        [((false, false), (true, false)), ((true, false), (true, true)), ((true, true), (false, true)),
         ((false, true), (false, false))]) : pair = pairMoved d held := by
  simp only [List.mem_cons, List.not_mem_nil, or_false, Prod.mk.injEq] at h
  obtain ⟨rfl, ⟨rfl, rfl⟩ | ⟨rfl, rfl⟩ | ⟨rfl, rfl⟩ | ⟨rfl, rfl⟩⟩ | ⟨rfl, ⟨rfl, rfl⟩ | ⟨rfl, rfl⟩ | ⟨rfl, rfl⟩ | ⟨rfl, rfl⟩⟩ := h <;> rfl

/-- Outside PROBE and CREEP a step is taken in LEVEL alone, where it restarts the standstill timer (R27). -/
theorem Part.stepEvent_of_unmeasured {p : Part} (probe : p.rsq.state ≠ .probe) (creep : p.rsq.state ≠ .creep) (d : Dir) :
    p.stepEvent d = { p with
      rsq := if p.rsq.state = .level then { p.rsq with standstillTimer := .running 125000 } else p.rsq } := by
  unfold stepEvent
  split
  next hs => exact absurd hs probe
  next hs => exact absurd hs creep
  next hs => rw [if_pos hs]; rfl
  all_goals rename_i hs; rw [if_neg (by simp [hs])]

/-- Settles O20: the step is sampled, and handed on to a sequencer that measures none. -/
theorem encoderStepCounts : Obligations.EncoderStepCounts := by
  intro s d pair working probe creep cycle
  obtain rfl := eq_pairMoved_of_cycle cycle
  rw [State.exec_encoderStep working, Part.stepEvent_of_unmeasured (p := s.part.stepSampled d) probe creep, Part.stepSampled,
    stepPosition_eq]

/-! ## An illegal transition -/

theorem encoderMeaning_pairSkipped (held : Bool × Bool) : encoderMeaning held (pairSkipped held) = .illegal := by
  obtain ⟨a, b⟩ := held
  cases a <;> cases b <;> rfl

/-- The part as LIU has sampled an illegal transition, before RSQ is told of it (R127). -/
def Part.transitionSampled (p : Part) : Part :=
  { p with
    pins := { p.pins with encoder := pairSkipped p.liu.encoder }
    liu := { p.liu with positionValid := false, encoder := pairSkipped p.liu.encoder } }

/-- The command of an illegal transition in a working part: the flag that was set is reported. -/
theorem State.exec_illegalTransition {s : State} (h : s.working) :
    exec .illegalTransition s = .next { s with part :=
      if s.part.liu.positionValid then s.part.transitionSampled.validChanged false else s.part.transitionSampled } := by
  have moved : s.part.moveEncoder pairSkipped
      = s.part.mapPins fun q => { q with encoder := pairSkipped s.part.liu.encoder } := by
    simp [Part.moveEncoder, Part.mapPins, show s.part.pins.resetLow = false from h]
  change Host.Outcome.next { s with part := (s.part.moveEncoder pairSkipped).whenWorking Part.sampleEncoder } = _
  rw [Part.whenWorking_of_high Part.sampleEncoder (s.part.moveEncoder pairSkipped) h, moved]
  simp only [Part.sampleEncoder, Part.mapPins, encoderMeaning_pairSkipped]
  rfl

section
variable {p : Part}

theorem Part.validChanged_of_wait (hs : p.rsq.state = .wait) : p.validChanged false = p.withdrawToBlocked .position :=
  if_pos ⟨hs, rfl⟩

theorem Part.clears_of_cause {causes : List Cause} (hs : p.rsq.state = .blocked) (hc : p.rsq.cause ∈ causes) :
    p.clears causes = p.replanBlocked := if_pos ⟨hs, hc⟩

theorem Part.clears_of_not {causes : List Cause} (h : p.rsq.state ≠ .blocked ∨ p.rsq.cause ∉ causes) : p.clears causes = p :=
  if_neg fun ⟨hs, hc⟩ => h.elim (· hs) (· hc)

theorem Part.validChanged_of_invalid (hs : p.rsq.state ≠ .wait) : p.validChanged false = p.clears [.infeasible] :=
  if_neg fun h => hs h.1

/-- The sequencer's record after WAIT is left for BLOCKED, whatever ADU holds (R13, R17). -/
theorem Part.withdrawToBlocked_rsq (cause : Cause) :
    (p.withdrawToBlocked cause).rsq = p.rsq.rested .blocked cause false true := by
  rw [withdrawToBlocked, enterBlocked_rsq, withdraw_rsq]

/-- Where no position is known, a clearing event in BLOCKED records POSITION (R14, R36). -/
theorem Part.replanBlocked_of_invalid (hd : p.adu.state ≠ .defer) (hv : p.liu.positionValid = false) :
    p.replanBlocked = (p.planned .blockedPosition).mapRsq fun r => { r with cause := .position } := by
  unfold replanBlocked
  rw [requestPlan_eq hd, Settings.makePlan_of_invalid (i := p.planInputs) hv]
  rfl

end

/-- Settles O21: a flag that was set is reported, and acts in WAIT and in a block with INFEASIBLE. -/
theorem illegalTransitionInvalidates : Obligations.IllegalTransitionInvalidates := by
  intro s hw
  have hc : s.part.transitionSampled.lpc.committed = true := hw.2
  refine ⟨_, State.exec_illegalTransition hw.1, ?_, ?_, fun hs hv => ?_, fun hs hi hv hd => ?_, fun h => ?_⟩
  · split <;> simp <;> rfl
  · split <;> simp <;> rfl
  · rw [if_pos hv, Part.validChanged_of_wait (p := s.part.transitionSampled) hs]
    refine ⟨Part.withdrawToBlocked_rsq .position, fun hn => ?_⟩
    simp only [Part.withdrawToBlocked_liu, Part.withdrawToBlocked_pins]
    exact Part.withdrawToBlocked_withdrawsAs .position hc hs hn
  · rw [if_pos hv, Part.validChanged_of_invalid (p := s.part.transitionSampled) (by simp [Part.transitionSampled, hs]),
      Part.clears_of_cause (p := s.part.transitionSampled) hs (by simp [Part.transitionSampled, hi])]
    have planned := Part.replanBlocked_of_invalid (p := s.part.transitionSampled) hd rfl
    have replans := Part.replanBlocked_replansBlockedAs_of_not_defer (p := s.part.transitionSampled) hc hs hd
    refine ⟨by rw [planned]; rfl, by rw [planned]; rfl, ?_, ?_⟩
    · simp only [Part.replanBlocked_liu, Part.replanBlocked_pins]
      exact replans
    · rw [planned]
      simp [Part.sameOutside, Part.transitionSampled, Part.planned]
  · have still : ∀ q, q = s.part.transitionSampled → q.sameOutside [.liu, .pins] s.part := by
      rintro _ rfl
      simp [Part.sameOutside, Part.transitionSampled]
    apply still
    split
    next hv =>
      obtain ⟨hs, hb⟩ := h.resolve_left (by simp [hv])
      rw [Part.validChanged_of_invalid (p := s.part.transitionSampled) hs, Part.clears_of_not]
      exact hb.imp_right fun hi => by simpa [Part.transitionSampled] using hi
    next => rfl

end Sys2Proof.Machine
end

section
/-! PROOF. What RSQ makes of a report does not turn on the port's last result, on the mark of R31 or on the count of free choices: a
tick's reports act on the part as the port will have answered it (R134, R155). -/

namespace Sys2Proof.Machine

-- Checked one after another: side by side, each waiting proof keeps a thread of its own.
set_option Elab.async false

/-- The part with the mark of R31 clear, and with a last result and a count of free choices. -/
def Part.noted (result : CommandResult) (n : Nat) (p : Part) : Part :=
  { p with rsq := { p.rsq with cancelCame := false }, lpc := { p.lpc with lastResult := result }, choices := n }

section
variable {result : CommandResult} {n : Nat} (p : Part)

@[simp] theorem Part.noted_state : (p.noted result n).rsq.state = p.rsq.state := rfl
@[simp] theorem Part.noted_cause : (p.noted result n).rsq.cause = p.rsq.cause := rfl
@[simp] theorem Part.noted_gateTimer : (p.noted result n).rsq.gateTimer = p.rsq.gateTimer := rfl
@[simp] theorem Part.noted_pcu : (p.noted result n).pcu = p.pcu := rfl
@[simp] theorem Part.noted_adu : (p.noted result n).adu = p.adu := rfl
@[simp] theorem Part.noted_pvw : (p.noted result n).pvw = p.pvw := rfl
@[simp] theorem Part.noted_liu : (p.noted result n).liu = p.liu := rfl
@[simp] theorem Part.noted_anu : (p.noted result n).anu = p.anu := rfl
@[simp] theorem Part.noted_settings : (p.noted result n).settings = p.settings := rfl
@[simp] theorem Part.noted_lineAvailable : (p.noted result n).lineAvailable = p.lineAvailable := rfl
@[simp] theorem Part.noted_planInputs : (p.noted result n).planInputs = p.planInputs := rfl
@[simp] theorem Part.noted_buildPresence : (p.noted result n).buildPresence = p.buildPresence := rfl
@[simp] theorem Part.noted_targetTest : (p.noted result n).targetTest = p.targetTest := rfl

/-! ## Updates of one block -/

@[simp] theorem Part.noted_mapPcu (f : Pcu → Pcu) : (p.noted result n).mapPcu f = (p.mapPcu f).noted result n := rfl
@[simp] theorem Part.noted_mapAdu (f : Adu → Adu) : (p.noted result n).mapAdu f = (p.mapAdu f).noted result n := rfl
@[simp] theorem Part.noted_mapPvw (f : Pvw → Pvw) : (p.noted result n).mapPvw f = (p.mapPvw f).noted result n := rfl
@[simp] theorem Part.noted_mapFre (f : Fre → Fre) : (p.noted result n).mapFre f = (p.mapFre f).noted result n := rfl
@[simp] theorem Part.noted_mapAnu (f : Anu → Anu) : (p.noted result n).mapAnu f = (p.mapAnu f).noted result n := rfl

/-- An update of the sequencer's record that neither reads nor writes the mark. -/
theorem Part.noted_mapRsq (f : Rsq → Rsq) (hf : ∀ r : Rsq, f { r with cancelCame := false } = { f r with cancelCame := false }) :
    (p.noted result n).mapRsq f = (p.mapRsq f).noted result n := by
  simp only [noted, mapRsq, hf]

@[simp] theorem Part.noted_offerPresence : (p.noted result n).offerPresence = p.offerPresence.noted result n := by
  unfold offerPresence
  rw [noted_buildPresence]
  split <;> rfl

@[simp] theorem Part.noted_offerClaim : (p.noted result n).offerClaim = p.offerClaim.noted result n := by
  unfold offerClaim
  rw [noted_pcu]
  split <;> rfl

/-! ## Entries (chapter 1) -/

@[simp] theorem Part.noted_changeState (new : RescueState) :
    (p.noted result n).changeState new = (p.changeState new).noted result n := by
  unfold changeState
  dsimp only
  rw [noted_mapRsq _ _ fun _ => rfl]
  simp only [noted_state, noted_mapPcu, noted_mapAnu, noted_offerPresence]

@[simp] theorem Part.noted_enterAtRest (new : RescueState) :
    (p.noted result n).enterAtRest new = (p.enterAtRest new).noted result n := by
  unfold enterAtRest
  rw [noted_mapRsq _ _ fun _ => rfl, noted_changeState]

@[simp] theorem Part.noted_requestPhrase (ev : Announcement) :
    (p.noted result n).requestPhrase ev = (p.requestPhrase ev).noted result n := rfl

@[simp] theorem Part.noted_enterVerify : (p.noted result n).enterVerify = p.enterVerify.noted result n := by
  simp only [enterVerify, noted_enterAtRest]
  rfl

@[simp] theorem Part.noted_enterWatch : (p.noted result n).enterWatch = p.enterWatch.noted result n := by
  simp only [enterWatch, noted_enterAtRest, noted_mapPcu, noted_liu, noted_enterVerify]
  split <;> rfl

@[simp] theorem Part.noted_ended (o : ReleaseOutcome) : (p.noted result n).ended o = (p.ended o).noted result n := by
  rw [ended_eq, ended_eq]
  rfl

@[simp] theorem Part.noted_neededDraw (needed : Nat) :
    (p.noted result n).neededDraw needed = (p.neededDraw needed).noted result n := by
  rw [neededDraw_eq, neededDraw_eq]
  rfl

@[simp] theorem Part.noted_enterLanded : (p.noted result n).enterLanded = p.enterLanded.noted result n := by
  simp only [enterLanded, noted_ended, noted_enterAtRest, noted_liu, noted_enterWatch]
  split <;> rfl

@[simp] theorem Part.noted_enterDoors : (p.noted result n).enterDoors = p.enterDoors.noted result n := by
  have doors (r : Part) (t : Timer) :
      (r.noted result n).mapRsq (fun q => { q with doorTimer := t }) = (r.mapRsq fun q => { q with doorTimer := t }).noted result n := rfl
  simp only [enterDoors, noted_enterAtRest, noted_requestPhrase, noted_settings, doors, noted_liu, noted_enterLanded]
  split <;> rfl

@[simp] theorem Part.noted_enterHalted (cause : Cause) :
    (p.noted result n).enterHalted cause = (p.enterHalted cause).noted result n := by
  simp only [enterHalted, noted_ended, noted_enterAtRest]
  rfl

@[simp] theorem Part.noted_enterLevel : (p.noted result n).enterLevel = p.enterLevel.noted result n := by
  simp only [enterLevel, noted_enterAtRest, noted_requestPhrase]
  rw [noted_mapRsq _ _ fun _ => rfl, noted_neededDraw, noted_pcu]

@[simp] theorem Part.noted_enterProbe : (p.noted result n).enterProbe = p.enterProbe.noted result n := by
  have entered := noted_changeState (result := result) (n := n) (p.mapRsq fun r =>
    { r with
      cause := .none
      outputs := { r.outputs.steer p.pcu.plan.direction with
                   brakeRelease := true, driveEnable := false, doorRequest := false, alarm := true } }) .probe
  exact congrArg (Part.mapRsq _) entered

@[simp] theorem Part.noted_takeMoving (report : Option MovingReport) :
    (p.noted result n).takeMoving report = (p.takeMoving report).noted result n := by
  have marked (r : Part) : (r.noted result n).mapRsq (fun q => { q with voiceUnavailable := true })
      = (r.mapRsq fun q => { q with voiceUnavailable := true }).noted result n := rfl
  unfold takeMoving movingReport
  simp only [noted_state, marked, noted_gateTimer, noted_enterProbe]
  repeat' split
  all_goals rfl

@[simp] theorem Part.noted_enterWarn : (p.noted result n).enterWarn = p.enterWarn.noted result n := by
  unfold enterWarn
  dsimp only
  rw [noted_enterAtRest, noted_mapRsq _ _ fun _ => rfl, noted_anu, noted_settings]
  generalize Part.mapRsq _ (p.enterAtRest .warn) = w
  generalize w.anu.requestMoving w.settings = asked
  exact noted_takeMoving { w with anu := asked.1 } asked.2

@[simp] theorem Part.noted_enterBlocked (cause : Cause) :
    (p.noted result n).enterBlocked cause = (p.enterBlocked cause).noted result n := by
  simp only [enterBlocked, noted_enterAtRest]
  rfl

@[simp] theorem Part.noted_withdraw : (p.noted result n).withdraw = p.withdraw.noted result n := by
  unfold withdraw
  simp only [noted_adu, noted_ended]
  split <;> rfl

@[simp] theorem Part.noted_withdrawToBlocked (cause : Cause) :
    (p.noted result n).withdrawToBlocked cause = (p.withdrawToBlocked cause).noted result n := by
  simp only [withdrawToBlocked, noted_withdraw, noted_enterBlocked]

/-! ## The admission of a claim, and the plan (chapters 2 and 3) -/

@[simp] theorem Part.noted_admitted : (p.noted result n).admitted = p.admitted.noted result n := by
  unfold admitted
  simp only [noted_state, noted_pcu, noted_enterDoors, noted_enterWarn]
  repeat' split
  all_goals rfl

@[simp] theorem Part.noted_lineBlocked : (p.noted result n).lineBlocked = p.lineBlocked.noted result n := by
  unfold lineBlocked
  simp only [noted_state, noted_enterBlocked]
  split <;> rfl

@[simp] theorem Part.noted_soloRule : (p.noted result n).soloRule = p.soloRule.noted result n := by
  simp only [soloRule, noted_mapFre, noted_pcu, noted_settings, noted_mapAdu, noted_admitted, noted_lineBlocked]
  split <;> rfl

@[simp] theorem Part.noted_queueing (asked : Bool) : (p.noted result n).queueing asked = (p.queueing asked).noted result n := by
  simp only [queueing, noted_lineAvailable, noted_pcu, noted_pvw, noted_soloRule, noted_mapAdu, noted_offerClaim]
  repeat' split
  all_goals rfl

@[simp] theorem Part.noted_seek : (p.noted result n).seek = p.seek.noted result n := by
  unfold seek
  simp only [noted_adu, noted_queueing]
  split
  · rfl
  · rw [apply_ite (noted result n)]
    rfl
  all_goals rfl

@[simp] theorem Part.noted_requestPlan : (p.noted result n).requestPlan = p.requestPlan.noted result n := by
  unfold requestPlan reevaluateDeferral
  simp only [noted_settings, noted_planInputs, noted_mapPcu, noted_pcu, noted_pvw, noted_mapPvw, noted_adu, noted_queueing]
  split <;> rfl

@[simp] theorem Part.noted_enterWait (confirm : Bool) :
    (p.noted result n).enterWait confirm = (p.enterWait confirm).noted result n := by
  simp only [enterWait, noted_enterAtRest, noted_requestPhrase]
  cases confirm <;> simp only [if_true, if_false, Bool.false_eq_true, noted_seek]

@[simp] theorem Part.noted_replanBlocked : (p.noted result n).replanBlocked = p.replanBlocked.noted result n := by
  unfold replanBlocked
  simp only [noted_requestPlan, noted_pcu, noted_enterWait]
  split <;> rfl

/-! ## The reports of LIU (R134) -/

@[simp] theorem Part.noted_clears (causes : List Cause) :
    (p.noted result n).clears causes = (p.clears causes).noted result n := by
  unfold clears
  simp only [noted_state, noted_cause, noted_replanBlocked]
  split <;> rfl

@[simp] theorem Part.noted_validChanged (valid : Bool) :
    (p.noted result n).validChanged valid = (p.validChanged valid).noted result n := by
  unfold validChanged
  simp only [noted_state, noted_withdrawToBlocked, noted_clears]
  split <;> rfl

@[simp] theorem Part.noted_testTarget : (p.noted result n).testTarget = p.testTarget.noted result n := by
  have ends (e : CreepEnd) : (p.noted result n).endCreep e = (p.endCreep e).noted result n := by
    cases e <;> simp only [endCreep, noted_enterLevel, noted_enterHalted]
  unfold testTarget
  simp only [noted_state, noted_targetTest, ends]
  repeat' split
  all_goals rfl

@[simp] theorem Part.noted_cancelHolds : (p.noted result n).cancelHolds = p.cancelHolds.noted result n := by
  unfold cancelHolds
  simp only [noted_state, noted_enterWatch, noted_withdraw, noted_ended]
  split <;> rfl

@[simp] theorem LiuReport.act_noted (r : LiuReport) : r.act (p.noted result n) = (r.act p).noted result n := by
  cases r with
  | position => exact p.noted_testTarget
  | valid flag => exact p.noted_validChanged flag
  | load => exact p.noted_clears [.infeasible]
  | stall present =>
    simp only [act, Part.stallRaised, Part.stallWithdrawn, Part.noted_state, Part.noted_enterVerify, Part.noted_enterWatch]
    cases present <;> dsimp only <;> split <;> rfl
  | cancel => exact p.noted_cancelHolds

/-- Reports taken in turn. -/
def Part.takeInTurn (reports : List LiuReport) (p : Part) : Part := reports.foldl (fun p r => r.act p) p

theorem Part.takeInTurn_noted (reports : List LiuReport) :
    (p.noted result n).takeInTurn reports = (p.takeInTurn reports).noted result n := by
  induction reports generalizing p with
  | nil => rfl
  | cons r reports ih =>
    change (r.act (p.noted result n)).takeInTurn reports = ((r.act p).takeInTurn reports).noted result n
    rw [LiuReport.act_noted, ih]

end

end Sys2Proof.Machine
end

section
/-! PROOF. What the reports of one event of LIU come to (R134): which of them each rescue state heeds, and where all of them, taken in any
order, lead. -/

namespace Sys2Proof.Machine

-- Checked one after another: side by side, each waiting proof keeps a thread of its own.
set_option Elab.async false

/-! ## The reports of one event -/

/-- `reports` tell, in some order, what has moved of LIU's record: `latched` says that a position was latched. -/
structure Liu.Told (latched : Prop) (old new : Liu) (reports : List LiuReport) : Prop where
  position : .position ∈ reports ↔ latched
  valid    : ∀ flag, .valid flag ∈ reports ↔ old.positionValid ≠ new.positionValid ∧ flag = new.positionValid
  load     : .load ∈ reports ↔ old.load ≠ new.load
  stall    : ∀ present, .stall present ∈ reports ↔ old.stall ≠ new.stall ∧ present = new.stall
  cancel   : .cancel ∈ reports ↔ old.cancel = false ∧ new.cancel = true

section
variable {latched : Prop} {old new : Liu} {reports : List LiuReport}

/-- The order of the reports does not count. -/
theorem Liu.Told.of_mem (h : Liu.Told latched old new reports) {l : List LiuReport} (hl : ∀ r, r ∈ l ↔ r ∈ reports) :
    Liu.Told latched old new l where
  position := (hl _).trans h.position
  valid _ := (hl _).trans (h.valid _)
  load := (hl _).trans h.load
  stall _ := (hl _).trans (h.stall _)
  cancel := (hl _).trans h.cancel

theorem mem_conditionReports {r : LiuReport} :
    r ∈ conditionReports old new ↔ (old.stall ≠ new.stall ∧ r = .stall new.stall)
      ∨ ((old.cancel = false ∧ new.cancel = true) ∧ r = .cancel) := by
  unfold conditionReports
  rw [List.mem_append]
  refine or_congr ?_ ?_
  · split <;> simp_all
  · split <;> simp_all

theorem mem_tickReports {position : Nat} {r : LiuReport} :
    r ∈ tickReports position old new ↔ (position ≤ 60000 ∧ r = .position)
      ∨ (old.positionValid ≠ new.positionValid ∧ r = .valid new.positionValid) ∨ (old.load ≠ new.load ∧ r = .load) := by
  have top : Config.shaftTop = 60000 := rfl
  unfold tickReports
  rw [List.mem_append, List.mem_append, or_assoc, top]
  refine or_congr ?_ (or_congr ?_ ?_)
  all_goals split <;> simp_all

/-- An accepted tick tells all that it has moved (R123, R134). -/
theorem Liu.told_tick (position : Nat) (old new : Liu) :
    Liu.Told (position ≤ 60000) old new (tickReports position old new ++ conditionReports old new) where
  position := by simp [mem_tickReports, mem_conditionReports]
  valid := by simp [mem_tickReports, mem_conditionReports]
  load := by simp [mem_tickReports, mem_conditionReports]
  stall := by simp [mem_tickReports, mem_conditionReports]
  cancel := by simp [mem_tickReports, mem_conditionReports]

/-- A change of the conditions alone tells these (R132, R133). -/
theorem Liu.told_conditions (valid : old.positionValid = new.positionValid) (load : old.load = new.load) :
    Liu.Told False old new (conditionReports old new) where
  position := by simp [mem_conditionReports]
  valid := by simp [mem_conditionReports, valid]
  load := by simp [mem_conditionReports, load]
  stall := by simp [mem_conditionReports]
  cancel := by simp [mem_conditionReports]

/-- The stall indication and the cancel condition do not stand together (R132, R133). -/
theorem Liu.evaluate_cancel {l : Liu} (h : l.heartbeat ≠ .unsupervised) (hs : l.evaluate.stall = true) :
    l.evaluate.cancel = false := by
  unfold evaluate at hs ⊢
  rw [if_neg h] at hs ⊢
  simp only [stallCondition, cancelCondition, Bool.and_eq_true, Bool.or_eq_true, beq_iff_eq, Bool.not_eq_true',
    Bool.and_eq_false_iff, beq_eq_false_iff_ne, bne_eq_false_iff_eq] at hs ⊢
  obtain ⟨-, (expired | absent) | stalled⟩ := hs
  · exact .inl (.inl (by simp [expired]))
  · exact .inl (.inr absent)
  · exact .inr stalled

end

/-! ## Reports taken in turn -/

section
variable {p y : Part} {reports : List LiuReport}

/-- The free order of the reports in WAIT and BLOCKED, and the given one elsewhere, are runs of the same reports (R134). A choice is read
only in those states, and only where there are two reports or more. -/
theorem Part.takeReports_inTurn (reports : List LiuReport) (p : Part) :
    ∃ l n, (∀ r, r ∈ l ↔ r ∈ reports) ∧ (p.rsq.state.waiting = false ∨ reports.length ≤ 1 → n = p.choices)
      ∧ p.takeReports reports = ({ p with choices := n } : Part).takeInTurn l := by
  unfold takeReports
  split
  next hw =>
    match reports with
    | [] => exact ⟨[], p.choices, fun _ => Iff.rfl, fun _ => rfl, rfl⟩
    | [r] => exact ⟨[r], p.choices, fun _ => Iff.rfl, fun _ => rfl, rfl⟩
    | _ :: _ :: _ => exact ⟨_, p.choices + 1, fun _ => mem_arrange, fun h => by simp [hw] at h, rfl⟩
  next => exact ⟨reports, p.choices, fun _ => Iff.rfl, fun _ => rfl, rfl⟩

/-- Where every report keeps `P` or leads to `Q`, none leads out of `Q`, and one of them leads from `P` to `Q`, their run ends in `Q`. -/
theorem Part.takeInTurn_reaches {P Q : Part → Prop} (keeps : ∀ r ∈ reports, ∀ x, P x → P (r.act x) ∨ Q (r.act x))
    (stays : ∀ r ∈ reports, ∀ x, Q x → Q (r.act x)) (ends : ∃ r ∈ reports, ∀ x, P x → Q (r.act x)) (start : P p) :
    Q (p.takeInTurn reports) := by
  have stay (l : List LiuReport) (hl : ∀ r ∈ l, r ∈ reports) : ∀ x, Q x → Q (x.takeInTurn l) := by
    intro x hx
    exact List.foldlRecOn l _ hx fun x hx r hr => stays r (hl r hr) x hx
  have run (l : List LiuReport) (hl : ∀ r ∈ l, r ∈ reports) (last : ∃ r ∈ l, ∀ x, P x → Q (r.act x)) :
      ∀ x, P x → Q (x.takeInTurn l) := by
    induction l with
    | nil => obtain ⟨r, hr, -⟩ := last; cases hr
    | cons r l ih =>
      have rest : ∀ s ∈ l, s ∈ reports := fun s hs => hl s (List.mem_cons_of_mem r hs)
      intro x hx
      change Q ((r.act x).takeInTurn l)
      by_cases leads : Q (r.act x)
      · exact stay l rest _ leads
      · refine ih rest ?_ _ ((keeps r (hl r List.mem_cons_self) x hx).resolve_right leads)
        obtain ⟨s, hs, ends⟩ := last
        obtain rfl | hs := List.mem_cons.mp hs
        · exact absurd (ends x hx) leads
        · exact ⟨s, hs, ends⟩
  exact run reports (fun _ hr => hr) ends p start

/-- Reports of which none acts. -/
theorem Part.takeInTurn_of_still (h : ∀ r ∈ reports, r.act p = p) : p.takeInTurn reports = p :=
  List.foldlRecOn (motive := (· = p)) reports _ rfl fun _ hx r hr => by rw [hx, h r hr]

/-- Reports of which each that acts leads to the same part, in which none acts. -/
theorem Part.takeInTurn_eq {r : LiuReport} (hr : r ∈ reports) (leads : r.act p = y)
    (keeps : ∀ s ∈ reports, s.act p = p ∨ s.act p = y) (stays : ∀ s ∈ reports, s.act y = y) : p.takeInTurn reports = y :=
  takeInTurn_reaches (P := (· = p)) (Q := (· = y)) (fun s hs _ hx => hx ▸ keeps s hs) (fun s hs _ hx => hx ▸ stays s hs)
    ⟨r, hr, fun _ hx => hx ▸ leads⟩ rfl

/-! ## The reports that a state heeds -/

/-- The report acts on the part (R9, R10, R14, R17, R26, section 1.13). -/
def LiuReport.heededBy (p : Part) (r : LiuReport) : Prop :=
  (r = .position ∧ p.rsq.state = .creep)
    ∨ (r = .valid true ∧ p.rsq.state = .blocked ∧ (p.rsq.cause = .position ∨ p.rsq.cause = .infeasible))
    ∨ (r = .valid false ∧ (p.rsq.state = .wait ∨ p.rsq.state = .blocked ∧ p.rsq.cause = .infeasible))
    ∨ (r = .load ∧ p.rsq.state = .blocked ∧ p.rsq.cause = .infeasible)
    ∨ (r = .stall true ∧ p.rsq.state = .watch) ∨ (r = .stall false ∧ p.rsq.state = .verify)
    ∨ (r = .cancel ∧ p.rsq.state ∈ [RescueState.verify, .parked, .blocked, .landed, .wait, .warn])

theorem LiuReport.act_of_not_heeded {r : LiuReport} (h : ¬ r.heededBy p) : r.act p = p := by
  match r with
  | .position => exact if_neg (by simpa [heededBy] using h)
  | .valid true =>
    refine (if_neg (by simp)).trans (Part.clears_of_not ?_)
    simpa [heededBy, imp_iff_not_or] using h
  | .valid false =>
    obtain ⟨wait, blocked⟩ : p.rsq.state ≠ .wait ∧ ¬ (p.rsq.state = .blocked ∧ p.rsq.cause = .infeasible) := by
      simpa [heededBy] using h
    rw [act, Part.validChanged_of_invalid wait]
    exact Part.clears_of_not (by simpa [imp_iff_not_or] using blocked)
  | .load => exact Part.clears_of_not (by simpa [heededBy, imp_iff_not_or] using h)
  | .stall true => exact if_neg (by simpa [heededBy] using h)
  | .stall false => exact if_neg (by simpa [heededBy] using h)
  | .cancel =>
    unfold act Part.cancelHolds
    dsimp only
    split
    case h_1 hs | h_2 hs | h_3 hs | h_4 hs | h_5 hs | h_6 hs => exact absurd (by simp [heededBy, hs]) h
    all_goals rfl

/-- In BLOCKED what is heeded, but for the cancel condition, asks for a new plan (R14). -/
theorem LiuReport.act_of_blocked {r : LiuReport} (hs : p.rsq.state = .blocked) (h : r.heededBy p) (hr : r ≠ .cancel) :
    r.act p = p.replanBlocked := by
  simp only [heededBy, hs, reduceCtorEq, and_false, true_and, false_or, hr, false_and, or_false] at h
  obtain ⟨rfl, hc⟩ | ⟨rfl, hc⟩ | ⟨rfl, hc⟩ := h
  · exact (if_neg (by simp)).trans (Part.clears_of_cause hs (by simpa using hc))
  · rw [act, Part.validChanged_of_invalid (by simp [hs])]
    exact Part.clears_of_cause hs (by simp [hc])
  · exact Part.clears_of_cause hs (by simp [hc])

end

end Sys2Proof.Machine
end

section
/-! PROOF. Where the reports of one event of LIU lead, rescue state by rescue state (R9, R10, R12, R14, R17, R19, R26, R29). -/

namespace Sys2Proof.Machine

-- Checked one after another: side by side, each waiting proof keeps a thread of its own.
set_option Elab.async false

section
variable {p : Part}

/-! ## WATCH by the cancel condition -/

theorem Part.enterVerify_rsq (p : Part) :
    p.enterVerify.rsq =
      { p.rsq.rested .verify .none false false with verifyTimer := .running (250000 * p.settings.verifyTime) } := by
  have time : Config.ms (1000 * p.settings.verifyTime) = 250000 * p.settings.verifyTime := by
    simp only [Config.ms, Config.samplesPerMs]
    omega
  simp only [enterVerify, mapRsq_rsq, enterAtRest, changeState_rsq, time]
  rfl

theorem Part.enterAtRest_rsq (new : RescueState) (p : Part) :
    (p.enterAtRest new).rsq = p.rsq.rested new .none new.doorRequested new.alarmed := by
  simp only [enterAtRest, changeState_rsq, mapRsq_rsq]
  rfl

theorem Part.enterWatch_of_calm (h : p.liu.stall = false) :
    p.enterWatch = (p.enterAtRest .watch).mapPcu fun c => { c with waitSeconds := 0, refusals := 0, loadOverride := false } :=
  if_neg (by simp [h])

theorem Part.enterWatch_rsq_of_calm (h : p.liu.stall = false) : p.enterWatch.rsq = p.rsq.rested .watch .none false false := by
  rw [enterWatch_of_calm h, mapPcu_rsq, enterAtRest_rsq]
  rfl

theorem Part.cancelHolds_of_unclaimed (hs : p.rsq.state ∈ [RescueState.verify, .parked, .blocked, .landed]) :
    p.cancelHolds = p.enterWatch := by
  simp only [List.mem_cons, List.not_mem_nil, or_false] at hs
  unfold cancelHolds
  obtain e | e | e | e := hs <;> simp only [e]

theorem Part.cancelHolds_of_wait (hs : p.rsq.state = .wait) : p.cancelHolds = p.withdraw.enterWatch := by
  unfold cancelHolds
  simp only [hs]

theorem Part.cancelHolds_of_warn (hs : p.rsq.state = .warn) : p.cancelHolds = (p.ended .abandoned).enterWatch := by
  unfold cancelHolds
  simp only [hs]

/-- The states that the cancel condition ends, in WATCH (R10, R12, R14, R17, R19, R29). -/
theorem Part.cancelHolds_enterWatch (hs : p.rsq.state ∈ [RescueState.verify, .parked, .blocked, .landed, .wait, .warn]) :
    ∃ x : Part, p.cancelHolds = x.enterWatch ∧ x.rsq = p.rsq ∧ x.liu = p.liu := by
  obtain unclaimed | wait | warn : p.rsq.state ∈ [RescueState.verify, .parked, .blocked, .landed]
      ∨ p.rsq.state = .wait ∨ p.rsq.state = .warn := by
    simpa [or_assoc] using hs
  · exact ⟨p, cancelHolds_of_unclaimed unclaimed, rfl, rfl⟩
  · exact ⟨p.withdraw, cancelHolds_of_wait wait, withdraw_rsq p, withdraw_liu p⟩
  · exact ⟨p.ended .abandoned, cancelHolds_of_warn warn, ended_rsq .., ended_liu ..⟩

theorem Part.cancelHolds_rsq (hs : p.rsq.state ∈ [RescueState.verify, .parked, .blocked, .landed, .wait, .warn])
    (h : p.liu.stall = false) : p.cancelHolds.rsq = p.rsq.rested .watch .none false false := by
  obtain ⟨x, hx, rsq, liu⟩ := cancelHolds_enterWatch hs
  rw [hx, enterWatch_rsq_of_calm (by rw [liu, h]), rsq]

/-- `q` is in WATCH, as a part is whose episode is over: the outputs at rest, no cause, PCU's counts cleared (R5, R7). -/
def Part.episodeOver (outputs : Outputs) (q : Part) : Prop :=
  q.rsq.state = .watch ∧ q.rsq.outputs = outputs ∧ q.rsq.cause = .none
    ∧ q.pcu.waitSeconds = 0 ∧ q.pcu.refusals = 0 ∧ q.pcu.loadOverride = false

theorem Part.cancelHolds_episodeOver (hs : p.rsq.state ∈ [RescueState.verify, .parked, .blocked, .landed, .wait, .warn])
    (h : p.liu.stall = false) : p.cancelHolds.episodeOver (p.rsq.outputs.atRest false false) := by
  obtain ⟨x, hx, rsq, liu⟩ := cancelHolds_enterWatch hs
  have calm : x.liu.stall = false := by rw [liu, h]
  unfold episodeOver
  rw [hx, enterWatch_rsq_of_calm calm, rsq]
  rw [enterWatch_of_calm calm]
  exact ⟨rfl, rfl, rfl, rfl, rfl, rfl⟩

/-! ## A seek leads to no state in which another report of the event acts -/

/-- `p` stands where a seek can lead: outside VERIFY and CREEP, in WATCH by the cancel condition alone, in BLOCKED by the line alone. -/
structure Part.Underway (p : Part) : Prop where
  verify  : p.rsq.state ≠ .verify
  creep   : p.rsq.state ≠ .creep
  watch   : p.rsq.state = .watch → p.liu.cancel = true
  blocked : p.rsq.state = .blocked → p.rsq.cause = .line

theorem Part.Underway.of_state {s : RescueState} (hs : p.rsq.state = s)
    (h : s ∉ [RescueState.verify, .creep, .watch, .blocked]) : p.Underway := by
  simp only [List.mem_cons, List.not_mem_nil, or_false, not_or] at h
  obtain ⟨verify, creep, watch, blocked⟩ := h
  subst hs
  exact ⟨verify, creep, fun e => absurd e watch, fun e => absurd e blocked⟩

theorem Part.Underway.congr {q : Part} (h : p.Underway) (rsq : q.rsq = p.rsq) (liu : q.liu = p.liu) : q.Underway := by
  obtain ⟨verify, creep, watch, blocked⟩ := h
  constructor <;> rw [rsq]
  · exact verify
  · exact creep
  · rw [liu]; exact watch
  · exact blocked

/-- The stall indication and the cancel condition do not stand together (R132, R133). -/
def Part.oneCondition (p : Part) : Prop := p.liu.stall = true → p.liu.cancel = false

theorem Part.oneCondition.calm (h : p.oneCondition) (cancel : p.liu.cancel = true) : p.liu.stall = false :=
  Bool.eq_false_of_not_eq_true fun stall => by simp [h stall] at cancel

theorem Part.enterLanded_underway (one : p.oneCondition) : p.enterLanded.Underway := by
  unfold enterLanded
  dsimp only
  split
  next hc =>
    have cancel : p.liu.cancel = true := by simpa using hc
    have watch := enterWatch_rsq_of_calm (p := (p.ended .landed).enterAtRest .landed) (by simpa using one.calm cancel)
    constructor <;> rw [watch]
    · simp [Rsq.rested]
    · simp [Rsq.rested]
    · exact fun _ => by simpa using cancel
    · simp [Rsq.rested]
  next => exact .of_state (enterAtRest_state _ _) (by decide)

theorem Part.enterDoors_underway (one : p.oneCondition) : p.enterDoors.Underway := by
  unfold enterDoors
  dsimp only
  split
  · exact enterLanded_underway (by simpa [oneCondition] using one)
  · exact .of_state (s := .doors) (by simp) (by decide)

theorem Part.enterWarn_underway : p.enterWarn.Underway := by
  unfold enterWarn takeMoving movingReport
  dsimp only
  repeat' split
  · exact .of_state (s := .probe) (by simp [enterProbe]) (by decide)
  · exact .of_state (s := .probe) (by simp [enterProbe]) (by decide)
  all_goals exact .of_state (s := .warn) (by simp) (by decide)

theorem Part.admitted_underway (one : p.oneCondition) (hs : p.rsq.state = .wait) : p.admitted.Underway := by
  unfold admitted
  rw [if_pos hs]
  split
  · exact enterDoors_underway one
  · exact enterWarn_underway

theorem Part.lineBlocked_underway (hs : p.rsq.state = .wait) : p.lineBlocked.Underway := by
  unfold lineBlocked
  rw [if_pos hs]
  constructor <;> simp [enterBlocked_rsq, Rsq.rested]

theorem Part.queueing_underway (one : p.oneCondition) (hs : p.rsq.state = .wait) (asked : Bool) : (p.queueing asked).Underway := by
  have waits : p.Underway := .of_state hs (by decide)
  unfold queueing soloRule
  dsimp only
  repeat' split
  · exact admitted_underway one hs
  · exact lineBlocked_underway hs
  · exact waits.congr rfl rfl
  · exact waits.congr (by simp) (by simp)

theorem Part.seek_underway (one : p.oneCondition) (hs : p.rsq.state = .wait) : p.seek.Underway := by
  have waits : p.Underway := .of_state hs (by decide)
  unfold seek
  repeat' split
  · exact queueing_underway one hs true
  · exact waits.congr rfl rfl
  all_goals exact waits

theorem Part.enterWait_underway (one : p.oneCondition) (confirm : Bool) : (p.enterWait confirm).Underway := by
  unfold enterWait
  dsimp only
  split
  all_goals exact seek_underway (by simpa [oneCondition] using one) (by simp)

/-! ## A block that clears (R14) -/

theorem Part.replanBlocked_of_blocked {cause : Cause} (hd : p.adu.state ≠ .defer)
    (h : (p.settings.makePlan p.planInputs).blockCause.recorded = some cause) :
    p.replanBlocked = (p.planned (p.settings.makePlan p.planInputs)).mapRsq fun r => { r with cause := cause } := by
  simp only [replanBlocked, requestPlan_eq hd, planned, h]

theorem Part.replanBlocked_of_unblocked (hd : p.adu.state ≠ .defer)
    (h : (p.settings.makePlan p.planInputs).blockCause.recorded = none) :
    p.replanBlocked = (p.planned (p.settings.makePlan p.planInputs)).enterWait false := by
  simp only [replanBlocked, requestPlan_eq hd, planned, h]

/-- A block that has cleared: it stands with the cause of the new plan, for which planning anew changes nothing, or a seek has been made. -/
theorem Part.replanBlocked_cases (one : p.oneCondition) (hd : p.adu.state ≠ .defer) :
    (p.replanBlocked.replanBlocked = p.replanBlocked ∧ p.replanBlocked.rsq.state = p.rsq.state)
      ∨ (p.liu.positionValid = true ∧ p.replanBlocked.Underway) := by
  cases hb : (p.settings.makePlan p.planInputs).blockCause.recorded with
  | some cause =>
    have blocked := replanBlocked_of_blocked hd hb
    have inputs : p.replanBlocked.settings.makePlan p.replanBlocked.planInputs = p.settings.makePlan p.planInputs := by
      rw [blocked]; rfl
    refine .inl ⟨?_, by rw [blocked]; rfl⟩
    rw [replanBlocked_of_blocked (p := p.replanBlocked) (by rw [blocked]; exact hd) (by rw [inputs]; exact hb), inputs, blocked]
    rfl
  | none =>
    refine .inr ⟨Bool.eq_true_of_not_eq_false fun hv => ?_, ?_⟩
    · rw [Settings.makePlan_of_invalid (i := p.planInputs) hv] at hb
      cases hb
    · rw [replanBlocked_of_unblocked hd hb]
      exact enterWait_underway (by exact one) false

end

/-! ## Where the reports lead -/

section
variable {p : Part} {latched : Prop} {old : Liu} {reports : List LiuReport}

/-- The reports of one event in a state that heeds none of them: what is asked of a state other than the present one holds of itself. -/
theorem Liu.Told.still (told : Liu.Told latched old p.liu reports)
    (creep : p.rsq.state = .creep → ¬ latched := by intros; simp_all)
    (wait : p.rsq.state = .wait → old.positionValid = false ∨ p.liu.positionValid = true := by intros; simp_all)
    (position : p.rsq.state = .blocked → p.rsq.cause = .position →
      old.positionValid = true ∨ p.liu.positionValid = false := by intros; simp_all)
    (infeasible : p.rsq.state = .blocked → p.rsq.cause = .infeasible →
      p.liu.positionValid = old.positionValid ∧ p.liu.load = old.load := by intros; simp_all)
    (watch : p.rsq.state = .watch → old.stall = true ∨ p.liu.stall = false := by intros; simp_all)
    (verify : p.rsq.state = .verify → old.stall = false ∨ p.liu.stall = true := by intros; simp_all)
    (cancel : p.rsq.state ∈ [RescueState.verify, .parked, .blocked, .landed, .wait, .warn] →
      (!old.cancel && p.liu.cancel) = false := by intros; simp_all) : p.takeInTurn reports = p := by
  refine Part.takeInTurn_of_still fun r hr => LiuReport.act_of_not_heeded fun heeded => ?_
  obtain ⟨rfl, hs⟩ | ⟨rfl, hs, hc⟩ | ⟨rfl, hs⟩ | ⟨rfl, hs, hc⟩ | ⟨rfl, hs⟩ | ⟨rfl, hs⟩ | ⟨rfl, hs⟩ := heeded
  · exact creep hs (told.position.mp hr)
  · have flag := (told.valid true).mp hr
    obtain hc | hc := hc
    · simpa [← flag.2] using (position hs hc).resolve_left fun h => flag.1 (h.trans flag.2)
    · exact flag.1 (infeasible hs hc).1.symm
  · have flag := (told.valid false).mp hr
    obtain hs | ⟨hs, hc⟩ := hs
    · simpa [← flag.2] using (wait hs).resolve_left fun h => flag.1 (h.trans flag.2)
    · exact flag.1 (infeasible hs hc).1.symm
  · exact told.load.mp hr (infeasible hs hc).2.symm
  · have present := (told.stall true).mp hr
    simpa [← present.2] using (watch hs).resolve_left fun h => present.1 (h.trans present.2)
  · have present := (told.stall false).mp hr
    simpa [← present.2] using (verify hs).resolve_left fun h => present.1 (h.trans present.2)
  · simpa [told.cancel.mp hr] using cancel hs

theorem Liu.Told.still_of_deaf (told : Liu.Told latched old p.liu reports)
    (hs : p.rsq.state ∈ [RescueState.start, .probe, .level, .doors, .halted]) : p.takeInTurn reports = p := by
  have held : p.rsq.state ∉ [RescueState.verify, .parked, .blocked, .landed, .wait, .warn] := by
    revert hs
    generalize p.rsq.state = s
    cases s <;> decide
  exact told.still (cancel := fun h => absurd h held)

theorem Liu.Told.still_in_creep (told : Liu.Told latched old p.liu reports) (hs : p.rsq.state = .creep) (h : ¬ latched) :
    p.takeInTurn reports = p := told.still

theorem Liu.Told.still_in_watch (told : Liu.Told latched old p.liu reports) (hs : p.rsq.state = .watch)
    (h : old.stall = true ∨ p.liu.stall = false) : p.takeInTurn reports = p := told.still

theorem Liu.Told.still_in_verify (told : Liu.Told latched old p.liu reports) (hs : p.rsq.state = .verify)
    (h : old.stall = false ∨ p.liu.stall = true) (cancel : (!old.cancel && p.liu.cancel) = false) : p.takeInTurn reports = p :=
  told.still (cancel := fun _ => cancel)

theorem Liu.Told.still_at_rest (told : Liu.Told latched old p.liu reports)
    (hs : p.rsq.state ∈ [RescueState.parked, .warn, .landed]) (cancel : (!old.cancel && p.liu.cancel) = false) :
    p.takeInTurn reports = p := told.still (cancel := fun _ => cancel)

theorem Liu.Told.still_in_wait (told : Liu.Told latched old p.liu reports) (hs : p.rsq.state = .wait)
    (h : old.positionValid = false ∨ p.liu.positionValid = true) (cancel : (!old.cancel && p.liu.cancel) = false) :
    p.takeInTurn reports = p := told.still (cancel := fun _ => cancel)

theorem Liu.Told.still_in_blocked (told : Liu.Told latched old p.liu reports) (hs : p.rsq.state = .blocked)
    (position : p.rsq.cause = .position → old.positionValid = true ∨ p.liu.positionValid = false)
    (infeasible : p.rsq.cause = .infeasible → p.liu.positionValid = old.positionValid ∧ p.liu.load = old.load)
    (cancel : (!old.cancel && p.liu.cancel) = false) : p.takeInTurn reports = p :=
  told.still (position := fun _ => position) (infeasible := fun _ => infeasible) (cancel := fun _ => cancel)

/-- In WATCH a stall indication newly raised acts, and nothing else (R9). -/
theorem Liu.Told.still_of_watch (told : Liu.Told latched old p.liu reports) {q : Part} (hs : q.rsq.state = .watch)
    (calm : p.liu.stall = false) : ∀ r ∈ reports, r.act q = q := by
  refine fun r hr => LiuReport.act_of_not_heeded fun heeded => ?_
  obtain rfl : r = .stall true := by simpa [LiuReport.heededBy, hs] using heeded
  simpa [calm] using ((told.stall true).mp hr).2

/-- R9: a stall indication newly present ends WATCH in VERIFY. -/
theorem Liu.Told.raises (told : Liu.Told latched old p.liu reports) (one : p.oneCondition) (hs : p.rsq.state = .watch)
    (was : old.stall = false) (present : p.liu.stall = true) : p.takeInTurn reports = p.enterVerify := by
  have verify := p.enterVerify_state
  have acts : LiuReport.act (.stall true) p = p.enterVerify := if_pos hs
  refine Part.takeInTurn_eq ((told.stall true).mpr ⟨by simp [was, present], present.symm⟩) acts (fun r _ => ?_) (fun r hr => ?_)
  · by_cases heeded : r.heededBy p
    · obtain rfl : r = .stall true := by simpa [LiuReport.heededBy, hs] using heeded
      exact .inr acts
    · exact .inl (LiuReport.act_of_not_heeded heeded)
  · refine LiuReport.act_of_not_heeded fun heeded => ?_
    obtain rfl | rfl : r = .stall false ∨ r = .cancel := by simpa [LiuReport.heededBy, verify] using heeded
    · simpa [present] using ((told.stall false).mp hr).2
    · simpa [one present] using (told.cancel.mp hr).2

/-- R10: VERIFY ends in WATCH by a stall indication withdrawn or by the cancel condition. -/
theorem Liu.Told.withdraws (told : Liu.Told latched old p.liu reports) (hs : p.rsq.state = .verify) (calm : p.liu.stall = false)
    (h : .stall false ∈ reports ∨ .cancel ∈ reports) : p.takeInTurn reports = p.enterWatch := by
  have stall : LiuReport.act (.stall false) p = p.enterWatch := if_pos hs
  have cancel : LiuReport.act .cancel p = p.enterWatch := Part.cancelHolds_of_unclaimed (by simp [hs])
  have watch : p.enterWatch.rsq.state = .watch := by rw [Part.enterWatch_rsq_of_calm calm]; rfl
  have keeps : ∀ r ∈ reports, r.act p = p ∨ r.act p = p.enterWatch := fun r _ => by
    by_cases heeded : r.heededBy p
    · obtain rfl | rfl : r = .stall false ∨ r = .cancel := by simpa [LiuReport.heededBy, hs] using heeded
      · exact .inr stall
      · exact .inr cancel
    · exact .inl (LiuReport.act_of_not_heeded heeded)
  obtain h | h := h
  · exact Part.takeInTurn_eq h stall keeps (told.still_of_watch watch calm)
  · exact Part.takeInTurn_eq h cancel keeps (told.still_of_watch watch calm)

/-- The cancel condition, newly holding, ends the state in WATCH; in WAIT and BLOCKED, where neither the position-valid flag nor the load
has moved. -/
theorem Liu.Told.cancels (told : Liu.Told latched old p.liu reports) (h : .cancel ∈ reports) (calm : p.liu.stall = false)
    (hs : p.rsq.state ∈ [RescueState.parked, .blocked, .landed, .wait, .warn])
    (same : p.rsq.state.waiting = true → old.positionValid = p.liu.positionValid ∧ old.load = p.liu.load) :
    p.takeInTurn reports = p.cancelHolds := by
  have ended : p.rsq.state ∈ [RescueState.verify, .parked, .blocked, .landed, .wait, .warn] := List.mem_cons_of_mem _ hs
  have watch : p.cancelHolds.rsq.state = .watch := by rw [Part.cancelHolds_rsq ended calm]; rfl
  refine Part.takeInTurn_eq h rfl (fun r hr => ?_) (told.still_of_watch watch calm)
  by_cases heeded : r.heededBy p
  · have blocked (e : p.rsq.state = .blocked) := same (by rw [e]; rfl)
    obtain ⟨-, e⟩ | ⟨rfl, e, -⟩ | ⟨rfl, e⟩ | ⟨rfl, e, -⟩ | ⟨-, e⟩ | ⟨-, e⟩ | ⟨rfl, -⟩ := heeded
    case inr.inr.inr.inr.inr.inr => exact .inr rfl
    case inr.inl => exact absurd (blocked e).1 ((told.valid true).mp hr).1
    case inr.inr.inl =>
      obtain e | ⟨e, -⟩ := e
      · exact absurd (same (by rw [e]; rfl)).1 ((told.valid false).mp hr).1
      · exact absurd (blocked e).1 ((told.valid false).mp hr).1
    case inr.inr.inr.inl => exact absurd (blocked e).2 (told.load.mp hr)
    all_goals simp [e] at hs
  · exact .inl (LiuReport.act_of_not_heeded heeded)

/-- R17: a position newly invalid withdraws a waiting claim. -/
theorem Liu.Told.invalidates (told : Liu.Told latched old p.liu reports) (hs : p.rsq.state = .wait) (was : old.positionValid = true)
    (now : p.liu.positionValid = false) (cancel : .cancel ∉ reports) :
    p.takeInTurn reports = p.withdrawToBlocked .position := by
  have acts : LiuReport.act (.valid false) p = p.withdrawToBlocked .position := Part.validChanged_of_wait hs
  refine Part.takeInTurn_eq ((told.valid false).mpr ⟨by simp [was, now], now.symm⟩) acts (fun r hr => ?_) (fun r hr => ?_)
  · by_cases heeded : r.heededBy p
    · obtain rfl | rfl : r = .valid false ∨ r = .cancel := by simpa [LiuReport.heededBy, hs] using heeded
      · exact .inr acts
      · exact absurd hr cancel
    · exact .inl (LiuReport.act_of_not_heeded heeded)
  · refine LiuReport.act_of_not_heeded fun heeded => ?_
    have cause : (p.withdrawToBlocked .position).rsq.cause = .position := by rw [Part.withdrawToBlocked_rsq]; rfl
    obtain rfl | rfl : r = .valid true ∨ r = .cancel := by
      simpa [LiuReport.heededBy, Part.withdrawToBlocked_state, cause] using heeded
    · simpa [now] using ((told.valid true).mp hr).2
    · exact cancel hr

/-- R14: in BLOCKED a clearing report asks for a new plan; after it none of the others has more to say. -/
theorem Liu.Told.clears (told : Liu.Told latched old p.liu reports) (one : p.oneCondition) (hs : p.rsq.state = .blocked)
    (hd : p.adu.state ≠ .defer) (cancel : .cancel ∉ reports) (h : ∃ r ∈ reports, r.heededBy p) :
    p.takeInTurn reports = p.replanBlocked := by
  have other {r : LiuReport} (hr : r ∈ reports) : r ≠ .cancel := fun e => cancel (e ▸ hr)
  obtain ⟨r, hr, heeded⟩ := h
  refine Part.takeInTurn_eq hr (LiuReport.act_of_blocked hs heeded (other hr)) (fun r hr => ?_) (fun r hr => ?_)
  · by_cases heeded : r.heededBy p
    · exact .inr (LiuReport.act_of_blocked hs heeded (other hr))
    · exact .inl (LiuReport.act_of_not_heeded heeded)
  · by_cases heeded : r.heededBy p.replanBlocked
    · obtain ⟨again, state⟩ | ⟨valid, underway⟩ := Part.replanBlocked_cases one hd
      · rw [LiuReport.act_of_blocked (state.trans hs) heeded (other hr), again]
      · exfalso
        obtain ⟨-, e⟩ | ⟨rfl, e, c⟩ | ⟨rfl, e⟩ | ⟨rfl, e, c⟩ | ⟨rfl, e⟩ | ⟨-, e⟩ | ⟨rfl, -⟩ := heeded
        · exact underway.creep e
        · simp [underway.blocked e] at c
        · simpa [valid] using ((told.valid false).mp hr).2
        · simp [underway.blocked e] at c
        · have present := ((told.stall true).mp hr).2
          have set := underway.watch e
          rw [Part.replanBlocked_liu, one present.symm] at set
          cases set
        · exact underway.verify e
        · exact cancel hr
    · exact LiuReport.act_of_not_heeded heeded

/-- R26: in CREEP a latched position is tested against the target. -/
theorem Liu.Told.tests (told : Liu.Told latched old p.liu reports) (h : latched) (hs : p.rsq.state = .creep) :
    p.takeInTurn reports = p.testTarget := by
  refine Part.takeInTurn_eq (told.position.mpr h) rfl (fun r _ => ?_) (fun r _ => ?_)
  · by_cases heeded : r.heededBy p
    · obtain rfl : r = .position := by simpa [LiuReport.heededBy, hs] using heeded
      exact .inr rfl
    · exact .inl (LiuReport.act_of_not_heeded heeded)
  · have tested : p.testTarget = p ∨ p.testTarget.rsq.state = .level ∨ p.testTarget.rsq.state = .halted := by
      unfold Part.testTarget
      rw [if_pos hs]
      split
      next e _ =>
        right
        cases e
        · exact .inl (by simp [Part.endCreep, Part.enterLevel])
        · exact .inr (by simp [Part.endCreep, Part.enterHalted])
      next => exact .inl rfl
    by_cases heeded : r.heededBy p.testTarget
    · obtain e | e | e := tested
      · rw [e] at heeded ⊢
        obtain rfl : r = .position := by simpa [LiuReport.heededBy, hs] using heeded
        exact e
      all_goals simp [LiuReport.heededBy, e] at heeded
    · exact LiuReport.act_of_not_heeded heeded

end

end Sys2Proof.Machine
end

section
/-! PROOF. The cancel condition among the other reports of a tick, in WAIT and BLOCKED (R14, R17, R68, R69): whatever order they are taken
in, the sequencer ends in WATCH. -/

namespace Sys2Proof.Machine

-- Checked one after another: side by side, each waiting proof keeps a thread of its own.
set_option Elab.async false

section
variable {p : Part} {latched : Prop} {old : Liu} {reports : List LiuReport}

/-! ## On an available line -/

/-- `p` is in WAIT or BLOCKED on an available line, and no stall indication stands; `outputs` are its outputs at rest. -/
structure Part.Calling (outputs : Outputs) (p : Part) : Prop where
  state   : p.rsq.state = .wait ∨ p.rsq.state = .blocked
  outputs : p.rsq.outputs.atRest false false = outputs
  line    : p.lineAvailable = true
  calm    : p.liu.stall = false

theorem Part.withdraw_lineAvailable (p : Part) : p.withdraw.lineAvailable = p.lineAvailable := by
  refine lineAvailable_congr (by simp) ?_ (Fre.duplicate_of_rest (by simp))
  unfold withdraw
  split <;> simp

theorem Part.enterBlocked_lineAvailable (cause : Cause) (p : Part) : (p.enterBlocked cause).lineAvailable = p.lineAvailable :=
  lineAvailable_congr (by simp) (by simp) (Fre.duplicate_of_rest (by simp))

theorem Part.replanBlocked_lineAvailable (p : Part) : p.replanBlocked.lineAvailable = p.lineAvailable :=
  lineAvailable_congr (by simp) (by simp) (Fre.duplicate_of_rest (by simp))

theorem Part.seek_rsq_of_available (h : p.lineAvailable = true) : p.seek.rsq = p.rsq := by
  unfold seek
  repeat' split
  · exact (queueing_sameOutside_of_available h).1 (by decide)
  all_goals rfl

/-- A new plan in BLOCKED, on an available line: the block stands, or WAIT is entered and the claim stays there (R14, R53). -/
theorem Part.replanBlocked_calling (hs : p.rsq.state = .blocked) (h : p.lineAvailable = true) :
    (p.replanBlocked.rsq.state = .wait ∨ p.replanBlocked.rsq.state = .blocked)
      ∧ p.replanBlocked.rsq.outputs.atRest false false = p.rsq.outputs.atRest false false := by
  have plan : p.requestPlan.rsq = p.rsq := requestPlan_rsq (by simp [hs])
  have line : p.requestPlan.lineAvailable = true :=
    (lineAvailable_congr (by simp) (by simp) (Fre.duplicate_of_rest (by simp))).trans h
  have entered : (p.requestPlan.enterAtRest .wait).lineAvailable = true :=
    (lineAvailable_congr (by simp) (by simp) (Fre.duplicate_of_rest (by simp))).trans line
  unfold replanBlocked
  dsimp only
  split
  · exact ⟨.inr (by simp [plan, hs]), by simp [plan]⟩
  · unfold enterWait
    simp only [Bool.false_eq_true, if_false, seek_rsq_of_available entered, enterAtRest_rsq, plan]
    exact ⟨.inl rfl, rfl⟩

theorem Part.Calling.replanBlocked {outputs : Outputs} (h : p.Calling outputs) (hs : p.rsq.state = .blocked) :
    p.replanBlocked.Calling outputs := by
  obtain ⟨state, rest⟩ := replanBlocked_calling hs h.line
  exact ⟨state, rest.trans h.outputs, (replanBlocked_lineAvailable p).trans h.line, by simpa using h.calm⟩

theorem Part.Calling.withdrawToBlocked {outputs : Outputs} (h : p.Calling outputs) (cause : Cause) :
    (p.withdrawToBlocked cause).Calling outputs where
  state := .inr (withdrawToBlocked_state cause p)
  outputs := by rw [withdrawToBlocked_rsq]; exact h.outputs
  line := ((enterBlocked_lineAvailable cause _).trans p.withdraw_lineAvailable).trans h.line
  calm := by simpa using h.calm

/-- A report of a tick keeps the node calling, or is that of the cancel condition. -/
theorem Part.Calling.act {outputs : Outputs} (h : p.Calling outputs) {r : LiuReport} (hr : r ≠ .cancel) :
    (r.act p).Calling outputs := by
  by_cases heeded : r.heededBy p
  · obtain hs | hs := h.state
    · obtain rfl | rfl : r = .valid false ∨ r = .cancel := by simpa [LiuReport.heededBy, hs] using heeded
      · rw [LiuReport.act, validChanged_of_wait hs]
        exact h.withdrawToBlocked _
      · exact absurd rfl hr
    · rw [LiuReport.act_of_blocked hs heeded hr]
      exact h.replanBlocked hs
  · rw [LiuReport.act_of_not_heeded heeded]
    exact h

/-- R14, R17: on an available line the episode is over once all reports are taken. -/
theorem Liu.Told.episodeOver (told : Liu.Told latched old p.liu reports) {outputs : Outputs} (h : p.Calling outputs)
    (cancel : .cancel ∈ reports) : (p.takeInTurn reports).episodeOver outputs := by
  have leads (x : Part) (hx : x.Calling outputs) : x.cancelHolds.episodeOver outputs := by
    have state : x.rsq.state ∈ [RescueState.verify, .parked, .blocked, .landed, .wait, .warn] := by
      obtain e | e := hx.state <;> simp [e]
    exact hx.outputs ▸ Part.cancelHolds_episodeOver state hx.calm
  refine Part.takeInTurn_reaches (P := Part.Calling outputs) (fun r _ x hx => ?_) (fun r hr x hx => ?_) ⟨_, cancel, leads⟩ h
  · by_cases hr : r = .cancel
    · exact .inr (hr ▸ leads x hx)
    · exact .inl (hx.act hr)
  · rw [told.still_of_watch hx.1 h.calm r hr]
    exact hx

/-! ## The claim of a node in WAIT -/

/-- R68, R69: the claim is withdrawn once, whether a position newly invalid or the cancel condition is taken first. -/
theorem Liu.Told.cancels_wait (told : Liu.Told latched old p.liu reports) (hs : p.rsq.state = .wait) (calm : p.liu.stall = false)
    (cancel : .cancel ∈ reports) : (p.takeInTurn reports).adu = p.withdraw.adu := by
  have waiting : LiuReport.act .cancel p = p.withdraw.enterWatch := Part.cancelHolds_of_wait hs
  have blocked : LiuReport.act .cancel (p.withdrawToBlocked .position) = (p.withdrawToBlocked .position).enterWatch :=
    Part.cancelHolds_of_unclaimed (by simp [Part.withdrawToBlocked_state])
  have cause : (p.withdrawToBlocked .position).rsq.cause = .position := by rw [Part.withdrawToBlocked_rsq]; rfl
  have watch (x : Part) (hx : x.liu = p.liu) : x.enterWatch.rsq.state = .watch := by
    rw [Part.enterWatch_rsq_of_calm (by rw [hx, calm])]; rfl
  have leads (x : Part) (hx : x = p ∨ x = p.withdrawToBlocked .position) :
      (LiuReport.act .cancel x).rsq.state = .watch ∧ (LiuReport.act .cancel x).adu = p.withdraw.adu := by
    obtain rfl | rfl := hx
    · rw [waiting]
      exact ⟨watch _ (by simp), by simp⟩
    · rw [blocked]
      exact ⟨watch _ (by simp), by simp [Part.withdrawToBlocked]⟩
  refine (Part.takeInTurn_reaches (P := fun x => x = p ∨ x = p.withdrawToBlocked .position ∧ p.liu.positionValid = false)
    (Q := fun x => x.rsq.state = .watch ∧ x.adu = p.withdraw.adu) (fun r hr x hx => ?_) (fun r hr x hx => ?_)
    ⟨_, cancel, fun x hx => leads x (hx.imp_right And.left)⟩ (.inl rfl)).2
  · by_cases heeded : r.heededBy x
    · obtain rfl | ⟨rfl, now⟩ := hx
      · obtain rfl | rfl : r = .valid false ∨ r = .cancel := by simpa [LiuReport.heededBy, hs] using heeded
        · exact .inl (.inr ⟨Part.validChanged_of_wait hs, ((told.valid false).mp hr).2.symm⟩)
        · exact .inr (leads _ (.inl rfl))
      · obtain rfl | rfl : r = .valid true ∨ r = .cancel := by
          simpa [LiuReport.heededBy, Part.withdrawToBlocked_state, cause] using heeded
        · simpa [now] using ((told.valid true).mp hr).2
        · exact .inr (leads _ (.inr rfl))
    · rw [LiuReport.act_of_not_heeded heeded]
      exact .inl hx
  · rw [told.still_of_watch hx.1 calm r hr]
    exact hx

end

end Sys2Proof.Machine
end

section
/-! PROOF. The tick (R122 to R125, R155): its figures are latched, and its reports taken. -/

namespace Sys2Proof.Machine

-- Checked one after another: side by side, each waiting proof keeps a thread of its own.
set_option Elab.async false

section
variable {p : Part} {reports : List LiuReport}

/-! ## What reports leave -/

theorem Part.takeInTurn_proj {β : Type} (g : Part → β) (hact : ∀ r p, g (LiuReport.act r p) = g p) (reports : List LiuReport)
    (p : Part) : g (p.takeInTurn reports) = g p :=
  List.foldlRecOn (motive := fun x => g x = g p) reports _ rfl fun x hx r _ => (hact r x).trans hx

@[simp] theorem Part.takeInTurn_lif : (p.takeInTurn reports).lif = p.lif := takeInTurn_proj (·.lif) (by simp) reports p
@[simp] theorem Part.takeInTurn_liu : (p.takeInTurn reports).liu = p.liu := takeInTurn_proj (·.liu) (by simp) reports p
@[simp] theorem Part.takeInTurn_lpc : (p.takeInTurn reports).lpc = p.lpc := takeInTurn_proj (·.lpc) (by simp) reports p
@[simp] theorem Part.takeInTurn_pins : (p.takeInTurn reports).pins = p.pins := takeInTurn_proj (·.pins) (by simp) reports p
@[simp] theorem Part.takeInTurn_choices : (p.takeInTurn reports).choices = p.choices :=
  takeInTurn_proj (·.choices) (by simp) reports p

/-- A mark of R31 that is clear stays so: no report sets it. -/
theorem Part.takeInTurn_cancelCame (h : p.rsq.cancelCame = false) : (p.takeInTurn reports).rsq.cancelCame = false := by
  have clear : p.noted p.lpc.lastResult p.choices = p := by
    unfold noted
    rw [← h]
  rw [← clear, takeInTurn_noted]
  rfl

theorem LiuReport.act_records (r : LiuReport) (p : Part) : (r.act p).pvw.records = p.pvw.records := by
  unfold act
  split
  · unfold Part.testTarget
    repeat' split
    all_goals simp
  · unfold Part.validChanged Part.clears
    repeat' split
    all_goals simp
  · unfold Part.loadChanged Part.clears
    split <;> simp
  · unfold Part.stallRaised
    split <;> simp
  · unfold Part.stallWithdrawn
    split <;> simp
  · simp

@[simp] theorem Part.takeInTurn_records : (p.takeInTurn reports).pvw.records = p.pvw.records :=
  takeInTurn_proj (·.pvw.records) LiuReport.act_records reports p

/-! ## The target test (R26) -/

theorem Part.targetTest_of_arrived (h : p.liu.doorZone.level = true ∧ p.liu.position ≤ p.pcu.plan.level + p.settings.halfWidth
    ∧ p.pcu.plan.level ≤ p.liu.position + p.settings.halfWidth) : p.targetTest = some .arrival := by
  unfold targetTest
  simp only [distance_le_iff]
  exact if_pos h

theorem Part.targetTest_of_away (h : ¬ (p.liu.doorZone.level = true ∧ p.liu.position ≤ p.pcu.plan.level + p.settings.halfWidth
    ∧ p.pcu.plan.level ≤ p.liu.position + p.settings.halfWidth)) :
    p.targetTest = if (p.pcu.plan.direction = some .up ∧ p.pcu.plan.level + p.settings.halfWidth < p.liu.position)
        ∨ (p.pcu.plan.direction = some .down ∧ p.liu.position + p.settings.halfWidth < p.pcu.plan.level)
      then some (.failure .overrun) else none := by
  unfold targetTest
  simp only [distance_le_iff, if_neg h]
  match p.pcu.plan.direction with
  | none => simp
  | some .up => simp
  | some .down => simp

theorem Part.testTarget_of_some {e : CreepEnd} (hs : p.rsq.state = .creep) (h : p.targetTest = some e) :
    p.testTarget = p.endCreep e := by
  simp only [testTarget, hs, h, if_true]

theorem Part.testTarget_of_none (h : p.targetTest = none) : p.testTarget = p := by
  simp only [testTarget, h, ite_self]

theorem Part.testTarget_targetTestedAs (hc : p.lpc.committed = true) (hs : p.rsq.state = .creep) :
    p.testTarget.targetTestedAs p := by
  refine ⟨fun arrived => ?_, fun away beyond => ?_, fun away beyond => ?_⟩
  · rw [testTarget_of_some hs (targetTest_of_arrived arrived)]
    exact enterLevel_levelsAs hc hs
  · rw [testTarget_of_some hs ((targetTest_of_away away).trans (if_pos beyond))]
    exact enterHalted_haltsAs _ hc (by simp [hs])
  · exact testTarget_of_none ((targetTest_of_away away).trans (if_neg beyond))

end

/-! ## The command -/

section
variable {s : State} {bytes : List Byte} {c : Instr} {kind : TickKind} {controller : ControllerState}

/-- The part as a tick has been clocked (R148). -/
def Part.tickClocked (p : Part) : Part := p.mapLpc (Lpc.closed (List.replicate 5 0) [])

theorem exec_tick (port : s.portReady) (four : bytes.length = 4)
    (hc : c = Instr.tickA ⟨bytes, 0⟩ ∧ kind = TickKind.a ∨ c = Instr.tickB ⟨bytes, 0⟩ ∧ kind = TickKind.b) :
    exec c s = .next { s with part := (s.part.tickClocked.takeTick kind bytes).settled } := by
  have staged : bytes.take 35 = bytes := List.take_of_length_le (by omega)
  have run (code : PortCommand) (modifying : code.modifying = true) (fits : code.countFits 5 = true) :
      s.run (Part.modify code ⟨bytes, 0⟩ (Part.takeTick kind)) =
        .next { s with part := (s.part.tickClocked.takeTick kind bytes).settled } := by
    rw [State.run_eq, Part.whenWorking_of_high _ _ port.1, Part.modify_ready code modifying _ _ _ port.2]
    simp only [four, staged]
    rw [if_pos ⟨fits, rfl⟩]
    rfl
  obtain ⟨rfl, rfl⟩ | ⟨rfl, rfl⟩ := hc
  · exact run .tickA rfl rfl
  · exact run .tickB rfl rfl

/-- LIU's record once a tick has been accepted (R123, R124, R125, R132, R133). -/
def Part.tickLatched (kind : TickKind) (bytes : List Byte) (controller : ControllerState) (p : Part) : Liu :=
  { p.liu with
    lastKind := some kind
    position := if fieldAt2 bytes 0 ≤ 60000 then fieldAt2 bytes 0 else p.liu.position
    positionValid := decide (fieldAt2 bytes 0 ≤ 60000)
    load := if (byteAt bytes 2).toNat = 255 then none else some (10 * min 250 (byteAt bytes 2).toNat)
    controller := some controller
    lockout := controller == .service
    heartbeat := .healthy
    heartbeatTimer := .running (2500 * p.settings.heartbeatTime)
    stall := controller != .service && (!p.liu.mains.level || controller == .stalled)
    cancel := p.liu.mains.level && controller != .stalled }

theorem Part.latch_evaluate (kind : TickKind) (bytes : List Byte) (controller : ControllerState) (p : Part) :
    (p.liu.latch p.settings.heartbeatLength kind (fieldAt2 bytes 0) (byteAt bytes 2).toNat controller).evaluate =
      p.tickLatched kind bytes controller := by
  have length : p.settings.heartbeatLength = 2500 * p.settings.heartbeatTime := by
    simp only [Settings.heartbeatLength, Config.ms, Config.samplesPerMs]
    omega
  rw [Liu.evaluate, if_neg (by simp [Liu.latch]), length]
  cases controller <;> cases p.liu.mains.level <;> rfl

/-- The part as LIU has latched an accepted tick and the port has answered it, before RSQ takes its reports. -/
def Part.tickTaken (kind : TickKind) (bytes : List Byte) (controller : ControllerState) (p : Part) : Part :=
  { p.settled with
    liu := p.tickLatched kind bytes controller
    lpc := { p.lpc.closed (List.replicate 5 0) [] with lastResult := .done } }

/-- Reports taken before the port has answered leave what they leave of the part as it will have been answered. -/
theorem Part.takeInTurn_answered {x t : Part} {choices : Nat} (l : List LiuReport) (n : Nat)
    (answered : ({ x with choices := n } : Part).noted .done n = t.noted .done n) (settled : t.noted .done choices = t) :
    ((({ x with choices := n } : Part).takeInTurn l).setResult .done).settled = { t.takeInTurn l with choices := n } := by
  have last : t.takeInTurn l = (t.takeInTurn l).noted .done choices := by rw [← takeInTurn_noted, settled]
  calc ((({ x with choices := n } : Part).takeInTurn l).setResult .done).settled
    _ = (({ x with choices := n } : Part).takeInTurn l).noted .done (({ x with choices := n } : Part).takeInTurn l).choices := rfl
    _ = (t.takeInTurn l).noted .done n := by rw [takeInTurn_choices, ← takeInTurn_noted, answered, takeInTurn_noted]
    _ = { t.takeInTurn l with choices := n } := by rw [last]; rfl

/-- An accepted tick: its figures, and its reports in some order; the count of free choices moves in WAIT and BLOCKED alone. -/
theorem exec_tick_accepted (port : s.portReady) (committed : s.part.lpc.committed = true) (four : bytes.length = 4)
    (hc : c = Instr.tickA ⟨bytes, 0⟩ ∧ kind = TickKind.a ∨ c = Instr.tickB ⟨bytes, 0⟩ ∧ kind = TickKind.b)
    (hk : ControllerState.ofCode (byteAt bytes 3).toNat = some controller) (fresh : s.part.liu.lastKind ≠ some kind) :
    ∃ l n, Liu.Told (fieldAt2 bytes 0 ≤ 60000) s.part.liu (s.part.tickTaken kind bytes controller).liu l
      ∧ (s.part.rsq.state.waiting = false → n = s.part.choices)
      ∧ exec c s = .next { s with part :=
          { (s.part.tickTaken kind bytes controller).takeInTurn l with choices := n } } := by
  have accepted : s.part.tickClocked.takeTick kind bytes =
      (s.part.tickClocked.acceptTick kind (TickData.ofBytes bytes) controller).setResult .done := by
    unfold Part.takeTick Part.judgeTick
    rw [if_neg (by simp [show s.part.tickClocked.lpc.committed = true from committed])]
    simp only [TickData.ofBytes, hk]
    rw [if_neg (by exact fresh)]
  obtain ⟨x, hx⟩ : ∃ x, x = s.part.tickClocked.mapLiu fun _ => s.part.tickLatched kind bytes controller := ⟨_, rfl⟩
  have latched : s.part.tickClocked.acceptTick kind (TickData.ofBytes bytes) controller =
      x.takeReports (tickReports (fieldAt2 bytes 0) s.part.liu x.liu ++ conditionReports s.part.liu x.liu) := by
    have liu := s.part.tickClocked.latch_evaluate kind bytes controller
    unfold Part.acceptTick
    dsimp only [TickData.ofBytes]
    rw [liu, hx]
    rfl
  obtain ⟨l, n, mem, calm, taken⟩ := x.takeReports_inTurn
    (tickReports (fieldAt2 bytes 0) s.part.liu x.liu ++ conditionReports s.part.liu x.liu)
  have answered := Part.takeInTurn_answered (x := x) (t := s.part.tickTaken kind bytes controller) (choices := s.part.choices) l n
    (by rw [hx]; rfl) rfl
  refine ⟨l, n, ?_, ?_, ?_⟩
  · rw [hx] at mem
    exact (Liu.told_tick ..).of_mem mem
  · rw [hx] at calm
    exact fun h => calm (.inl h)
  · rw [exec_tick port four hc, accepted, latched, taken, answered]

end

end Sys2Proof.Machine
end

section
/-! PROOF. The heartbeat (R124, R132, R133): its expiry re-evaluates both conditions, an accepted tick reloads its timer. -/

namespace Sys2Proof.Machine

-- Checked one after another: side by side, each waiting proof keeps a thread of its own.
set_option Elab.async false

/-! ## The conditions re-evaluated -/

/-- The part once both conditions stand anew, before RSQ takes their reports (R132, R133). -/
def Part.evaluated (p : Part) : Part := p.mapLiu fun _ => p.liu.evaluate

theorem Liu.evaluate_same (l : Liu) : l.evaluate = { l with stall := l.evaluate.stall, cancel := l.evaluate.cancel } := by
  unfold evaluate
  split <;> rfl

/-- Both conditions re-evaluated: their reports, in some order. A choice is read only in WAIT and BLOCKED, where the cancel condition
holds. -/
theorem Part.evaluateConditions_inTurn (p : Part) :
    ∃ l n, Liu.Told False p.liu p.evaluated.liu l
      ∧ (p.rsq.state.waiting = false ∨ p.evaluated.liu.cancel = false → n = p.choices)
      ∧ p.evaluateConditions = ({ p.evaluated with choices := n } : Part).takeInTurn l := by
  obtain ⟨l, n, mem, calm, taken⟩ := p.evaluated.takeReports_inTurn (conditionReports p.liu p.liu.evaluate)
  have same := p.liu.evaluate_same
  have told : Liu.Told False p.liu p.evaluated.liu (conditionReports p.liu p.liu.evaluate) :=
    Liu.told_conditions (congrArg (·.positionValid) same).symm (congrArg (·.load) same).symm
  refine ⟨l, n, told.of_mem mem, fun h => calm (h.imp_right fun cancel => ?_), taken⟩
  have cancel : p.liu.evaluate.cancel = false := cancel
  unfold conditionReports
  rw [cancel, Bool.and_false]
  split <;> simp

/-- The part as its heartbeat has expired, before RSQ takes the reports (R124). -/
def Part.heartbeatLost (p : Part) : Part :=
  { p with liu := { p.liu with
      heartbeat := .expired, heartbeatTimer := .stopped, stall := !p.liu.lockout, cancel := false } }

theorem Part.heartbeatExpires_inTurn {p : Part} (running : p.liu.heartbeatTimer.isRunning = true) :
    ∃ l, Liu.Told False p.liu p.heartbeatLost.liu l ∧ p.heartbeatExpires = p.heartbeatLost.takeInTurn l := by
  obtain ⟨x, hx⟩ : ∃ x, x = p.mapLiu fun l => { l with heartbeat := .expired, heartbeatTimer := .stopped } := ⟨_, rfl⟩
  have expires : p.heartbeatExpires = x.evaluateConditions := by
    rw [hx]
    exact if_pos running
  have lost : x.evaluated = p.heartbeatLost := by
    rw [hx]
    simp [evaluated, heartbeatLost, mapLiu, Liu.evaluate, Liu.stallCondition, Liu.cancelCondition]
  obtain ⟨l, n, told, calm, taken⟩ := x.evaluateConditions_inTurn
  rw [lost] at told calm taken
  have choices : n = p.choices := by
    rw [calm (.inr rfl), hx]
    rfl
  refine ⟨l, ⟨told.position, ?_, ?_, ?_, ?_⟩, by rw [expires, taken, choices]; rfl⟩
  · simpa [hx] using told.valid
  · simpa [hx] using told.load
  · simpa [hx] using told.stall
  · simpa [hx] using told.cancel

theorem Part.heartbeatLost_oneCondition (p : Part) : p.heartbeatLost.oneCondition := fun _ => rfl

/-- The codes of R160 name a controller state each. -/
theorem ControllerState.ofCode_of_le {n : Nat} (h : n ≤ 3) : ∃ controller, ControllerState.ofCode n = some controller := by
  match n, h with
  | 0, _ => exact ⟨.running, rfl⟩
  | 1, _ => exact ⟨.idle, rfl⟩
  | 2, _ => exact ⟨.stalled, rfl⟩
  | 3, _ => exact ⟨.service, rfl⟩

/-- Settles O19: the expiry's reports, and the timer that an accepted tick reloads. -/
theorem heartbeatExpires : Obligations.HeartbeatExpires := by
  refine ⟨fun s hw he => ?_, fun s bytes port committed four code c kind hc fresh => ?_⟩
  · obtain ⟨l, told, taken⟩ := Part.heartbeatExpires_inTurn he.1
    refine ⟨_, State.runExpiry_of_expires (timer := (·.liu.heartbeatTimer)) Part.heartbeatExpires hw he, ?_, fun hs was open_ => ?_,
      fun watch verify => ?_⟩ <;> rw [taken]
    · exact Part.takeInTurn_liu
    · rw [told.raises s.part.heartbeatLost_oneCondition hs was (by simp [Part.heartbeatLost, open_]), Part.enterVerify_rsq]
      rfl
    · rw [told.still (fun _ h => h) (fun _ => (Bool.eq_false_or_eq_true _).symm) (fun _ _ => Bool.eq_false_or_eq_true _)
        (fun _ _ => ⟨rfl, rfl⟩) (fun h => absurd h watch) (fun h => absurd h verify) fun _ => Bool.and_false _]
      simp [Part.sameOutside, Part.heartbeatLost]
  · obtain ⟨controller, hk⟩ := ControllerState.ofCode_of_le code
    obtain ⟨l, n, -, -, run⟩ := exec_tick_accepted port committed four hc hk fresh
    have reloaded : ((s.part.tickTaken kind bytes controller).takeInTurn l).liu.heartbeatTimer =
        .running (2500 * s.part.settings.heartbeatTime) := by rw [Part.takeInTurn_liu]; rfl
    refine ⟨_, run, ?_, reloaded, ?_, ?_, fun positive queued => ?_⟩
    · rw [Part.takeInTurn_liu]; rfl
    · rw [Part.takeInTurn_liu]; rfl
    · rw [Part.takeInTurn_lpc]; rfl
    · refine State.runExpiry_of_restarted (n := 2500 * s.part.settings.heartbeatTime - 1) (timer := (·.liu.heartbeatTimer))
        queued (reloaded.trans (congrArg Timer.running ?_))
      omega

end Sys2Proof.Machine
end

section
/-! PROOF. An accepted tick, rescue state by rescue state (R123 to R125, R132 to R134). -/

namespace Sys2Proof.Machine

-- Checked one after another: side by side, each waiting proof keeps a thread of its own.
set_option Elab.async false

section
variable {p : Part} {kind : TickKind} {bytes : List Byte} {controller : ControllerState}

theorem Part.tickTaken_oneCondition : (p.tickTaken kind bytes controller).oneCondition := by
  have evaluated := Liu.evaluate_cancel
    (l := p.liu.latch p.settings.heartbeatLength kind (fieldAt2 bytes 0) (byteAt bytes 2).toNat controller) (by simp [Liu.latch])
  rw [latch_evaluate] at evaluated
  exact evaluated

end

/-! ## The ends of a state by the cancel condition, with the line or without -/

section
variable {p : Part} {latched : Prop} {old : Liu} {reports : List LiuReport}

/-- On an available line the cancel condition ends each of these states with the episode over (R12, R14, R17, R19, R29). -/
theorem Liu.Told.cancels_episodeOver (told : Liu.Told latched old p.liu reports) (cancel : .cancel ∈ reports)
    (calm : p.liu.stall = false) (line : p.lineAvailable = true)
    (hs : p.rsq.state ∈ [RescueState.parked, .blocked, .wait, .warn, .landed]) :
    (p.takeInTurn reports).episodeOver (p.rsq.outputs.atRest false false) := by
  simp only [List.mem_cons, List.not_mem_nil, or_false] at hs
  have calls (state : p.rsq.state = .wait ∨ p.rsq.state = .blocked) := told.episodeOver ⟨state, rfl, line, calm⟩ cancel
  have ends (state : p.rsq.state ∈ [RescueState.parked, .blocked, .landed, .wait, .warn]) (rests : p.rsq.state.waiting = false) :
      (p.takeInTurn reports).episodeOver (p.rsq.outputs.atRest false false) := by
    rw [told.cancels cancel calm state (fun h => by simp [h] at rests)]
    exact Part.cancelHolds_episodeOver (List.mem_cons_of_mem _ state) calm
  obtain e | e | e | e | e := hs
  · exact ends (by simp [e]) (by rw [e]; rfl)
  · exact calls (.inr e)
  · exact calls (.inl e)
  · exact ends (by simp [e]) (by rw [e]; rfl)
  · exact ends (by simp [e]) (by rw [e]; rfl)

/-- R12, R29: PARKED and LANDED hold nothing, and end in WATCH. -/
theorem Liu.Told.cancels_watchesAs (told : Liu.Told latched old p.liu reports) (cancel : .cancel ∈ reports)
    (calm : p.liu.stall = false) (hc : p.lpc.committed = true) (hs : p.rsq.state = .parked ∨ p.rsq.state = .landed)
    (hn : p.adu.isHolder = false) : (p.takeInTurn reports).watchesAs p := by
  have unclaimed : p.rsq.state ∈ [RescueState.verify, .parked, .blocked, .landed] := by obtain e | e := hs <;> simp [e]
  rw [told.cancels cancel calm (by obtain e | e := hs <;> simp [e]) (fun h => by obtain e | e := hs <;> simp [e, RescueState.waiting] at h),
    Part.cancelHolds_of_unclaimed unclaimed]
  exact Part.enterWatch_watchesAs hc (.inl (by obtain e | e := hs <;> simp [e])) hn

/-- R19: WARN is given up, and ends in WATCH. -/
theorem Liu.Told.cancels_givenUp (told : Liu.Told latched old p.liu reports) (cancel : .cancel ∈ reports)
    (calm : p.liu.stall = false) (hc : p.lpc.committed = true) (hs : p.rsq.state = .warn) :
    (p.takeInTurn reports).watchesAs p.givenUp := by
  rw [told.cancels cancel calm (by simp [hs]) (fun h => by simp [hs, RescueState.waiting] at h),
    Part.cancelHolds_of_warn hs]
  exact (Part.warnGivenUp hc hs).1

end

/-- Settles O13: the tick's reports, taken in any order, in each rescue state. -/
theorem acceptedTickLatched : Obligations.AcceptedTickLatched := by
  intro s bytes port committed four c kind hc controller hk fresh
  obtain ⟨l, n, told, fixed, run⟩ := exec_tick_accepted port committed four hc hk fresh
  have one := Part.tickTaken_oneCondition (p := s.part) (kind := kind) (bytes := bytes) (controller := controller)
  obtain ⟨t, ht⟩ : ∃ t, t = s.part.tickTaken kind bytes controller := ⟨_, rfl⟩
  rw [← ht] at told run one
  have lpc : t.lpc.committed = true := by rw [ht]; exact committed
  have state : t.rsq.state = s.part.rsq.state := by rw [ht]; rfl
  have cause : t.rsq.cause = s.part.rsq.cause := by rw [ht]; rfl
  have adu : t.adu = s.part.adu := by rw [ht]; rfl
  obtain ⟨y, hy⟩ : ∃ y, y = t.takeInTurn l := ⟨_, rfl⟩
  rw [← hy] at run
  have yliu : y.liu = t.liu := by rw [hy, Part.takeInTurn_liu]
  have ylpc : y.lpc = t.lpc := by rw [hy, Part.takeInTurn_lpc]
  have ychoices : y.choices = s.part.choices := by
    rw [hy, Part.takeInTurn_choices, ht]
    rfl
  have called : y.rsq.cancelCame = false := by
    rw [hy, Part.takeInTurn_cancelCame]
    rw [ht]
    rfl
  have settled : ({ s.part.settled with liu := t.liu, lpc := t.lpc } : Part) = t := by rw [ht]; rfl
  have outside (e : t.takeInTurn l = t) : ({ y with choices := n } : Part).sameOutside [.liu, .lpc, .choices] s.part.settled := by
    rw [hy, e, ht]
    simp [Part.sameOutside, Part.tickTaken]
  have plain (h : s.part.rsq.state.waiting = false) : ({ y with choices := n } : Part) = y := by
    rw [fixed h, ← ychoices]
  have still (h : s.part.rsq.state.waiting = false) (e : t.takeInTurn l = t) :
      ({ y with choices := n } : Part).sameOutside [.liu, .lpc] s.part.settled := by
    rw [plain h, hy, e, ht]
    simp [Part.sameOutside, Part.tickTaken]
  rw [← state] at still plain
  simp only [← state, ← cause, ← adu]
  refine ⟨_, run, ?_, ?_, ?_, ?_, ?_, fun hs => ?_, fun hs calm => ?_, fun hs was now => ?_, fun hs was now => ?_, ?_⟩
  · rw [yliu, ht]; rfl
  · rw [ylpc, ht]; rfl
  · rw [hy, Part.takeInTurn_lif, ht]; rfl
  · rw [hy, Part.takeInTurn_records, ht]; rfl
  · rw [hy, Part.takeInTurn_pins, ht]; rfl
  · refine still ?_ (told.still_of_deaf hs)
    simp only [List.mem_cons, List.not_mem_nil, or_false] at hs
    obtain e | e | e | e | e := hs <;> rw [e] <;> rfl
  · rw [yliu] at calm
    exact still (by rw [hs]; rfl) (told.still_in_watch hs calm)
  · rw [yliu] at now
    rw [hy, told.raises one hs was now, Part.enterVerify_rsq, ht]
    rfl
  · rw [yliu] at now
    have watch : y = t.enterWatch := hy.trans (told.withdraws hs now (.inl ((told.stall false).mpr ⟨by simp [was, now], now.symm⟩)))
    rw [watch, Part.enterWatch_rsq_of_calm now, Part.enterWatch_of_calm now]
    exact ⟨rfl, rfl, rfl, rfl⟩
  · intro p hp
    rw [yliu, ylpc, settled] at hp
    subst hp
    rintro _ rfl
    rw [yliu]
    have cancels (h : (!s.part.liu.cancel && p.liu.cancel) = true) : .cancel ∈ l ∧ p.liu.stall = false := by
      simp only [Bool.and_eq_true, Bool.not_eq_true'] at h
      exact ⟨told.cancel.mpr h, one.calm h.2⟩
    have silent (h : (!s.part.liu.cancel && p.liu.cancel) = false) : .cancel ∉ l := fun hm => by simp [told.cancel.mp hm] at h
    have replanned (hs : p.rsq.state = .blocked) (hd : p.adu.state ≠ .defer) (h : .cancel ∉ l) (clearing : ∃ r ∈ l, r.heededBy p) :
        ({ y with choices := n } : Part).replansBlockedAs p := by
      have replans : y = p.replanBlocked := hy.trans (told.clears one hs hd h clearing)
      refine (Part.replanBlocked_replansBlockedAs_of_not_defer lpc hs hd).of_calm ?_
      rw [← replans]
    refine ⟨fun h line hs => ?_, fun h hs hn => ?_, fun hs h hn => ?_, fun hs h stood => ?_, fun _ _ => called, fun h hs ha => ?_,
      fun h hs ha => ?_, fun h hs => ?_, fun h hs => ?_, fun h hs hcause => ?_, fun h hs hcause valid => ?_,
      fun h hs hcause valid load => ?_, fun h hs valid => ?_, fun h hs hn was now => ?_, fun h hs hcause hd was now => ?_,
      fun h hs hcause hd moved => ?_, fun hs far => ?_, fun hs near => ?_⟩
    · have ended := told.cancels_episodeOver (cancels h).1 (cancels h).2 (by rw [ht]; exact line) hs
      rw [← hy, ht] at ended
      exact ended
    · rw [plain (by obtain e | e := hs <;> rw [e] <;> rfl), hy]
      exact told.cancels_watchesAs (cancels h).1 (cancels h).2 lpc hs hn
    · obtain ⟨calm, leads⟩ : p.liu.stall = false ∧ (.stall false ∈ l ∨ .cancel ∈ l) := by
        obtain h | ⟨was, now⟩ := h
        · exact ⟨(cancels h).2, .inr (cancels h).1⟩
        · exact ⟨now, .inl ((told.stall false).mpr ⟨by simp [was, now], now.symm⟩)⟩
      rw [plain (by rw [hs]; rfl), hy, told.withdraws hs calm leads]
      exact Part.enterWatch_watchesAs lpc (.inl (by simp [hs])) hn
    · exact still (by rw [hs]; rfl) (told.still_in_verify hs stood h)
    · rw [hy, told.cancels_wait hs (cancels h).2 (cancels h).1]
      simp only [List.mem_cons, List.not_mem_nil, or_false] at ha
      obtain e | e := ha <;> simp [Part.withdraw_eq, Adu.isHolder, Adu.afterWithdraw, e]
    · rw [hy, told.cancels_wait hs (cancels h).2 (cancels h).1]
      simp [Part.withdraw_eq, Adu.isHolder, Adu.afterWithdraw, ha]
    · rw [plain (by rw [hs]; rfl), hy]
      exact told.cancels_givenUp (cancels h).1 (cancels h).2 lpc hs
    · refine still ?_ (told.still_at_rest ?_ h)
      all_goals
        simp only [List.mem_cons, List.not_mem_nil, or_false] at hs ⊢
        obtain e | e | e := hs <;> simp [e, RescueState.waiting]
    · simp only [List.mem_cons, List.not_mem_nil, or_false, not_or] at hcause
      exact outside (told.still_in_blocked hs (fun e => absurd e hcause.1) (fun e => absurd e hcause.2) h)
    · exact outside (told.still_in_blocked hs (fun _ => valid) (fun e => by simp [hcause] at e) h)
    · exact outside (told.still_in_blocked hs (fun e => by simp [hcause] at e) (fun _ => ⟨valid, load⟩) h)
    · exact outside (told.still_in_wait hs valid h)
    · have claim := Part.withdrawToBlocked_withdrawsAs .position lpc hs hn
      have same : y = { y with liu := p.liu, choices := s.part.choices } := by rw [← yliu, ← ychoices]
      rw [← told.invalidates hs was now (silent h), ← hy, same] at claim
      exact claim
    · exact replanned hs hd (silent h) ⟨.valid true, (told.valid true).mpr ⟨by simp [was, now], now.symm⟩,
        by simp [LiuReport.heededBy, hs, hcause]⟩
    · refine replanned hs hd (silent h) ?_
      obtain moved | moved := moved
      · refine ⟨.valid p.liu.positionValid, (told.valid _).mpr ⟨moved.symm, rfl⟩, ?_⟩
        cases p.liu.positionValid <;> simp [LiuReport.heededBy, hs, hcause]
      · exact ⟨.load, told.load.mpr moved.symm, by simp [LiuReport.heededBy, hs, hcause]⟩
    · exact still (by rw [hs]; rfl) (told.still_in_creep hs (by omega))
    · rw [plain (by rw [hs]; rfl), hy, told.tests near hs]
      exact Part.testTarget_targetTestedAs lpc hs

end Sys2Proof.Machine
end

section
/-! PROOF. A stability timer's expiry (R130, R134): the debounced level moves, and RSQ takes the change, rescue state by rescue state. -/

namespace Sys2Proof.Machine

-- Checked one after another: side by side, each waiting proof keeps a thread of its own.
set_option Elab.async false

section
variable {p : Part} {i : Input}

/-! ## The expiry -/

/-- The part as an input's candidate has become its debounced level, before RSQ takes the change. -/
def Part.debounced (i : Input) (p : Part) : Part :=
  p.mapLiu (Liu.setInput i { p.liu.input i with level := (p.liu.input i).candidate, timer := .stopped })

theorem Part.debounceExpires_of_same (running : (p.liu.input i).timer.isRunning = true)
    (h : (p.liu.input i).candidate = (p.liu.input i).level) : p.debounceExpires i = p.debounced i :=
  (if_pos running).trans (if_pos h)

theorem Part.debounceExpires_mains (running : (p.liu.input .mains).timer.isRunning = true)
    (h : (p.liu.input .mains).candidate ≠ (p.liu.input .mains).level) :
    p.debounceExpires .mains = (p.debounced .mains).mainsChanges :=
  (if_pos running).trans ((if_neg h).trans (if_pos rfl))

theorem Part.debounceExpires_of_ne_mains (running : (p.liu.input i).timer.isRunning = true)
    (h : (p.liu.input i).candidate ≠ (p.liu.input i).level) (hi : i ≠ .mains) :
    p.debounceExpires i = (p.debounced i).inputChanged i (p.liu.input i).candidate :=
  (if_pos running).trans ((if_neg h).trans (if_neg hi))

theorem Part.evaluateConditions_liu (p : Part) : p.evaluateConditions.liu = p.evaluated.liu := by
  obtain ⟨l, n, -, -, taken⟩ := p.evaluateConditions_inTurn
  rw [taken, takeInTurn_liu]

theorem Part.mainsChanges_liu (p : Part) : p.mainsChanges.liu = p.evaluated.liu := by
  obtain h | h := p.mainsChanges_cases
  · rw [h, evaluateConditions_liu]
  · rw [h, mapRsq_liu, evaluateConditions_liu]

theorem Part.evaluated_input (j : Input) (p : Part) : p.evaluated.liu.input j = p.liu.input j := by
  change p.liu.evaluate.input j = _
  rw [Liu.evaluate_same]
  cases j <;> rfl

/-- What follows of the expiry moves no debounced input. -/
theorem Part.debounceExpires_input (running : (p.liu.input i).timer.isRunning = true) (j : Input) :
    (p.debounceExpires i).liu.input j = (p.debounced i).liu.input j := by
  by_cases h : (p.liu.input i).candidate = (p.liu.input i).level
  · rw [debounceExpires_of_same running h]
  · by_cases hi : i = .mains
    · subst hi
      rw [debounceExpires_mains running h, mainsChanges_liu, evaluated_input]
    · rw [debounceExpires_of_ne_mains running h hi, inputChanged_liu]

theorem Part.debounced_stall (i : Input) (p : Part) : (p.debounced i).liu.stall = p.liu.stall := by
  cases i <;> rfl

theorem Part.debounced_cancel (i : Input) (p : Part) : (p.debounced i).liu.cancel = p.liu.cancel := by
  cases i <;> rfl

/-! ## The mains (R132, R133) -/

theorem Part.evaluated_oneCondition (moved : p.evaluated.liu ≠ p.liu) : p.evaluated.oneCondition :=
  Liu.evaluate_cancel fun unsupervised => moved (if_pos unsupervised)

/-- Outside BLOCKED, where it may leave a mark, a change of the mains is the conditions re-evaluated. -/
theorem Part.mainsChanges_of_unblocked (hs : p.rsq.state ≠ .blocked) : p.mainsChanges = p.evaluateConditions :=
  if_neg fun h => hs h.1

theorem Part.mainsChanges_raises (hs : p.rsq.state = .watch) (was : p.liu.stall = false) (now : p.evaluated.liu.stall = true) :
    p.mainsChanges = p.evaluated.enterVerify := by
  obtain ⟨l, n, told, calm, taken⟩ := p.evaluateConditions_inTurn
  have moved : p.evaluated.liu ≠ p.liu := fun e => by simp [e, was] at now
  rw [mainsChanges_of_unblocked (by simp [hs]), taken, calm (.inl (by rw [hs]; rfl))]
  exact told.raises (evaluated_oneCondition moved) hs was now

theorem Part.mainsChanges_withdraws (hs : p.rsq.state = .verify) (was : p.liu.stall = true) (now : p.evaluated.liu.stall = false) :
    p.mainsChanges = p.evaluated.enterWatch := by
  obtain ⟨l, n, told, calm, taken⟩ := p.evaluateConditions_inTurn
  rw [mainsChanges_of_unblocked (by simp [hs]), taken, calm (.inl (by rw [hs]; rfl))]
  exact told.withdraws hs now (.inl ((told.stall false).mpr ⟨by simp [was, now], now.symm⟩))

/-- The states that take no report of the conditions. -/
theorem Part.mainsChanges_of_deaf (hs : p.rsq.state ∈ [RescueState.probe, .creep, .level, .doors, .halted]) :
    p.mainsChanges = p.evaluated := by
  obtain ⟨l, n, told, calm, taken⟩ := p.evaluateConditions_inTurn
  have deaf : p.rsq.state.waiting = false ∧ p.rsq.state ≠ .blocked
      ∧ (p.rsq.state = .creep ∨ p.rsq.state ∈ [RescueState.start, .probe, .level, .doors, .halted]) := by
    revert hs
    generalize p.rsq.state = state
    cases state <;> decide
  obtain ⟨waiting, blocked, creep | other⟩ := deaf <;> rw [mainsChanges_of_unblocked blocked, taken, calm (.inl waiting)]
  · exact told.still_in_creep creep id
  · exact told.still_of_deaf other

theorem Part.evaluated_calm (was : p.liu.cancel = false) (now : p.evaluated.liu.cancel = true) : p.evaluated.liu.stall = false :=
  (evaluated_oneCondition fun e => by simp [e, was] at now).calm now

/-- The cancel condition, newly holding by the mains, ends the state; a choice may have been read in WAIT and BLOCKED alone. -/
theorem Part.evaluateConditions_cancels (hs : p.rsq.state ∈ [RescueState.parked, .blocked, .landed, .wait, .warn])
    (was : p.liu.cancel = false) (now : p.evaluated.liu.cancel = true) :
    ∃ n, (p.rsq.state.waiting = false → n = p.choices)
      ∧ p.evaluateConditions = ({ p.evaluated with choices := n } : Part).cancelHolds := by
  obtain ⟨l, n, told, calm, taken⟩ := p.evaluateConditions_inTurn
  have same := p.liu.evaluate_same
  refine ⟨n, fun h => calm (.inl h), taken.trans ?_⟩
  exact Liu.Told.cancels (p := { p.evaluated with choices := n }) told (told.cancel.mpr ⟨was, now⟩) (evaluated_calm was now) hs
    fun _ => ⟨(congrArg (·.positionValid) same).symm, (congrArg (·.load) same).symm⟩

theorem Part.mainsChanges_cancels (hs : p.rsq.state ∈ [RescueState.parked, .landed, .warn]) (was : p.liu.cancel = false)
    (now : p.evaluated.liu.cancel = true) : p.mainsChanges = p.evaluated.cancelHolds := by
  have ended : p.rsq.state ∈ [RescueState.parked, .blocked, .landed, .wait, .warn] ∧ p.rsq.state.waiting = false
      ∧ p.rsq.state ≠ .blocked := by
    revert hs
    generalize p.rsq.state = state
    cases state <;> decide
  obtain ⟨held, waiting, blocked⟩ := ended
  obtain ⟨n, calm, cancels⟩ := evaluateConditions_cancels held was now
  rw [mainsChanges_of_unblocked blocked, cancels, calm waiting]
  rfl

theorem Part.mainsChanges_cancels_wait (hs : p.rsq.state = .wait) (was : p.liu.cancel = false)
    (now : p.evaluated.liu.cancel = true) :
    ∃ n, p.mainsChanges = ({ p.evaluated with choices := n } : Part).withdraw.enterWatch := by
  obtain ⟨n, -, cancels⟩ := evaluateConditions_cancels (by simp [hs]) was now
  exact ⟨n, by rw [mainsChanges_of_unblocked (by simp [hs]), cancels, cancelHolds_of_wait (by exact hs)]⟩

/-- BLOCKED ends with the mark of R31 (assumption 44). -/
theorem Part.mainsChanges_cancels_blocked (hs : p.rsq.state = .blocked) (was : p.liu.cancel = false)
    (now : p.evaluated.liu.cancel = true) :
    ∃ n, p.mainsChanges = ({ p.evaluated with choices := n } : Part).enterWatch.mapRsq fun r => { r with cancelCame := true } := by
  obtain ⟨n, -, cancels⟩ := evaluateConditions_cancels (by simp [hs]) was now
  have watch : p.evaluateConditions = ({ p.evaluated with choices := n } : Part).enterWatch := by
    rw [cancels, cancelHolds_of_unclaimed (by simpa [evaluated] using .inr (.inr (.inl hs)))]
  have state : p.evaluateConditions.rsq.state = .watch := by
    rw [watch, enterWatch_rsq_of_calm (p := { p.evaluated with choices := n }) (evaluated_calm was now)]
    rfl
  refine ⟨n, ?_⟩
  rw [← watch]
  exact if_pos ⟨hs, state⟩

/-- The conditions by their terms, at a supervised controller (R132, R133). -/
theorem Part.evaluated_conditions (h : p.liu.heartbeat ≠ .unsupervised) :
    p.evaluated.liu.stall = (!p.liu.lockout && (p.liu.heartbeat == .expired || !p.liu.mains.level || p.liu.controller == some .stalled))
      ∧ p.evaluated.liu.cancel = (p.liu.heartbeat == .healthy && p.liu.mains.level && p.liu.controller != some .stalled) := by
  have evaluate : p.evaluated.liu = { p.liu with stall := p.liu.stallCondition, cancel := p.liu.cancelCondition } := if_neg h
  have supervised : (p.liu.heartbeat != .unsupervised) = true := by simpa using h
  simp [evaluate, Liu.stallCondition, Liu.cancelCondition, supervised]

/-! ## The other inputs (R13, R14, R25, R26, R28) -/

theorem Part.chainOpens_of_moving (hs : p.rsq.state ∈ [RescueState.probe, .creep, .level]) :
    p.chainOpens = p.enterHalted .chain := by
  simp only [List.mem_cons, List.not_mem_nil, or_false] at hs
  unfold chainOpens
  obtain e | e | e := hs <;> simp only [e]

theorem Part.chainOpens_of_blocked (hs : p.rsq.state = .blocked) :
    p.chainOpens = p.mapRsq fun r => { r with cause := .chain } := by
  simp only [chainOpens, hs]

theorem Part.chainOpens_of_wait (hs : p.rsq.state = .wait) : p.chainOpens = p.withdrawToBlocked .chain := by
  simp only [chainOpens, hs]

theorem Part.chainOpens_of_warn (hs : p.rsq.state = .warn) : p.chainOpens = (p.ended .abandoned).enterBlocked .chain := by
  simp only [chainOpens, hs]

/-- The level lost by an input other than the mains moves nothing once the car has come to its doors or has halted. -/
theorem Part.inputChanged_of_stopped (i : Input) (hs : p.rsq.state ∈ [RescueState.doors, .landed, .halted]) :
    p.inputChanged i false = p := by
  have elsewhere : p.rsq.state ≠ .parked ∧ p.rsq.state ≠ .creep := by
    constructor <;> rintro e <;> simp [e] at hs
  obtain ⟨parked, creep⟩ := elsewhere
  cases i with
  | mains => rfl
  | chain =>
    simp only [List.mem_cons, List.not_mem_nil, or_false] at hs
    simp only [inputChanged, chainOpens]
    obtain e | e | e := hs <;> simp [e]
  | doorZone => simp [inputChanged, parked, testTarget, creep]
  | doorsOpen => simp [inputChanged, parked]
  | brakeFeedback => simp [inputChanged, creep]

/-- R12: at PARKED a car that leaves the door zone, or closes its doors, is looked at again. -/
theorem Part.inputChanged_of_parked (hi : i ∈ [Input.doorZone, .doorsOpen]) (hs : p.rsq.state = .parked) :
    p.inputChanged i false = p.enterVerify := by
  simp only [List.mem_cons, List.not_mem_nil, or_false] at hi
  obtain rfl | rfl := hi <;> exact if_pos ⟨hs, rfl⟩

theorem Part.doorZoneChanged_of_creep (hs : p.rsq.state = .creep) (level : Bool) :
    p.inputChanged .doorZone level = p.testTarget := if_neg (by simp [hs])

theorem Part.doorsOpened_of_doors (hs : p.rsq.state = .doors) : p.inputChanged .doorsOpen true = p.enterLanded :=
  (if_neg (by simp)).trans (if_pos ⟨hs, rfl⟩)

theorem Part.brakeSeen_of_creep (hs : p.rsq.state = .creep) :
    p.inputChanged .brakeFeedback true = { p with rsq := { p.rsq with brakeSeen := true } } := if_pos hs

theorem Part.brakeLost_of_creep (hs : p.rsq.state = .creep) (seen : p.rsq.brakeSeen = true) :
    p.inputChanged .brakeFeedback false = p.enterHalted .brake := (if_pos hs).trans (if_pos seen)

end

/-- Settles O23: the change of each input in each state that reads it. -/
theorem debouncedLevelChanges : Obligations.DebouncedLevelChanges := by
  intro s i hw he
  have running : (s.part.liu.input i).timer.isRunning = true := he.1
  obtain ⟨x, hx⟩ : ∃ x, x = s.part.debounced i := ⟨_, rfl⟩
  obtain ⟨q, hq⟩ : ∃ q, q = s.part.debounceExpires i := ⟨_, rfl⟩
  have committed : x.lpc.committed = true := by rw [hx]; exact hw.2
  have rsq : s.part.rsq = x.rsq := by rw [hx]; rfl
  have stall : s.part.liu.stall = x.liu.stall := by rw [hx, Part.debounced_stall]
  have cancel : s.part.liu.cancel = x.liu.cancel := by rw [hx, Part.debounced_cancel]
  have input (j : Input) : q.liu.input j = x.liu.input j := by rw [hq, hx, Part.debounceExpires_input running]
  refine ⟨q, by rw [hq]; exact State.runExpiry_of_expires (timer := fun p => (p.liu.input i).timer) _ hw he, ?_, fun j hj => ?_,
    fun same => ?_, ?_⟩
  · rw [input, hx]
    exact Liu.input_setInput_same ..
  · rw [input, hx]
    exact Liu.input_setInput_of_ne hj ..
  · rw [hq, Part.debounceExpires_of_same running same]
    simp [Part.sameOutside, Part.debounced]
  rintro p hp
  have other (h : (s.part.liu.input i).candidate ≠ (s.part.liu.input i).level) (hi : i ≠ .mains) :
      p = x ∧ q = x.inputChanged i (s.part.liu.input i).candidate := by
    have changed := Part.debounceExpires_of_ne_mains running h hi
    rw [← hq, ← hx] at changed
    refine ⟨?_, changed⟩
    rw [hp, changed, Part.inputChanged_liu, hx]
    rfl
  have mains (h : (s.part.liu.input i).candidate ≠ (s.part.liu.input i).level) (hi : i = .mains) :
      p = x.evaluated ∧ q = x.mainsChanges := by
    subst hi
    have changed := Part.debounceExpires_mains running h
    rw [← hq, ← hx] at changed
    refine ⟨?_, changed⟩
    rw [hp, changed, Part.mainsChanges_liu, hx]
    rfl
  rw [rsq, stall, cancel]
  refine ⟨fun was now => ?_, fun was now => ?_, fun moved => ?_⟩
  · have moved : (s.part.liu.input i).candidate ≠ (s.part.liu.input i).level := by simp [was, now]
    replace other := other moved
    replace mains := mains moved
    rw [now] at other
    refine ⟨?_, ?_, ?_, fun hi hs => ?_, fun hs hi => ?_, ?_, ?_, fun hi hs was now => ?_⟩
    · rintro rfl hs
      obtain ⟨rfl, rfl⟩ := other (by decide)
      rw [Part.inputChanged, if_neg (by simp), Part.chainOpens_of_moving hs]
      exact Part.enterHalted_haltsAs .chain committed fun e => by simp [e] at hs
    · rintro rfl hs
      obtain ⟨rfl, rfl⟩ := other (by decide)
      exact Part.chainOpens_of_blocked hs
    · rintro rfl hs seen
      obtain ⟨rfl, rfl⟩ := other (by decide)
      rw [Part.brakeLost_of_creep hs seen]
      exact Part.enterHalted_haltsAs .brake committed (by simp [hs])
    · obtain ⟨rfl, rfl⟩ := other (by rintro rfl; simp at hi)
      rw [Part.inputChanged_of_parked hi hs, Part.enterVerify_rsq]
    · obtain ⟨rfl, rfl⟩ := other hi
      exact Part.inputChanged_of_stopped i hs
    · rintro rfl hs
      obtain ⟨rfl, rfl⟩ := other (by decide)
      rw [Part.inputChanged, if_neg (by simp), Part.chainOpens_of_wait hs]
      exact ⟨Part.withdrawToBlocked_rsq .chain, Part.withdrawToBlocked_withdrawsAs .chain committed hs⟩
    · rintro rfl hs
      obtain ⟨rfl, rfl⟩ := other (by decide)
      rw [Part.inputChanged, if_neg (by simp), Part.chainOpens_of_warn hs]
      exact (Part.warnGivenUp committed hs).2
    · obtain ⟨rfl, rfl⟩ := mains hi
      rw [Part.mainsChanges_liu] at now
      rw [Part.mainsChanges_raises hs was now, Part.enterVerify_rsq]
  · have moved : (s.part.liu.input i).candidate ≠ (s.part.liu.input i).level := by simp [was, now]
    replace other := other moved
    replace mains := mains moved
    rw [now] at other
    refine ⟨?_, ?_, ?_, fun hi hs was now => ?_, fun hi was now => ?_⟩
    · rintro rfl hs
      obtain ⟨rfl, rfl⟩ := other (by decide)
      exact Part.brakeSeen_of_creep hs
    · rintro rfl hs
      obtain ⟨rfl, rfl⟩ := other (by decide)
      rw [Part.doorsOpened_of_doors hs]
      exact Part.enterLanded_landsAs committed (by simp [hs])
    · rintro rfl hs cause hd
      obtain ⟨rfl, rfl⟩ := other (by decide)
      rw [Part.inputChanged, if_pos rfl, Part.clears_of_cause hs (by simp [cause])]
      exact Part.replanBlocked_replansBlockedAs_of_not_defer committed hs hd
    · obtain ⟨rfl, rfl⟩ := mains hi
      rw [Part.mainsChanges_liu] at now
      rw [Part.mainsChanges_withdraws hs was now, Part.enterWatch_rsq_of_calm now]
    · obtain ⟨rfl, rfl⟩ := mains hi
      rw [Part.mainsChanges_liu] at now
      have calm := Part.evaluated_calm was now
      refine ⟨fun hs => ?_, fun hs => ?_, fun hs => ?_, fun hs => ?_⟩
      · simp only [List.mem_cons, List.not_mem_nil, or_false] at hs
        have unclaimed : x.rsq.state ∈ [RescueState.verify, .parked, .blocked, .landed] := by
          obtain e | e := hs <;> simp [e]
        rw [Part.mainsChanges_cancels (by obtain e | e := hs <;> simp [e]) was now,
          Part.cancelHolds_of_unclaimed (p := x.evaluated) unclaimed]
        refine ⟨Part.enterWatch_rsq_of_calm calm, Part.enterWatch_adu _, fun hn => ?_⟩
        exact Part.enterWatch_watchesAs committed (.inl fun e : x.rsq.state = .warn => by simp [e] at unclaimed) hn
      · obtain ⟨n, blocked⟩ := Part.mainsChanges_cancels_blocked hs was now
        rw [blocked, Part.mapRsq_rsq, Part.enterWatch_rsq_of_calm (p := { x.evaluated with choices := n }) calm]
        exact ⟨rfl, Part.enterWatch_adu _⟩
      · obtain ⟨n, wait⟩ := Part.mainsChanges_cancels_wait hs was now
        rw [wait, Part.enterWatch_rsq_of_calm (by simpa using calm), Part.withdraw_rsq]
        exact ⟨rfl, fun hn => by rw [Part.enterWatch_adu, Part.withdraw_eq (p := { x.evaluated with choices := n }) hn]⟩
      · rw [Part.mainsChanges_cancels (by simp [hs]) was now, Part.cancelHolds_of_warn (p := x.evaluated) hs]
        exact (Part.warnGivenUp (p := x.evaluated) committed hs).1
  · refine ⟨fun hi => ?_, fun hi supervised => ?_, fun hi hs => ?_, ?_⟩
    · obtain ⟨rfl, rfl⟩ := other moved hi
      rw [Part.inputChanged_liu]
      exact ⟨rfl, rfl⟩
    · obtain ⟨rfl, rfl⟩ := mains moved hi
      subst hi
      rw [Part.mainsChanges_liu, hx]
      exact Part.evaluated_conditions supervised
    · obtain ⟨rfl, rfl⟩ := mains moved hi
      exact Part.mainsChanges_of_deaf hs
    · rintro rfl hs
      obtain ⟨rfl, rfl⟩ := other moved (by decide)
      rw [Part.doorZoneChanged_of_creep hs]
      exact Part.testTarget_targetTestedAs committed hs

end Sys2Proof.Machine
end

section
/-! PROOF. ANU on its own record (R137 to R146): what a refill, the end of a phrase, a directory read, the bytes of a refill, a sample
instant and an ordinary PATIENCE request make of it. -/

namespace Sys2Proof.Machine

-- Checked one after another: side by side, each waiting proof keeps a thread of its own.
set_option Elab.async false

section
variable {a : Anu} {c : Settings} {waiting : Bool} {number : Nat}

/-! ## Refills and entries (R137, R138, R140, R141) -/

/-- The address sent, most significant byte first, reads back as the address (R137). -/
theorem nat3_bytes3 {address : Nat} (h : address < 2 ^ 24) :
    nat3 (byte (address / 65536)) (byte (address / 256)) (byte address) = address := by
  simp only [nat3, byte, BitVec.toNat_ofNat]
  omega

/-- A refill read that is issued is a transaction begun, and nothing else moves (R141). -/
theorem Anu.refill_eq (a : Anu) : Anu.refill a = { a with
    transaction :=
      if a.fetching = true ∧ 0 < a.toFetch ∧ a.fifo.length ≤ 8 ∧ a.transaction = .none then .refill a.fetchAddress (min 8 a.toFetch) 0
      else a.transaction } := by
  unfold Anu.refill
  split <;> rfl

/-- With the FIFO empty and no read in progress, an entry of some length is opened with its first refill read (R140). -/
theorem Anu.openEntry_of_empty {start length : Nat} (hl : length ≠ 0) (hf : a.fifo = []) (ht : a.transaction = .none) :
    a.openEntry number start length = { a with
      current := some { number := number, stage := .fetch }, fetchAddress := start, toFetch := length, toPlay := length
      transaction := .refill start (min 8 length) 0 } := by
  unfold Anu.openEntry
  rw [Anu.refill_eq, if_pos ⟨rfl, Nat.pos_of_ne_zero hl, by simp [hf], ht⟩]

theorem entryValid_iff {start length : Nat} :
    entryValid c start length = true ↔ length ≠ 0 ∧ start + length ≤ c.voiceSize * 65536 := by
  simp [entryValid]

/-! ## The PATIENCE timer and the end of a phrase (R139, R140, R144) -/

/-- The timer starts at 30 s in WAIT while both slots are empty (R144). -/
theorem Anu.startPatience_of_silent (hc : a.current = none) (hn : a.next = none) :
    a.startPatience waiting = { a with patience := if waiting = true then .running 7500000 else a.patience } := by
  cases waiting
  · rfl
  · exact if_pos ⟨rfl, hc, hn⟩

/-- A phrase that ends with the next slot empty leaves ANU silent (R140). -/
theorem Anu.endPhrase_of_next_empty (hn : a.next = none) :
    a.endPhrase c waiting = { a with
      current := none, patience := if waiting = true then .running 7500000 else a.patience } := by
  have silent : a.endPhrase c waiting = Anu.startPatience waiting { a with current := none } := by simp [Anu.endPhrase, hn]
  exact silent.trans (Anu.startPatience_of_silent (a := { a with current := none }) rfl hn)

/-- A phrase enters the current slot with a directory read, where nothing is cached (R138). -/
theorem Anu.place_of_uncached (hv : c.voiceSize ≠ 0) (hc : a.cache = none) :
    a.place c waiting number = { a with
      current := some { number := number, stage := .lookup }, patience := .stopped, transaction := .lookUp number } := by
  unfold Anu.place
  simp only [if_neg hv, hc]

/-- A PATIENCE request without a phrase completes at once (R139, R144). -/
theorem Anu.patienceExpiry_of_noPhrase (hr : a.patience.isRunning = true) (hc : a.current = none) (hn : a.next = none)
    (hp : c.phrase .patience = 255) :
    a.patienceExpiry c waiting = { a with patience := if waiting = true then .running 7500000 else .stopped } := by
  unfold Anu.patienceExpiry
  rw [if_pos hr, ← Anu.startPatience_of_silent (a := { a with patience := .stopped }) hc hn]
  simp [Anu.request, Announcement.cutting, hc, hp, Config.noPhrase]

/-- A PATIENCE request with a phrase places it in the empty current slot (R138, R139). -/
theorem Anu.patienceExpiry_of_phrase (hr : a.patience.isRunning = true) (hc : a.current = none) (hp : c.phrase .patience ≠ 255)
    (hv : c.voiceSize ≠ 0) (uncached : a.cache = none) :
    a.patienceExpiry c waiting = { a with
      current := some { number := c.phrase .patience, stage := .lookup }, patience := .stopped
      transaction := .directory (6 * c.phrase .patience) } := by
  unfold Anu.patienceExpiry
  rw [if_pos hr]
  simp [Anu.request, Announcement.cutting, hc, hp, Config.noPhrase, Anu.place_of_uncached hv, uncached, Transaction.lookUp]

/-! ## The directory read (R138, R145) -/

section
variable {address start length : Nat}

/-- A valid entry is cached and opened. -/
theorem Anu.directoryDone_of_valid (ht : a.transaction = .directory address)
    (hc : a.current = some { number := number, stage := .lookup }) (hf : a.fifo = []) (hl : length ≠ 0)
    (fits : start + length ≤ c.voiceSize * 65536) :
    a.directoryDone c waiting (start, length) = ({ a with
      current := some { number := number, stage := .fetch }
      cache := some { number := number, start := start, length := length }
      fetchAddress := start, toFetch := length, toPlay := length
      transaction := .refill start (min 8 length) 0 }, none) := by
  have valid : entryValid c start length = true := entryValid_iff.mpr ⟨hl, fits⟩
  simp [Anu.directoryDone, ht, hc, valid, Anu.openEntry_of_empty hl, hf]

/-- An invalid entry skips the phrase, with the report that it owes. -/
theorem Anu.directoryDone_of_invalid (ht : a.transaction = .directory address)
    (hc : a.current = some { number := number, stage := .lookup }) (hn : a.next = none)
    (invalid : length = 0 ∨ c.voiceSize * 65536 < start + length) :
    a.directoryDone c waiting (start, length) = ({ a with
      current := none, patience := if waiting = true then .running 7500000 else a.patience
      transaction := .none, voiceFault := true, movingOwed := false }, a.owedReport .unavailable) := by
  have refused : ¬ entryValid c start length = true := by
    rw [entryValid_iff]
    omega
  simp [Anu.directoryDone, ht, hc, refused, Anu.owedReport, Anu.endPhrase_of_next_empty, hn]

end

/-! ## The bytes of a refill (R141) -/

section
variable {address count received : Nat} {bytes : List Byte}

/-- Bytes with which the read is not yet complete. -/
theorem Anu.refillDone_of_part (ht : a.transaction = .refill address count received) (h : received + bytes.length < count) :
    a.refillDone bytes = { a with
      fifo := a.fifo ++ bytes, transaction := .refill address count (received + bytes.length) } := by
  have all : bytes.take (count - received) = bytes := List.take_of_length_le (by omega)
  simp only [Anu.refillDone, ht, all, if_pos h]

/-- Bytes with which the read is complete. -/
theorem Anu.refillDone_of_last (ht : a.transaction = .refill address count received) (hr : received < count)
    (h : count ≤ received + bytes.length) :
    a.refillDone bytes = Anu.refill { a with
      fifo := a.fifo ++ bytes.take (count - received), fetchAddress := a.fetchAddress + count, toFetch := a.toFetch - count
      transaction := .none } := by
  have complete : ¬ received + (bytes.take (count - received)).length < count := by
    rw [List.length_take]
    omega
  simp only [Anu.refillDone, ht, if_neg complete]

end

/-! ## Samples (R142, R143) -/

/-- A sample scaled by V / 7 toward zero stays within its 8 bits (R143). -/
theorem sampleDuty_eq {volume : Nat} (hv : volume ≤ 7) (b : Byte) :
    ((sampleDuty volume b : Nat) : Int) = 128 + Int.tdiv (((b.toNat : Int) - 128) * volume) 7 ∧ sampleDuty volume b ≤ 255 := by
  have hb : b.toNat < 256 := b.isLt
  have low : -896 ≤ ((b.toNat : Int) - 128) * volume := by nlinarith
  have high : ((b.toNat : Int) - 128) * volume ≤ 889 := by nlinarith
  have scaledLow : -128 ≤ Int.tdiv (((b.toNat : Int) - 128) * volume) 7 := Int.tdiv_le_tdiv (by decide) low
  have scaledHigh : Int.tdiv (((b.toNat : Int) - 128) * volume) 7 ≤ 127 := Int.tdiv_le_tdiv (by decide) high
  unfold sampleDuty
  omega

section
variable {stage : Stage}

/-- A sounding phrase takes its oldest byte; one in FETCH becomes sounding with it (R142, R146). -/
theorem Anu.sample_of_byte {b : Byte} {rest : List Byte} (hc : a.current = some { number := number, stage := stage })
    (hf : a.fifo = b :: rest) (plays : stage = .sounding ∧ 0 < a.toPlay ∨ stage = .fetch) :
    a.sample c waiting = (Anu.takeSample b rest { a with
      current := some { number := number, stage := .sounding }
      voiceFault := if stage = .fetch then false else a.voiceFault }, none) := by
  obtain ⟨rfl, left⟩ | rfl := plays
  · simp [Anu.sample, hc, hf, Nat.ne_of_gt left]
  · simp [Anu.sample, hc, hf]

/-- An underrun is counted, and nothing else moves (R142). -/
theorem Anu.sample_of_underrun (hc : a.current = some { number := number, stage := .sounding }) (hf : a.fifo = [])
    (left : 0 < a.toPlay) :
    a.sample c waiting = ({ a with underruns := min 255 (a.underruns + 1) }, none) := by
  simp [Anu.sample, hc, hf, Nat.ne_of_gt left, saturate, Config.countTop]

/-- The played end of a phrase with the next slot empty, and the report it owes (R140, R145). -/
theorem Anu.sample_of_played (hc : a.current = some { number := number, stage := .sounding }) (done : a.toPlay = 0)
    (hn : a.next = none) :
    a.sample c waiting = ({ a with
      current := none, patience := if waiting = true then .running 7500000 else a.patience
      movingOwed := false, speaker := .low }, a.owedReport .completed) := by
  simp [Anu.sample, hc, done, Anu.owedReport, Anu.endPhrase_of_next_empty, hn]

end

end

end Sys2Proof.Machine
end

section
/-! PROOF. The events of ANU (R138 to R146): what RSQ takes of them, and the statements about the voice memory, the sample instants
and the PATIENCE timer (O53, O54, O55). -/

namespace Sys2Proof.Machine

-- Checked one after another: side by side, each waiting proof keeps a thread of its own.
set_option Elab.async false

section
variable {p : Part}

/-! ## ANU acts, and RSQ takes its report (R18, R145) -/

/-- An act of ANU without a report moves ANU's record alone. -/
theorem Part.announce_of_unreported {act : Settings → Bool → Anu → Anu × Option MovingReport} {a : Anu}
    (h : act p.settings (p.rsq.state == .wait) p.anu = (a, none)) : p.announce act = { p with anu := a } := by
  simp only [Part.announce, h, Part.takeMoving]

/-- An act of ANU with the report it makes where the phrase that ends is a MOVING that is owed. -/
theorem Part.announce_of_owed {act : Settings → Bool → Anu → Anu × Option MovingReport} {a : Anu} {r : MovingReport}
    (h : act p.settings (p.rsq.state == .wait) p.anu = (a, p.anu.owedReport r)) :
    p.announce act = if p.anu.movingOwed = true then ({ p with anu := a } : Part).movingReport r else { p with anu := a } := by
  simp only [Part.announce, h, Anu.owedReport]
  split <;> rfl

theorem Part.enterProbe_anu (p : Part) : p.enterProbe.anu = Anu.rescueStateChanged p.rsq.state .probe p.anu := by
  simp [Part.enterProbe, Part.changeState]

/-- A report comes back to ANU only as the entry to PROBE, which ends its debt and stops its PATIENCE timer (R144, R145). -/
theorem Part.movingReport_anu (r : MovingReport) (p : Part) :
    ∃ owed timer, (p.movingReport r).anu = { p.anu with movingOwed := owed, patience := timer } := by
  by_cases hs : p.rsq.state = .warn
  · cases r with
    | completed => exact ⟨false, .stopped, by simp [Part.movingReport, hs, Part.enterProbe_anu, Anu.rescueStateChanged]⟩
    | unavailable =>
      cases hg : p.rsq.gateTimer.hasExpired
      · exact ⟨p.anu.movingOwed, p.anu.patience, by simp [Part.movingReport, hs, hg]⟩
      · exact ⟨false, .stopped, by simp [Part.movingReport, hs, hg, Part.enterProbe_anu, Anu.rescueStateChanged]⟩
  · exact ⟨p.anu.movingOwed, p.anu.patience, by simp [Part.movingReport, hs]⟩

@[simp] theorem Part.movingReport_voiceFault (r : MovingReport) (p : Part) :
    (p.movingReport r).anu.voiceFault = p.anu.voiceFault := by
  obtain ⟨_, _, anu⟩ := Part.movingReport_anu r p
  rw [anu]

@[simp] theorem Part.movingReport_current (r : MovingReport) (p : Part) : (p.movingReport r).anu.current = p.anu.current := by
  obtain ⟨_, _, anu⟩ := Part.movingReport_anu r p
  rw [anu]

@[simp] theorem Part.movingReport_transaction (r : MovingReport) (p : Part) :
    (p.movingReport r).anu.transaction = p.anu.transaction := by
  obtain ⟨_, _, anu⟩ := Part.movingReport_anu r p
  rw [anu]

/-- Voice unavailable sets the mark while the fallback timer has not expired (R18). -/
theorem Part.movingReport_of_unavailable (hs : p.rsq.state = .warn) (hg : p.rsq.gateTimer ≠ .expired) :
    (p.movingReport .unavailable).rsq = { p.rsq with voiceUnavailable := true } := by
  have running : p.rsq.gateTimer.hasExpired = false := by
    cases ht : p.rsq.gateTimer with
    | expired => exact absurd ht hg
    | stopped | running => rfl
  simp [Part.movingReport, hs, running]

/-- A completed MOVING opens the gate: PROBE is entered, and the brake released (R18, R20). -/
theorem Part.movingReport_of_completed (committed : p.lpc.committed = true) (hs : p.rsq.state = .warn) :
    (p.movingReport .completed).rsq.state = .probe ∧ (p.movingReport .completed).rsq.outputs.brakeRelease = true := by
  have probe : p.movingReport .completed = p.enterProbe := if_pos hs
  obtain ⟨rsq, -⟩ := Part.enterProbe_probesAs committed hs
  rw [probe, rsq]
  exact ⟨rfl, rfl⟩

end

/-! ## The reads of the voice memory (R137, R138, R141) -/

section
variable {s : State} {bytes : List Byte}

theorem exec_voiceDirectoryReadDone (hw : s.working) (hl : bytes.length = 6) :
    exec (.voiceDirectoryReadDone bytes) s = .next { s with
      part := s.part.announce fun c waiting a => a.directoryDone c waiting (directoryEntry bytes) } :=
  (State.runIf_of_ok _ s (by simp [Instr.wellFormed, hl])).trans (State.run_of_working _ hw)

theorem exec_voiceRefillReadDone (hw : s.working) (least : 1 ≤ bytes.length) (most : bytes.length ≤ 8) :
    exec (.voiceRefillReadDone bytes) s = .next { s with part := { s.part with anu := s.part.anu.refillDone bytes } } :=
  (State.runIf_of_ok _ s (by simp [Instr.wellFormed, least, most])).trans (State.run_of_working _ hw)

end

/-- Settles O53: the address read back, and an entry valid or not, a refill complete or not. -/
theorem voiceReadsComplete : Obligations.VoiceReadsComplete := by
  refine ⟨fun address h => ⟨_, _, _, nat3_bytes3 h, rfl, fun _ _ => rfl⟩, fun s bytes hw => ⟨?_, ?_⟩⟩
  · intro number start length address six ht hc hstart hlength
    have entry : directoryEntry bytes = (start, length) := by rw [directoryEntry, hstart, hlength]
    refine ⟨_, exec_voiceDirectoryReadDone hw six, ?_, ?_⟩ <;> rw [entry]
    · intro nonzero fits empty
      exact Part.announce_of_unreported (Anu.directoryDone_of_valid ht hc empty nonzero fits)
    · intro invalid hn
      rw [Part.announce_of_owed (Anu.directoryDone_of_invalid ht hc hn invalid)]
      split
      next =>
        exact ⟨Part.movingReport_voiceFault .., Part.movingReport_current .., Part.movingReport_transaction ..,
          fun _ hs hg => Part.movingReport_of_unavailable (p := { s.part with anu := _ }) hs hg⟩
      next unowed => exact ⟨rfl, rfl, rfl, fun owed => absurd owed unowed⟩
  · intro address count received least most begun _ ht
    refine ⟨_, exec_voiceRefillReadDone hw least most, fun part => ?_, fun last => ?_⟩
    · rw [Anu.refillDone_of_part ht part]
    · rw [Anu.refillDone_of_last ht begun last, Anu.refill_eq]
      refine ⟨rfl, rfl, rfl, rfl, rfl, ?_, by simp [Part.sameOutside]⟩
      simp [Anu.fetching]

/-- Settles O54: the sample instant, case by case of its phrase. -/
theorem sampleInstantPlays : Obligations.SampleInstantPlays := by
  rintro s number stage ⟨hw, committed⟩ hv hc
  refine ⟨_, State.run_of_working _ hw, ?_, ?_, ?_, ?_⟩
  · intro b rest hf plays
    obtain ⟨duty, bound⟩ := sampleDuty_eq hv b
    rw [Part.announce_of_unreported (Anu.sample_of_byte hc hf plays), Anu.takeSample, Anu.refill_eq]
    exact ⟨_, duty, bound, rfl, rfl, rfl, rfl, rfl, fun fetch => if_pos fetch, rfl, by simp [Part.sameOutside]⟩
  · rintro hf rfl left
    exact Part.announce_of_unreported (Anu.sample_of_underrun hc hf left)
  · rintro rfl done hn unowed
    rw [Part.announce_of_owed (Anu.sample_of_played hc done hn), if_neg (by simp [unowed])]
    exact ⟨rfl, rfl, by simp [Part.sameOutside], fun hs => by simp [hs]⟩
  · rintro rfl done hn owed hs
    rw [Part.announce_of_owed (Anu.sample_of_played hc done hn), if_pos owed]
    exact Part.movingReport_of_completed (p := { s.part with anu := _ }) committed hs

/-- Settles O55: the request of the PATIENCE timer's expiry, with a phrase and without. -/
theorem patienceRequestsPhrase : Obligations.PatienceRequestsPhrase := by
  intro s hw hs he hc hn
  obtain ⟨running, stands⟩ := he
  have runs : exec .patienceTimerExpiry s = .next { s with part := { s.part with
      anu := s.part.anu.patienceExpiry s.part.settings true } } := by
    have acts : s.part.announce (fun c waiting a => (a.patienceExpiry c waiting, none))
        = { s.part with anu := s.part.anu.patienceExpiry s.part.settings true } :=
      Part.announce_of_unreported (by simp [hs])
    rw [← acts]
    exact (State.runExpiry_of_stands (timer := (·.anu.patience)) stands).trans (State.run_of_working _ hw)
  rw [runs]
  refine ⟨fun silent => ?_, fun phrase fitted uncached => ?_⟩
  · rw [Anu.patienceExpiry_of_noPhrase running hc hn silent, if_pos rfl]
  · rw [Anu.patienceExpiry_of_phrase running hc phrase fitted uncached]

end Sys2Proof.Machine
end

section
/-! PROOF. The transactions of the lift port that change no block but the port, and the resets (R147, R148, R150, R153, R155 to R157):
a command refused for its framing or its code, the two reads, a tick that is not accepted, LOAD, and the reset values (O5, O7, O8,
O12, O15, O17). -/

namespace Sys2Proof.Machine

-- Checked one after another: side by side, each waiting proof keeps a thread of its own.
set_option Elab.async false

/-! ## A command with its whole transaction -/

section
variable {s : State} {t : Tail} {c : PortCommand}

/-- The part as a command byte and operands have been clocked, and answered with zeros (R148). -/
def Part.operandsClocked (t : Tail) (p : Part) : Part :=
  p.mapLpc (Lpc.closed (List.replicate (t.bytes.length + 1) 0) (List.replicate t.bits.val false))

/-- The transaction has the form that the command requires (R148). -/
def PortCommand.Framed (c : PortCommand) (t : Tail) : Prop :=
  c.countFits (t.bytes.length + 1) = true ∧ t.bits.val = 0

/-- A command in its required form is taken with its operands. -/
theorem Part.modify_of_framed {p : Part} (modifying : c.modifying = true) (take : List Byte → Part → Part)
    (ready : p.lpc.awaitRelease = false) (framed : c.Framed t) :
    p.modify c t take = (take (t.bytes.take 35) (p.operandsClocked t)).settled := by
  unfold PortCommand.Framed at framed
  rw [modify_ready c modifying t take p ready, if_pos framed]
  rfl

/-- A command in another form is refused for its framing. -/
theorem Part.modify_of_misframed {p : Part} (modifying : c.modifying = true) (take : List Byte → Part → Part)
    (ready : p.lpc.awaitRelease = false) (misframed : ¬ c.Framed t) :
    p.modify c t take = ((p.operandsClocked t).refuseTransaction .framing).settled := by
  unfold PortCommand.Framed at misframed
  rw [modify_ready c modifying t take p ready, if_neg misframed]
  rfl

/-- A command whose beginning the part did not see (R147). -/
theorem Part.modify_of_awaiting {p : Part} {take : List Byte → Part → Part} (awaits : p.lpc.awaitRelease = true) :
    p.modify c t take = p.missTransaction.settled := if_pos awaits

theorem run_modify_of_framed (modifying : c.modifying = true) (take : List Byte → Part → Part) (port : s.portReady)
    (framed : c.Framed t) :
    s.run (Part.modify c t take) = .next { s with part := (take (t.bytes.take 35) (s.part.operandsClocked t)).settled } := by
  rw [State.run_of_working _ port.1, Part.modify_of_framed modifying take port.2 framed]

theorem run_modify_of_misframed (modifying : c.modifying = true) (take : List Byte → Part → Part) (port : s.portReady)
    (misframed : ¬ c.Framed t) :
    s.run (Part.modify c t take) = .next { s with part := ((s.part.operandsClocked t).refuseTransaction .framing).settled } := by
  rw [State.run_of_working _ port.1, Part.modify_of_misframed modifying take port.2 misframed]

theorem PortCommand.framed_commit : PortCommand.commit.Framed t ↔ t = ⟨[], 0⟩ := by
  obtain ⟨bytes, bits⟩ := t
  simp [Framed, countFits]

theorem PortCommand.framed_restart : PortCommand.restart.Framed t ↔ t = ⟨[], 0⟩ := framed_commit

theorem PortCommand.framed_loopback : PortCommand.loopback.Framed t ↔ t = ⟨[], 0⟩ := framed_commit

theorem PortCommand.framed_resume : PortCommand.resume.Framed t ↔ t = ⟨[], 0⟩ := framed_commit

theorem PortCommand.framed_tickA : PortCommand.tickA.Framed t ↔ t.bytes.length = 4 ∧ t.bits = 0 := by
  simp [Framed, countFits]

theorem PortCommand.framed_tickB : PortCommand.tickB.Framed t ↔ t.bytes.length = 4 ∧ t.bits = 0 := framed_tickA

theorem PortCommand.framed_load : PortCommand.load.Framed t ↔ (2 ≤ t.bytes.length ∧ t.bytes.length ≤ 33) ∧ t.bits = 0 := by
  simp [Framed, countFits]
  omega

/-! ## Transactions that are refused (R148) -/

theorem exec_unknownCommand {code : Byte} (port : s.portReady) (unknown : knownCodes.contains code = false) :
    exec (.unknownCommand code t) s =
      .next { s with part := ((s.part.operandsClocked t).refuseTransaction .unknown).settled } := by
  change s.runIf (Instr.unknownCommand code t).wellFormed _ = _
  rw [State.runIf_of_ok _ s (by simpa [Instr.wellFormed] using unknown), State.run_of_working _ port.1,
    Part.transaction_unknown code unknown t s.part (Part.refuseTransaction .unknown) port.2]
  rfl

theorem exec_incompleteCommandByte {bits : Fin 8} (port : s.portReady) :
    exec (.incompleteCommandByte bits) s = .next { s with
      part := ((s.part.mapLpc (Lpc.closed [] (List.replicate bits.val false))).refuseTransaction .framing).settled } := by
  refine (State.run_of_working _ port.1).trans ?_
  simp only [Part.transaction, port.2, Part.mapRsq_instantOver, Part.clock, Part.release, Part.mapLpc, List.foldl_nil]
  simp [Lpc.select, Lpc.clockBits, Lpc.nextOut, Lpc.closed, take_bitsOfByte_zero]

end

/-- Settles O7: each command out of its required form, and the two transactions that name no command. -/
theorem errorsOfTheBusFormCounted : Obligations.ErrorsOfTheBusFormCounted := by
  refine ⟨fun s t port c misframed => ?_, fun s port => ⟨fun code t unknown => ?_, fun bits => exec_incompleteCommandByte port⟩⟩
  · have longer (form : t.bytes ≠ [] ∨ t.bits ≠ 0) : t ≠ ⟨[], 0⟩ := by
      rintro rfl
      simp at form
    simp only [List.mem_cons, List.not_mem_nil, or_false] at misframed
    obtain ⟨rfl | rfl | rfl | rfl, form⟩ | ⟨rfl | rfl, form⟩ | ⟨rfl, form⟩ := misframed
    · exact run_modify_of_misframed (c := .commit) rfl _ port (mt PortCommand.framed_commit.mp (longer form))
    · exact run_modify_of_misframed (c := .restart) rfl _ port (mt PortCommand.framed_restart.mp (longer form))
    · exact run_modify_of_misframed (c := .loopback) rfl _ port (mt PortCommand.framed_loopback.mp (longer form))
    · exact run_modify_of_misframed (c := .resume) rfl _ port (mt PortCommand.framed_resume.mp (longer form))
    · exact run_modify_of_misframed (c := .tickA) rfl _ port (mt PortCommand.framed_tickA.mp (not_and_or.mpr form))
    · exact run_modify_of_misframed (c := .tickB) rfl _ port (mt PortCommand.framed_tickB.mp (not_and_or.mpr form))
    · refine run_modify_of_misframed (c := .load) rfl _ port fun h => ?_
      obtain ⟨⟨least, most⟩, whole⟩ := PortCommand.framed_load.mp h
      obtain short | long | cut := form
      · omega
      · omega
      · exact cut whole
  · exact exec_unknownCommand port (by simpa [knownCodes] using unknown)

/-! ## The reads (R156, R157) -/

/-- Settles O15: the read of the STATUS record as it stands. -/
theorem statusReadsSnapshot : Obligations.StatusReadsSnapshot := by
  intro s t port
  refine (State.run_of_working _ port.1).trans ?_
  rw [Part.readOut_status t s.part port.2]
  rfl

@[simp] theorem PeerRecord.bytes_length (r : PeerRecord) : r.bytes.length = 11 := rfl

theorem Part.viewRecord_of_none {p : Part} {index : Nat} (h : p.pvw.records.length ≤ index ∨ 14 < index) :
    p.viewRecord index = absentRecord := by
  unfold viewRecord
  split
  · rfl
  · next low => rw [List.getElem?_eq_none (h.resolve_right low)]; rfl

theorem Part.viewRecord_of_some {p : Part} {index : Nat} {r : PeerRecord} (low : index ≤ 14)
    (h : p.pvw.records[index]? = some r) : p.viewRecord index = r.bytes := by
  rw [viewRecord, if_neg (by omega), h]
  rfl

theorem Part.viewRecord_length (p : Part) (index : Nat) : (p.viewRecord index).length = 11 := by
  by_cases named : p.pvw.records.length ≤ index ∨ 14 < index
  · rw [viewRecord_of_none named]
    rfl
  · obtain ⟨inside, low⟩ := not_or.mp named
    rw [viewRecord_of_some (by omega) (List.getElem?_eq_getElem (by omega))]
    rfl

/-- Settles O17: the record at the index, latched as the index byte completes. -/
theorem viewReadsPeerRecord : Obligations.ViewReadsPeerRecord := by
  refine fun s bits port => ⟨?_, fun index rest => ⟨s.part.viewRecord index.toNat, ?_, s.part.viewRecord_length _,
    Part.viewRecord_of_none, fun _ => Part.viewRecord_of_some⟩⟩
  · refine (State.run_of_working _ port.1).trans ?_
    rw [Part.readOut_view_nil bits s.part port.2]
    rfl
  · refine (State.run_of_working _ port.1).trans ?_
    rw [Part.readOut_view index rest bits s.part port.2]
    rfl

/-! ## A tick that is not accepted (R122, R155) -/

theorem ControllerState.ofCode_of_beyond {code : Nat} (h : 3 < code) : ofCode code = none :=
  match code, h with
  | _ + 4, _ => rfl

theorem ControllerState.exists_ofCode {code : Nat} (h : code ≤ 3) : ∃ controller, ofCode code = some controller := by
  interval_cases code <;> exact ⟨_, rfl⟩

section
variable {p : Part} {kind : TickKind} {bytes : List Byte}

theorem Part.takeTick_of_uncommitted (h : p.lpc.committed = false) : p.takeTick kind bytes = p.setResult .wrongState :=
  if_pos (by rw [h]; rfl)

theorem Part.takeTick_of_outOfRange (committed : p.lpc.committed = true) (h : 3 < (byteAt bytes 3).toNat) :
    p.takeTick kind bytes = p.setResult .range := by
  simp [takeTick, committed, judgeTick, TickData.ofBytes, ControllerState.ofCode_of_beyond h]

theorem Part.takeTick_of_repeated (committed : p.lpc.committed = true) (range : (byteAt bytes 3).toNat ≤ 3)
    (h : p.liu.lastKind = some kind) :
    p.takeTick kind bytes = (p.mapLiu fun l => { l with repeats := saturate 255 l.repeats }).setResult .done := by
  obtain ⟨controller, hk⟩ := ControllerState.exists_ofCode range
  simp [takeTick, committed, judgeTick, TickData.ofBytes, hk, h, Config.countTop]

end

/-- Settles O12: the three answers to a tick that LIU does not accept. -/
theorem tickNotAccepted : Obligations.TickNotAccepted := by
  intro s bytes port four c kind hc
  rw [exec_tick port four hc]
  refine ⟨fun uncommitted => ?_, fun committed beyond => ?_, fun committed range again => ?_⟩
  · rw [Part.takeTick_of_uncommitted (p := s.part.tickClocked) uncommitted]
    rfl
  · rw [Part.takeTick_of_outOfRange (p := s.part.tickClocked) committed beyond]
    rfl
  · rw [Part.takeTick_of_repeated (p := s.part.tickClocked) committed range again]
    rfl

/-! ## LOAD (R150) -/

/-- The bytes of the image after a write that ends within it. -/
theorem byteAt_writeBytes {offset : Nat} {data image : List Byte} (fits : offset + data.length ≤ image.length) (i : Nat) :
    byteAt (writeBytes offset data image) i =
      if offset ≤ i ∧ i < offset + data.length then byteAt data (i - offset) else byteAt image i := by
  have front : (image.take offset).length = offset := by rw [List.length_take]; omega
  simp only [byteAt, writeBytes, List.getD_eq_getElem?_getD]
  by_cases before : i < offset
  · rw [if_neg (by omega), List.append_assoc, List.getElem?_append_left (by omega), List.getElem?_take_of_lt before]
  by_cases inside : i < offset + data.length
  · rw [if_pos ⟨by omega, inside⟩, List.getElem?_append_left (by simp; omega), List.getElem?_append_right (by omega), front]
  · rw [if_neg (by omega), List.getElem?_append_right (by simp; omega), List.getElem?_drop]
    congr 2
    simp
    omega

section
variable {p : Part} {offset : Byte} {data : List Byte}

theorem Part.takeLoad_of_committed (staged : List Byte) (h : p.lpc.committed = true) : p.takeLoad staged = p.setResult .wrongState :=
  if_pos h

theorem Part.takeLoad_of_beyond (h : p.lpc.committed = false) (beyond : 58 < offset.toNat + data.length) :
    p.takeLoad (offset :: data) = p.setResult .range := by
  have beyond : Config.imageLength < (byteAt (offset :: data) 0).toNat + ((offset :: data).drop 1).length := beyond
  rw [takeLoad, if_neg (by simp [h]), if_pos beyond]

theorem Part.takeLoad_of_fits (h : p.lpc.committed = false) (fits : offset.toNat + data.length ≤ 58) :
    p.takeLoad (offset :: data) =
      (p.mapLpc fun l => { l with image := writeBytes offset.toNat data l.image }).setResult .done := by
  have fits : ¬ Config.imageLength < (byteAt (offset :: data) 0).toNat + ((offset :: data).drop 1).length := Nat.not_lt.mpr fits
  rw [takeLoad, if_neg (by simp [h]), if_neg fits]
  rfl

end

/-- Settles O8: the three answers to a LOAD, and the bytes of the image after a write. -/
theorem loadWritesWholeOrNotAtAll : Obligations.LoadWritesWholeOrNotAtAll := by
  intro s offset data port length least most
  have runs : exec (.load ⟨offset :: data, 0⟩) s = .next { s with
      part := ((s.part.operandsClocked ⟨offset :: data, 0⟩).takeLoad (offset :: data)).settled } := by
    have framed : PortCommand.load.Framed ⟨offset :: data, 0⟩ := PortCommand.framed_load.mpr (by simp; omega)
    have staged : (offset :: data).take 35 = offset :: data := List.take_of_length_le (by simp; omega)
    refine (run_modify_of_framed (c := .load) rfl Part.takeLoad port framed).trans ?_
    rw [staged]
  rw [runs]
  cases committed : s.part.lpc.committed with
  | true =>
    refine ⟨s.part.lpc.image, .wrongState, ?_, by simp, by simp, by simp⟩
    rw [Part.takeLoad_of_committed (p := s.part.operandsClocked _) _ committed]
    rfl
  | false =>
    by_cases fits : offset.toNat + data.length ≤ 58
    · have within : offset.toNat + data.length ≤ s.part.lpc.image.length := by omega
      refine ⟨writeBytes offset.toNat data s.part.lpc.image, .done, ?_, by simp, fun _ beyond => by omega, fun _ _ =>
        ⟨rfl, (length_writeBytes within).trans length, fun i _ => byteAt_writeBytes within i⟩⟩
      rw [Part.takeLoad_of_fits (p := s.part.operandsClocked _) committed fits]
      rfl
    · refine ⟨s.part.lpc.image, .range, ?_, by simp, by simp, fun _ inside => absurd inside fits⟩
      rw [Part.takeLoad_of_beyond (p := s.part.operandsClocked _) committed (by omega)]
      rfl

/-! ## The resets (R153) -/

/-- Every kind of reset leaves every block at its reset values. -/
theorem Part.reset_atResetValues (image : List Byte) (cause : StartCause) (pins : Pins) (choices : Nat) :
    (Part.reset image cause pins choices).atResetValues where
  rescue := ⟨rfl, rfl⟩
  safeOutputs := rfl
  rescueTimers := by simp [reset, Rsq.reset]
  rescueCounts := ⟨rfl, rfl, rfl, rfl, rfl, rfl⟩
  rescueMarks := ⟨rfl, rfl, rfl⟩
  plan := ⟨rfl, rfl, rfl, rfl, rfl, rfl, rfl, rfl, rfl, rfl, rfl, rfl⟩
  episode := ⟨rfl, rfl, rfl⟩
  admission := ⟨rfl, rfl, rfl, rfl, rfl, rfl, rfl, rfl, rfl, rfl⟩
  view := ⟨rfl, rfl, rfl, rfl⟩
  engine := ⟨rfl, rfl, rfl, rfl, rfl, rfl, rfl, rfl, rfl, rfl⟩
  errors := ⟨rfl, rfl, rfl, rfl, rfl, rfl⟩
  line := ⟨rfl, rfl, rfl, rfl, rfl, rfl, rfl, rfl, rfl, rfl⟩
  supervision := ⟨rfl, rfl, rfl, rfl, rfl, rfl, rfl, rfl, rfl, rfl, rfl, rfl⟩
  inputs := ⟨rfl, rfl, rfl, rfl, rfl⟩
  voice := ⟨rfl, rfl, rfl, rfl, rfl, rfl, rfl, rfl, rfl, rfl, rfl, rfl⟩
  port := ⟨rfl, rfl, rfl, rfl, rfl, rfl, rfl, rfl⟩

theorem Part.resetRises_of_low {p : Part} (low : p.pins.resetLow = true) (selected : Bool) :
    p.resetRises selected =
      .reset clearedImage .resetInput { p.pins with selected := selected, resetLow := false } p.choices :=
  if_pos low

theorem Part.resetRises_of_high {p : Part} (high : p.pins.resetLow = false) (selected : Bool) : p.resetRises selected = p :=
  if_neg (by simp [high])

theorem exec_resetInput_rises (selected : Bool) (s : State) :
    exec (.resetInput false selected) s = .next { s with part := s.part.resetRises selected } := rfl

section
variable {s : State}

/-- RESTART in its required form (R153). -/
theorem exec_restart (port : s.portReady) : exec (.restart ⟨[], 0⟩) s = .next { s with part := s.part.takeRestart } :=
  run_modify_of_framed (c := .restart) rfl (fun _ p => p.takeRestart) port (PortCommand.framed_restart.mpr rfl)

end

/-- Settles O5: the reset values of each block, and the transactions that are no RESTART. -/
theorem resetsRestoreEveryBlock : Obligations.ResetsRestoreEveryBlock := by
  refine ⟨fun s => ⟨fun selected => ?_, fun selected => ?_, fun low selected => ?_, fun high selected => ?_, fun port => ?_,
    fun t => ⟨fun port other => ?_, fun working awaits => ?_, fun low => ?_⟩⟩,
    Part.reset_atResetValues .., rfl, rfl, rfl, rfl⟩
  · exact ⟨_, rfl, Part.reset_atResetValues .., rfl, rfl, rfl, rfl⟩
  · exact ⟨_, rfl, Part.reset_atResetValues .., rfl, rfl, rfl, rfl⟩
  · rw [exec_resetInput_rises, Part.resetRises_of_low low]
    exact ⟨_, rfl, Part.reset_atResetValues .., rfl, rfl, rfl, rfl⟩
  · rw [exec_resetInput_rises, Part.resetRises_of_high high]
  · exact ⟨_, exec_restart port, Part.reset_atResetValues .., rfl, rfl, rfl, rfl⟩
  · exact run_modify_of_misframed (c := .restart) rfl _ port (mt PortCommand.framed_restart.mp other)
  · refine (State.run_of_working _ working).trans ?_
    rw [Part.modify_of_awaiting awaits]
    rfl
  · change s.run _ = _
    rw [State.run_eq, Part.whenWorking_of_low _ _ low]

end Sys2Proof.Machine
end

section
/-! PROOF. COMMIT (R151, R152): the tests of the image, the first of them that fails, and the part as it goes into service (O9, O10,
O11). -/

namespace Sys2Proof.Machine

-- Checked one after another: side by side, each waiting proof keeps a thread of its own.
set_option Elab.async false

/-! ## The tests of the landings (R151) -/

section
variable {image : List Byte} {k : Nat}

/-- The test on the position of landing i, counted from 0. -/
def positionTest (image : List Byte) (i : Nat) : FieldTest :=
  { offset := 31 + 3 * i
    passes := within 0 60000 (fieldAt2 image (31 + 3 * i))
      && (i == 0 || fieldAt2 image (31 + 3 * (i - 1)) + 1000 ≤ fieldAt2 image (31 + 3 * i)) }

/-- The test that one of the landings up to landing i, the last, is eligible. -/
def eligibilityTest (image : List Byte) (i : Nat) : FieldTest :=
  { offset := 33 + 3 * i, passes := ((List.range (i + 1)).map (landingAt image)).any (·.eligible) }

theorem mem_landingTests {t : FieldTest} :
    t ∈ landingTests image k ↔ ∃ i < k, t = positionTest image i ∨ i + 1 = k ∧ t = eligibilityTest image i := by
  simp only [landingTests, List.mem_flatMap, List.mem_range]
  refine exists_congr fun i => and_congr_right fun _ => ?_
  by_cases last : i + 1 = k
  · subst last
    simp [positionTest, eligibilityTest]
  · simp [positionTest, last]

theorem within_iff {lo hi n : Nat} : within lo hi n = true ↔ lo ≤ n ∧ n ≤ hi := by
  simp [within]

theorem positionTest_passes {i : Nat} : (positionTest image i).passes = true ↔
    fieldAt2 image (31 + 3 * i) ≤ 60000
      ∧ (i = 0 ∨ fieldAt2 image (31 + 3 * (i - 1)) + 1000 ≤ fieldAt2 image (31 + 3 * i)) := by
  simp [positionTest, within_iff]

theorem eligibilityTest_passes {i : Nat} : (eligibilityTest image i).passes = true ↔
    ∃ j < i + 1, (byteAt image (33 + 3 * j)).getLsbD 0 = true := by
  simp [eligibilityTest, landingAt]

/-- What the landing tests accept. -/
theorem landingTests_pass (any : 0 < k) : (∀ t ∈ landingTests image k, t.passes = true) ↔
    (∀ i < k, fieldAt2 image (31 + 3 * i) ≤ 60000)
      ∧ (∀ i, i + 1 < k → fieldAt2 image (31 + 3 * i) + 1000 ≤ fieldAt2 image (31 + 3 * (i + 1)))
      ∧ ∃ i < k, (byteAt image (33 + 3 * i)).getLsbD 0 = true := by
  obtain ⟨last, rfl⟩ : ∃ last, k = last + 1 := ⟨k - 1, by omega⟩
  simp only [mem_landingTests]
  constructor
  · intro pass
    have position (i : Nat) (hi : i < last + 1) := positionTest_passes.mp (pass _ ⟨i, hi, .inl rfl⟩)
    refine ⟨fun i hi => (position i hi).1, fun i hi => ?_,
      eligibilityTest_passes.mp (pass _ ⟨last, Nat.lt_succ_self _, .inr ⟨rfl, rfl⟩⟩)⟩
    exact (position (i + 1) hi).2.resolve_left (Nat.succ_ne_zero i)
  · rintro ⟨range, rising, eligible⟩ t ⟨i, hi, rfl | ⟨top, rfl⟩⟩
    · refine positionTest_passes.mpr ⟨range i hi, ?_⟩
      cases i with
      | zero => exact .inl rfl
      | succ i => exact .inr (rising i hi)
    · obtain rfl : i = last := by omega
      exact eligibilityTest_passes.mpr eligible

end

/-! ## What the validation accepts (R151, R161) -/

/-- Settles O9: test by test in the order of the table. -/
theorem validationAcceptsExactlyTheRanges : Obligations.ValidationAcceptsExactlyTheRanges := by
  intro image
  have ceiling : (byteAt image 5).toNat ≤ 255 := Nat.le_of_lt_succ (byteAt image 5).isLt
  have landings (count : 2 ≤ (byteAt image 30).toNat) := landingTests_pass (image := image) (k := (byteAt image 30).toNat) (by omega)
  rw [validateImage_eq_none_iff]
  simp only [fieldTests, List.forall_mem_append, List.forall_mem_cons, List.forall_mem_map, List.mem_range, List.not_mem_nil,
    IsEmpty.forall_iff, implies_true, within_iff, Bool.and_eq_true, Bool.or_eq_true, decide_eq_true_eq, beq_iff_eq]
  simp only [Settings.ofImage, Nat.zero_le, true_and, and_true, ceiling, Config.noPhrase, and_assoc, and_congr_right_iff]
  intros
  rw [landings ‹2 ≤ (byteAt image 30).toNat›]
  simp only [and_assoc]

/-! ## The first test that fails (R151) -/

section
variable {image : List Byte} {t : FieldTest}

/-- In tests of ascending offsets the first that fails has the lowest offset of those that fail. -/
theorem passes_of_lower {tests : List FieldTest} (ascending : (tests.map (·.offset)).Pairwise (· < ·))
    (first : tests.find? (fun t => !t.passes) = some t) :
    ∀ other ∈ tests, other.offset < t.offset → other.passes = true := by
  obtain ⟨-, before, after, rfl, pass⟩ := List.find?_eq_some_iff_append.mp first
  rw [List.pairwise_map, List.pairwise_append, List.pairwise_cons] at ascending
  obtain ⟨-, ⟨later, -⟩, -⟩ := ascending
  intro other mem lower
  obtain early | rfl | late : other ∈ before ∨ other = t ∨ other ∈ after := by simpa using mem
  · simpa using pass other early
  · exact absurd lower (lt_irrefl _)
  · exact absurd (later other late) (by omega)

/-- The tests of the image up to the landing count. -/
def headTests (image : List Byte) : List FieldTest := (fieldTests image).take 22

/-- The tests of the six phrase numbers and of the check byte. -/
def tailTests (image : List Byte) : List FieldTest :=
  (List.range 6).map (fun i =>
      { offset := 51 + i, passes := within 0 63 (byteAt image (51 + i)).toNat || (byteAt image (51 + i)).toNat == Config.noPhrase })
    ++ [{ offset := 57, passes := byteAt image 57 == crc (image.take 57) }]

theorem fieldTests_eq (image : List Byte) :
    fieldTests image = headTests image ++ (landingTests image (byteAt image 30).toNat ++ tailTests image) := by
  rw [tailTests, ← List.append_assoc, ← List.append_assoc]
  rfl

theorem headTests_offsets (image : List Byte) : (headTests image).map (·.offset) =
    [0, 1, 3, 5, 6, 8, 10, 12, 14, 15, 17, 18, 19, 20, 22, 23, 24, 25, 26, 27, 29, 30] := rfl

theorem tailTests_offsets (image : List Byte) : (tailTests image).map (·.offset) = [51, 52, 53, 54, 55, 56, 57] := rfl

theorem offset_le_of_mem_headTests (h : t ∈ headTests image) : t.offset ≤ 30 := by
  have mem : t.offset ∈ (headTests image).map (·.offset) := List.mem_map_of_mem h
  simp only [headTests_offsets, List.mem_cons, List.not_mem_nil, or_false] at mem
  omega

theorem le_offset_of_mem_tailTests (h : t ∈ tailTests image) : 51 ≤ t.offset := by
  have mem : t.offset ∈ (tailTests image).map (·.offset) := List.mem_map_of_mem h
  simp only [tailTests_offsets, List.mem_cons, List.not_mem_nil, or_false] at mem
  omega

theorem landingTests_offsets (image : List Byte) (k : Nat) : (landingTests image k).map (·.offset) =
    (List.range k).flatMap fun i => if i + 1 = k then [31 + 3 * i, 33 + 3 * i] else [31 + 3 * i] := by
  rw [landingTests, List.map_flatMap]
  congr 1
  funext i
  dsimp only
  split <;> rfl

/-- With at most six landings the tests stand in ascending order of offset. -/
theorem fieldTests_ascending (count : (byteAt image 30).toNat ≤ 6) : ((fieldTests image).map (·.offset)).Pairwise (· < ·) := by
  rw [fieldTests_eq, List.map_append, List.map_append, headTests_offsets, tailTests_offsets, landingTests_offsets]
  generalize (byteAt image 30).toNat = k at count
  revert k
  decide

/-- With more landings than six the test of their count fails, or one before it. -/
theorem headTests_fails (count : 6 < (byteAt image 30).toNat) : ∃ t, (headTests image).find? (fun t => !t.passes) = some t := by
  have last : (headTests image)[21]? = some { offset := 30, passes := within 2 6 (byteAt image 30).toNat } := rfl
  rw [← Option.isSome_iff_exists, List.find?_isSome]
  exact ⟨_, List.mem_of_getElem? last, by simp [within, count]⟩

/-- Every test of a lower offset than the first that fails passes, also beyond a landing count out of its range. -/
theorem fieldTests_passes_of_lower (first : (fieldTests image).find? (fun t => !t.passes) = some t) :
    ∀ other ∈ fieldTests image, other.offset < t.offset → other.passes = true := by
  obtain count | count := le_or_gt (byteAt image 30).toNat 6
  · exact passes_of_lower (fieldTests_ascending count) first
  · obtain ⟨early, found⟩ := headTests_fails count
    obtain rfl : early = t := by simpa [fieldTests_eq, List.find?_append, found] using first
    intro other mem lower
    have low : early.offset ≤ 30 := offset_le_of_mem_headTests (List.mem_of_find?_eq_some found)
    rw [fieldTests_eq] at mem
    obtain head | landing | tail : other ∈ headTests image ∨ other ∈ landingTests image (byteAt image 30).toNat
        ∨ other ∈ tailTests image := by
      simpa using mem
    · exact passes_of_lower (by rw [headTests_offsets]; decide) found other head lower
    · obtain ⟨i, -, rfl | ⟨-, rfl⟩⟩ := mem_landingTests.mp landing
      · dsimp only [positionTest] at lower; omega
      · dsimp only [eligibilityTest] at lower; omega
    · have high : 51 ≤ other.offset := le_offset_of_mem_tailTests tail
      omega

end

/-- A COMMIT of one byte is taken (R148). -/
theorem exec_commit {s : State} (port : s.portReady) : exec (.commit ⟨[], 0⟩) s =
    .next { s with part := (s.part.operandsClocked ⟨[], 0⟩).takeCommit.settled } :=
  run_modify_of_framed (c := .commit) rfl (fun _ p => p.takeCommit) port (PortCommand.framed_commit.mpr rfl)

theorem Part.takeCommit_of_committed {p : Part} (h : p.lpc.committed = true) : p.takeCommit = p.setResult .wrongState := if_pos h

theorem Part.takeCommit_of_invalid {p : Part} {offset : Nat} (h : p.lpc.committed = false)
    (invalid : validateImage p.lpc.image = some offset) :
    p.takeCommit = (p.mapLpc fun l => { l with failOffset := some offset }).setResult .invalid := by
  rw [takeCommit, if_neg (by simp [h]), invalid]

theorem Part.takeCommit_of_valid {p : Part} (h : p.lpc.committed = false) (valid : validateImage p.lpc.image = none) :
    p.takeCommit = p.goIntoService := by
  rw [takeCommit, if_neg (by simp [h]), valid]

/-- Settles O10: the two refusals, and the order of the tests. -/
theorem commitRefusalNamesFirstFailure : Obligations.CommitRefusalNamesFirstFailure := by
  intro s port
  rw [exec_commit port]
  refine ⟨fun committed => ?_, fun uncommitted invalid => ?_⟩
  · rw [Part.takeCommit_of_committed (p := s.part.operandsClocked _) committed]
    rfl
  · obtain ⟨offset, found⟩ := Option.ne_none_iff_exists'.mp invalid
    obtain ⟨test, first, rfl⟩ := Option.map_eq_some_iff.mp found
    have fails : test.passes = false := by simpa using List.find?_some first
    refine ⟨test, List.mem_of_find?_eq_some first, fails, fieldTests_passes_of_lower first, ?_⟩
    rw [Part.takeCommit_of_invalid (p := s.part.operandsClocked _) uncommitted found]
    rfl

/-! ## Into service (R152) -/

section
variable {p : Part}

theorem Part.enterWatch_rsq_of_stalled (h : p.liu.stall = true) : p.enterWatch.rsq =
    { p.rsq.rested .verify .none false false with verifyTimer := .running (250000 * p.settings.verifyTime) } := by
  have stalled : p.enterWatch =
      ((p.enterAtRest .watch).mapPcu fun c => { c with waitSeconds := 0, refusals := 0, loadOverride := false }).enterVerify :=
    if_pos (by simpa using h)
  have settings : ((p.enterAtRest .watch).mapPcu fun c => { c with waitSeconds := 0, refusals := 0, loadOverride := false }).settings
      = p.settings := by simp [settings]
  rw [stalled, enterVerify_rsq, settings, mapPcu_rsq, enterAtRest_rsq]
  rfl

@[simp] theorem Anu.rescueStateChanged_volume (old new : RescueState) (a : Anu) :
    (a.rescueStateChanged old new).volume = a.volume := by
  unfold rescueStateChanged startPatience
  dsimp only
  repeat' split
  all_goals rfl

@[simp] theorem Part.enterWatch_volume (p : Part) : p.enterWatch.anu.volume = p.anu.volume := by
  unfold enterWatch enterVerify enterAtRest changeState
  dsimp only
  split <;> simp

theorem Part.enterWatch_presenceTimer (p : Part) : p.enterWatch.fre.presenceTimer = p.fre.presenceTimer :=
  congrArg (·.presenceTimer) p.enterWatch_rest

@[simp] theorem Part.settled_outputs (p : Part) : p.settled.rsq.outputs = p.rsq.outputs := rfl
@[simp] theorem Part.settled_cause (p : Part) : p.settled.rsq.cause = p.rsq.cause := rfl
@[simp] theorem Part.settled_verifyTimer (p : Part) : p.settled.rsq.verifyTimer = p.rsq.verifyTimer := rfl

/-- The part as a COMMIT hands its image over, before the sequencer enters WATCH (R152). -/
def Part.handedOver (p : Part) : Part :=
  ((((p.mapLpc fun l => { l with committed := true, failOffset := none, lastResult := .done }).mapAnu (Anu.commit p.settings)).mapFre
    fun r => { r with presenceTimer := .running 250000 }).commitView).commitSupervision

theorem Part.goIntoService_eq (p : Part) : p.goIntoService = p.handedOver.enterWatch := rfl

@[simp] theorem Part.handedOver_rsq (p : Part) : p.handedOver.rsq = p.rsq := rfl
@[simp] theorem Part.handedOver_settings (p : Part) : p.handedOver.settings = p.settings := rfl

/-- Supervision as it begins: the mains alone decide the two conditions (R124, R132, R133, R135). -/
theorem Part.handedOver_liu (lockout : p.liu.lockout = false) (unlatched : p.liu.controller = none) :
    p.handedOver.liu = { p.liu with
      heartbeat := .healthy, heartbeatTimer := .running (2500 * p.settings.heartbeatTime)
      stall := !p.liu.mains.level, cancel := p.liu.mains.level } := by
  have length : p.settings.heartbeatLength = 2500 * p.settings.heartbeatTime := by
    simp only [Settings.heartbeatLength, Config.ms, Config.samplesPerMs]
    omega
  have liu : p.handedOver.liu = Liu.evaluate { p.liu with heartbeat := .healthy, heartbeatTimer := .running p.settings.heartbeatLength } :=
    rfl
  rw [liu, length, Liu.evaluate, if_neg (by simp)]
  have supervised : (Heartbeat.healthy != .unsupervised) = true := rfl
  have alive : (Heartbeat.healthy == .expired) = false := rfl
  simp [Liu.stallCondition, Liu.cancelCondition, lockout, unlatched, supervised, alive]

/-- The sequencer after the entry to WATCH at commit: a lift without its mains goes on to VERIFY (R8, R152). -/
theorem Part.handedOver_enterWatch_rsq (lockout : p.liu.lockout = false) (unlatched : p.liu.controller = none) :
    p.handedOver.enterWatch.rsq = if p.liu.mains.level = true then p.rsq.rested .watch .none false false
      else { p.rsq.rested .verify .none false false with verifyTimer := .running (250000 * p.settings.verifyTime) } := by
  have stall : p.handedOver.liu.stall = !p.liu.mains.level := by rw [handedOver_liu lockout unlatched]
  split
  next present => exact enterWatch_rsq_of_calm (by simp [stall, present])
  next absent => exact enterWatch_rsq_of_stalled (by simp [stall, absent])

end

/-- Settles O11: the image handed over to the blocks, and the entry to WATCH, which the mains decide. -/
theorem commitBringsIntoService : Obligations.CommitBringsIntoService := by
  intro s port uncommitted valid _ lockout unlatched
  obtain ⟨p, hp⟩ : ∃ p, p = s.part.operandsClocked ⟨[], 0⟩ := ⟨_, rfl⟩
  have lockout : p.liu.lockout = false := by rw [hp]; exact lockout
  have unlatched : p.liu.controller = none := by rw [hp]; exact unlatched
  have taken : p.takeCommit = p.handedOver.enterWatch := by
    rw [Part.takeCommit_of_valid (by rw [hp]; exact uncommitted) (by rw [hp]; exact valid), Part.goIntoService_eq]
  have settings : p.handedOver.enterWatch.settled.settings = s.part.settings := by
    rw [Part.settings, Part.settled_lpc, Part.enterWatch_lpc, hp]
    rfl
  have rsq := Part.handedOver_enterWatch_rsq lockout unlatched
  have rest : p.handedOver.enterWatch.rsq.outputs = p.rsq.outputs.atRest false false ∧ p.handedOver.enterWatch.rsq.cause = .none := by
    rw [rsq]
    split <;> exact ⟨rfl, rfl⟩
  refine ⟨p.handedOver.enterWatch.settled, by rw [exec_commit port, ← hp, taken], ?_, ?_, ?_, ?_, ?_, ?_, ?_, fun present => ?_,
    fun absent => ?_, ?_⟩
  · rw [Part.settled_lpc, Part.enterWatch_lpc, hp]
    rfl
  · rw [settings, Part.settled_liu, Part.enterWatch_liu, Part.handedOver_liu lockout unlatched, hp]
    rfl
  · rw [settings, Part.settled_pvw, Part.enterWatch_pvw, hp]
    rfl
  · rw [Part.settled_fre, Part.enterWatch_presenceTimer]
    rfl
  · rw [Part.settled_anu, Part.enterWatch_volume, hp]
    rfl
  · rw [Part.settled_outputs, rest.1, hp]
    rfl
  · rw [Part.settled_cause, rest.2]
  · rw [if_pos (by rw [hp]; exact present)] at rsq
    rw [Part.settled_state, rsq]
    rfl
  · rw [if_neg (by rw [hp]; exact ne_true_of_eq_false absent)] at rsq
    rw [settings, Part.settled_state, Part.settled_verifyTimer, rsq, hp]
    exact ⟨rfl, rfl⟩
  · subst hp
    simp [Part.sameOutside, Part.handedOver, Part.operandsClocked, Part.commitSupervision]

end Sys2Proof.Machine
end

section
/-! PROOF. The loopback test (R119, R120, R154): its start by LOOPBACK, and its end (O18). -/

namespace Sys2Proof.Machine

-- Checked one after another: side by side, each waiting proof keeps a thread of its own.
set_option Elab.async false

/-- A LOOPBACK of one byte is taken (R148). -/
theorem exec_loopback {s : State} (port : s.portReady) : exec (.loopback ⟨[], 0⟩) s =
    .next { s with part := (s.part.operandsClocked ⟨[], 0⟩).takeLoopback.settled } :=
  run_modify_of_framed (c := .loopback) rfl (fun _ p => p.takeLoopback) port (PortCommand.framed_loopback.mpr rfl)

section
variable {p : Part}

theorem Part.takeLoopback_of_committed (h : p.lpc.committed = true) : p.takeLoopback = p.setResult .wrongState := if_pos h

theorem Part.takeLoopback_of_running (h : p.lpc.committed = false) (running : p.lif.loopRun ≠ none) :
    p.takeLoopback = p.setResult .busy := by
  rw [takeLoopback, if_neg (by simp [h]), if_pos (Option.isSome_iff_ne_none.mpr running)]

theorem Part.takeLoopback_of_free (h : p.lpc.committed = false) (free : p.lif.loopRun = none) :
    p.takeLoopback = p.startLoopback.setResult .done := by
  rw [takeLoopback, if_neg (by simp [h]), if_neg (by simp [free])]

end

section
variable {sent bytes : List Byte}

/-- The last byte of six, and the five before it. -/
theorem front_and_last_of_six (six : bytes.length = 6) : bytes.dropLast = bytes.take 5 ∧ bytes.getLastD 0 = byteAt bytes 5 := by
  match bytes, six with
  | [_, _, _, _, _, _], _ => exact ⟨rfl, rfl⟩

theorem loopbackResult_of_length (other : bytes.length ≠ 6) : loopbackResult sent (.received bytes) = .failFraming := if_pos other

theorem loopbackResult_of_six (six : bytes.length = 6) : loopbackResult sent (.received bytes) =
    if byteAt bytes 5 ≠ crc (bytes.take 5) then .failCheck else if bytes = sent then .pass else .failMismatch := by
  obtain ⟨front, last⟩ := front_and_last_of_six six
  simp only [loopbackResult, six, ne_eq, not_true_eq_false, if_false, front, last, eq_comm]

end

/-- The end of a test that runs (R120). -/
theorem exec_loopbackTestEnd {s : State} {run : LoopRun} (e : LoopEnd) (working : s.working) (running : s.part.lif.loopRun = some run) :
    exec (.loopbackTestEnd e) s = .next { s with part := { s.part with lif := { s.part.lif with
      loopResult := loopbackResult run.sent e, loopRun := none, tx := none, integrator := 0, filtered := false, samples := 0
      traffic := false } } } := by
  refine (State.run_of_working _ working).trans ?_
  rw [Part.endLoopback, running]
  rfl

/-- Settles O18: the two refusals, the start, and the result by the end of the test. -/
theorem loopbackTestStartsAndEnds : Obligations.LoopbackTestStartsAndEnds := by
  refine ⟨fun s port => ⟨fun committed => ?_, fun uncommitted running => ?_, fun uncommitted free => ?_⟩,
    fun s run e working running six => ⟨loopbackResult run.sent e, exec_loopbackTestEnd e working running, ?_, ?_, ?_, ?_⟩⟩
  · rw [exec_loopback port, Part.takeLoopback_of_committed (p := s.part.operandsClocked _) committed]
    rfl
  · rw [exec_loopback port, Part.takeLoopback_of_running (p := s.part.operandsClocked _) uncommitted running]
    rfl
  · refine ⟨((s.part.operandsClocked ⟨[], 0⟩).startLoopback.setResult .done).settled, loopbackFrame s.part.lpc.image, ?_,
      rfl, rfl, rfl, rfl, rfl, ?_⟩
    · rw [exec_loopback port, Part.takeLoopback_of_free (p := s.part.operandsClocked _) uncommitted free]
    · simp [Part.sameOutside, Part.operandsClocked, Part.settled]
  · rintro rfl; rfl
  · rintro rfl; rfl
  · rintro rfl; rfl
  · rintro bytes rfl
    refine ⟨loopbackResult_of_length, fun length wrong => ?_, fun length right other => ?_, ?_⟩
    · rw [loopbackResult_of_six length, if_pos wrong]
    · rw [loopbackResult_of_six length, if_neg (not_not.mpr right), if_neg other]
    · rintro rfl right
      rw [loopbackResult_of_six six, if_neg (not_not.mpr right), if_pos rfl]

end Sys2Proof.Machine
end

section
/-! PROOF. The commands as events of a working part: while RSTN is low none changes a block (R153), and none but the port's own and
the resets reaches the port; after commit the port's own leave the image as it is (R150) (O4, O59). -/

namespace Sys2Proof.Machine

-- Checked one after another: side by side, each waiting proof keeps a thread of its own.
set_option Elab.async false

/-! ## The form of a command -/

/-- Power-on and the reset input, which act whatever RSTN is (R153). -/
def IsReset : Instr → Prop
  | .powerOn _ | .resetInput _ _ => True
  | _ => False

/-- The command answers with the event where its operands are those of an event: at most pins other than RSTN move, and a part that
works takes the event. -/
def Answers (c : Instr) (s : State) (pins : Pins) (event : Part → Part) : Prop :=
  pins.resetLow = s.part.pins.resetLow
    ∧ exec c s = if c.wellFormed = true then .next { s with part := ({ s.part with pins := pins } : Part).whenWorking event }
        else .refused .notAnEvent

/-- The command is an event that leaves the port's record as it stands, in every state. -/
def SparesPort (c : Instr) : Prop :=
  ∀ s : State, ∃ pins event, Answers c s pins event ∧ ∀ p : Part, (event p).lpc = p.lpc

section
variable {c : Instr} {event : Part → Part}

theorem answers_of_runIf {s : State} (h : exec c s = s.runIf c.wellFormed event) : Answers c s s.part.pins event := ⟨rfl, h⟩

theorem answers_of_run {s : State} (ok : c.wellFormed = true) (h : exec c s = s.run event) : Answers c s s.part.pins event :=
  ⟨rfl, h.trans (State.runIf_of_ok event s ok).symm⟩

theorem sparesPort_of_runIf (spares : ∀ p : Part, (event p).lpc = p.lpc) (h : ∀ s, exec c s = s.runIf c.wellFormed event) :
    SparesPort c := fun s => ⟨_, event, answers_of_runIf (h s), spares⟩

theorem sparesPort_of_run (spares : ∀ p : Part, (event p).lpc = p.lpc) (ok : c.wellFormed = true) (h : ∀ s, exec c s = s.run event) :
    SparesPort c := fun s => ⟨_, event, answers_of_run ok (h s), spares⟩

/-- A command of the clock that does not stand is an event without effect. -/
theorem sparesPort_of_runDue {due : Part → Bool} (spares : ∀ p : Part, (event p).lpc = p.lpc) (ok : c.wellFormed = true)
    (h : ∀ s, exec c s = s.runDue c due event) : SparesPort c := by
  intro s
  by_cases stands : s.stands c (due s.part) = true
  · exact ⟨_, event, answers_of_run ok ((h s).trans (if_pos stands)), spares⟩
  · refine ⟨_, id, answers_of_run ok ((h s).trans ((if_neg stands).trans ?_)), fun _ => rfl⟩
    rw [State.run_eq]
    simp [Part.whenWorking]

theorem sparesPort_of_runExpiry (timer : Part → Timer) (spares : ∀ p : Part, (event p).lpc = p.lpc) (ok : c.wellFormed = true)
    (h : ∀ s, exec c s = s.runExpiry c timer event) : SparesPort c := sparesPort_of_runDue spares ok h

/-- A change of a pin, which a working part samples. -/
theorem sparesPort_of_pins {pins : Part → Pins} (spares : ∀ p : Part, (event p).lpc = p.lpc) (ok : c.wellFormed = true)
    (high : ∀ p : Part, (pins p).resetLow = p.pins.resetLow)
    (h : ∀ s, exec c s = .next { s with part := ({ s.part with pins := pins s.part } : Part).whenWorking event }) : SparesPort c :=
  fun s => ⟨pins s.part, event, ⟨high s.part, (h s).trans (if_pos ok).symm⟩, spares⟩

@[simp] theorem Part.whenListening_lpc (spares : ∀ p : Part, (event p).lpc = p.lpc) (p : Part) :
    (p.whenListening event).lpc = p.lpc := by
  unfold whenListening
  split
  · rfl
  · exact spares p

@[simp] theorem Part.announce_lpc (act : Settings → Bool → Anu → Anu × Option MovingReport) (p : Part) :
    (p.announce act).lpc = p.lpc := by
  simp [announce]

end

/-- Every command but the port's own and the resets. -/
theorem sparesPort_of_not_port (c : Instr) (reset : ¬ IsReset c) (transaction : ¬ IsTransaction c) : SparesPort c := by
  cases c with
  | powerOn | resetInput => exact absurd trivial reset
  | restart | load | commit | loopback | tickA | tickB | resume | status | view | unknownCommand | incompleteCommandByte =>
    exact absurd trivial transaction
  | loopbackTestEnd | recordStale | recordRemoved | attemptStart | arbitrationLoss | transmitSymbolError | echoFailure
  | lostRetryPresence | sampleInstant => exact sparesPort_of_run (by simp) rfl fun _ => rfl
  | heartbeatExpiry => exact sparesPort_of_runExpiry (·.liu.heartbeatTimer) Part.heartbeatExpires_lpc rfl fun _ => rfl
  | debounceExpiry i => exact sparesPort_of_runExpiry (fun p => (p.liu.input i).timer) (Part.debounceExpires_lpc i) rfl fun _ => rfl
  | verifyTimerExpiry => exact sparesPort_of_runExpiry (·.rsq.verifyTimer) Part.verifyExpires_lpc rfl fun _ => rfl
  | gateFallbackExpiry => exact sparesPort_of_runExpiry (·.rsq.gateTimer) Part.gateExpires_lpc rfl fun _ => rfl
  | probeWindowExpiry => exact sparesPort_of_runExpiry (·.rsq.probeTick) Part.probeWindowEnds_lpc rfl fun _ => rfl
  | brakeTimerExpiry => exact sparesPort_of_runExpiry (·.rsq.brakeTimer) Part.brakeExpires_lpc rfl fun _ => rfl
  | progressWindowEnd => exact sparesPort_of_runExpiry (·.rsq.progressTimer) Part.progressWindowEnds_lpc rfl fun _ => rfl
  | speedWindowEnd => exact sparesPort_of_runExpiry (·.rsq.speedTimer) Part.speedWindowEnds_lpc rfl fun _ => rfl
  | levelTimerExpiry => exact sparesPort_of_runExpiry (·.rsq.levelTimer) Part.levelExpires_lpc rfl fun _ => rfl
  | standstillExpiry => exact sparesPort_of_runExpiry (·.rsq.standstillTimer) Part.standstillExpires_lpc rfl fun _ => rfl
  | doorTimerExpiry => exact sparesPort_of_runExpiry (·.rsq.doorTimer) Part.doorExpires_lpc rfl fun _ => rfl
  | waitSecondsTimerExpiry => exact sparesPort_of_runExpiry (·.pcu.waitTimer) Part.waitSecondPasses_lpc rfl fun _ => rfl
  | retryTimerExpiry => exact sparesPort_of_runExpiry (·.adu.retryTimer) Part.retryExpires_lpc rfl fun _ => rfl
  | deferralLimitExpiry => exact sparesPort_of_runExpiry (·.adu.deferralTimer) Part.deferralExpires_lpc rfl fun _ => rfl
  | lineStuckTimerExpiry => exact sparesPort_of_runExpiry (·.adu.stuckTimer) Part.stuckExpires_lpc rfl fun _ => rfl
  | presenceTimerExpiry => exact sparesPort_of_runExpiry (·.fre.presenceTimer) Part.presenceExpires_lpc rfl fun _ => rfl
  | lostRetryTimerExpiry => exact sparesPort_of_runExpiry (·.lif.lostTimer) Part.retryDue_lpc rfl fun _ => rfl
  | patienceTimerExpiry => exact sparesPort_of_runExpiry (·.anu.patience) (Part.announce_lpc _) rfl fun _ => rfl
  | lineHeld | lineStuck | dataEnd | responseStart | frameEnd =>
    exact sparesPort_of_run (Part.whenListening_lpc (by simp)) rfl fun _ => rfl
  | lineSymbolError | edgeAfterDataEnd | classifiedSymbol =>
    exact sparesPort_of_runIf (Part.whenListening_lpc (by simp)) fun _ => rfl
  | idleLineDriven => exact sparesPort_of_run (Part.whenListening_lpc fun p => by split <;> simp) rfl fun _ => rfl
  | rollCallResponse => exact sparesPort_of_run (fun p => by split <;> simp) rfl fun _ => rfl
  | voiceDirectoryReadDone | voiceRefillReadDone => exact sparesPort_of_runIf (by simp) fun _ => rfl
  | symbolDueTime => exact sparesPort_of_runDue (due := (·.lif.symbolDue)) (event := Part.mapLif Lif.dueTime) (fun _ => rfl) rfl fun _ => rfl
  | encoderStep d =>
    exact sparesPort_of_pins (pins := fun p => (p.moveEncoder (pairMoved d)).pins) Part.sampleEncoder_lpc rfl (fun _ => rfl) fun _ => rfl
  | illegalTransition =>
    exact sparesPort_of_pins (pins := fun p => (p.moveEncoder pairSkipped).pins) Part.sampleEncoder_lpc rfl (fun _ => rfl) fun _ => rfl
  | inputPinChange i level =>
    exact sparesPort_of_pins (pins := fun p => p.pins.setInput i level) (Part.sampleInput_lpc i level) rfl (fun _ => by simp) fun _ => rfl

/-- The port's own commands are events too. -/
theorem answers_of_transaction {c : Instr} (h : IsTransaction c) (s : State) : ∃ event, Answers c s s.part.pins event := by
  cases c with
  | restart | load | commit | loopback | tickA | tickB | resume | status | view | incompleteCommandByte =>
    exact ⟨_, answers_of_run rfl rfl⟩
  | unknownCommand => exact ⟨_, answers_of_runIf rfl⟩
  | _ => exact h.elim

theorem answers_of_not_reset {c : Instr} (reset : ¬ IsReset c) (s : State) : ∃ pins event, Answers c s pins event := by
  by_cases transaction : IsTransaction c
  · exact ⟨_, answers_of_transaction transaction s⟩
  · obtain ⟨pins, event, answers, -⟩ := sparesPort_of_not_port c reset transaction s
    exact ⟨pins, event, answers⟩

/-- Settles O4: an event finds no working part, and moves at most its pins. -/
theorem lowResetHoldsEveryBlock : Obligations.LowResetHoldsEveryBlock := by
  intro c s low ok power input
  have reset : ¬ IsReset c := by
    cases c with
    | powerOn selected => exact absurd rfl (power selected)
    | resetInput level selected => exact absurd rfl (input level selected)
    | _ => exact not_false
  obtain ⟨pins, event, held, answer⟩ := answers_of_not_reset reset s
  have held : pins.resetLow = true := held.trans low
  refine ⟨{ s.part with pins := pins }, ?_, by simp [Part.sameOutside], held⟩
  rw [answer, if_pos ok, Part.whenWorking_of_low _ _ held]

/-! ## The committed image (R150) -/

/-- The part is committed with this image. -/
def Part.LockedWith (image : List Byte) (p : Part) : Prop := p.lpc.committed = true ∧ p.lpc.image = image

section
variable {image : List Byte} {p : Part}

theorem Part.LockedWith.congr {q : Part} (h : p.LockedWith image) (lpc : q.lpc = p.lpc) : q.LockedWith image :=
  ⟨by rw [lpc, h.1], by rw [lpc, h.2]⟩

theorem Part.LockedWith.transaction (h : p.LockedWith image) (bytes : List Byte) (bits : Nat) {finish : Lpc → Part → Part}
    (hf : ∀ l q, q.LockedWith image → (finish l q).LockedWith image) : (p.transaction bytes bits finish).LockedWith image := by
  obtain ⟨sameImage, sameCommit, -⟩ := Lpc.foldl_clockByte_keeps p.statusRecord (fun i => p.viewRecord i) bytes p.lpc.select
  have clocked : (p.clock bytes bits).release.LockedWith image := ⟨sameCommit.trans h.1, sameImage.trans h.2⟩
  unfold Part.transaction
  split
  · exact ⟨h.1, h.2⟩
  · exact (hf (p.clock bytes bits).lpc _ clocked).congr rfl

theorem Part.LockedWith.setResult (h : p.LockedWith image) (r : CommandResult) : (p.setResult r).LockedWith image := ⟨h.1, h.2⟩

theorem Part.LockedWith.refuseTransaction (h : p.LockedWith image) (r : CommandResult) :
    (p.refuseTransaction r).LockedWith image := ⟨h.1, h.2⟩

theorem Part.LockedWith.modify (h : p.LockedWith image) (c : PortCommand) (t : Tail) {take : List Byte → Part → Part}
    (hf : ∀ bytes q, q.LockedWith image → (take bytes q).LockedWith image) : (p.modify c t take).LockedWith image := by
  refine h.transaction _ _ fun l q hq => ?_
  split
  · exact hf _ _ hq
  · exact hq.refuseTransaction _

theorem Part.LockedWith.takeLoad (h : p.LockedWith image) (staged : List Byte) : (p.takeLoad staged).LockedWith image := by
  rw [takeLoad_of_committed staged h.1]
  exact h.setResult _

theorem Part.LockedWith.takeCommit (h : p.LockedWith image) : p.takeCommit.LockedWith image := by
  rw [takeCommit_of_committed h.1]
  exact h.setResult _

theorem Part.LockedWith.takeLoopback (h : p.LockedWith image) : p.takeLoopback.LockedWith image := by
  rw [takeLoopback_of_committed h.1]
  exact h.setResult _

theorem Part.LockedWith.takeTick (h : p.LockedWith image) (kind : TickKind) (staged : List Byte) :
    (p.takeTick kind staged).LockedWith image := by
  have judged : (p.judgeTick kind (TickData.ofBytes staged)).2.LockedWith image := by
    refine h.congr ?_
    unfold Part.judgeTick
    repeat' split
    all_goals simp
  unfold Part.takeTick
  split
  · exact h.setResult _
  · split <;> rename_i answer <;> rw [answer] at judged <;> exact judged.setResult _

theorem Part.LockedWith.takeResume (h : p.LockedWith image) : p.takeResume.LockedWith image := by
  obtain ⟨-, e⟩ | ⟨-, -, result, -, e⟩ | ⟨-, -, e⟩ := p.takeResume_cases <;> rw [e]
  · exact Part.LockedWith.setResult (h.congr (by simp)) _
  · exact Part.LockedWith.setResult (h.congr rfl) _
  · exact h.setResult _

end

section
variable {image : List Byte} {s t : State}

/-- A RESTART that resets nothing: RSTN low, select awaited, or another form (R147, R148, R153). -/
theorem exec_restart_locked {tail : Tail} (h : s.part.LockedWith image) (other : tail ≠ ⟨[], 0⟩)
    (ht : exec (.restart tail) s = .next t) : t.part.LockedWith image := by
  refine State.run_keeps h (fun p h => ?_) ht
  cases ready : p.lpc.awaitRelease with
  | true =>
    rw [Part.modify_of_awaiting ready]
    exact ⟨h.1, h.2⟩
  | false =>
    rw [Part.modify_of_misframed (c := .restart) rfl _ ready (mt PortCommand.framed_restart.mp other)]
    exact ⟨h.1, h.2⟩

theorem exec_transaction_locked {c : Instr} (transaction : IsTransaction c) (restart : c ≠ .restart ⟨[], 0⟩)
    (h : s.part.LockedWith image) (ht : exec c s = .next t) : t.part.LockedWith image := by
  cases c with
  | restart tail => exact exec_restart_locked h (fun e => restart (by rw [e])) ht
  | load tail => exact State.run_keeps h (fun _ h => h.modify .load tail fun _ _ h => h.takeLoad _) ht
  | commit tail => exact State.run_keeps h (fun _ h => h.modify .commit tail fun _ _ h => h.takeCommit) ht
  | loopback tail => exact State.run_keeps h (fun _ h => h.modify .loopback tail fun _ _ h => h.takeLoopback) ht
  | tickA tail => exact State.run_keeps h (fun _ h => h.modify .tickA tail fun _ _ h => h.takeTick .a _) ht
  | tickB tail => exact State.run_keeps h (fun _ h => h.modify .tickB tail fun _ _ h => h.takeTick .b _) ht
  | resume tail => exact State.run_keeps h (fun _ h => h.modify .resume tail fun _ _ h => h.takeResume) ht
  | status tail | view tail => exact State.run_keeps h (fun _ h => h.transaction _ _ fun _ _ h => h) ht
  | incompleteCommandByte bits => exact State.run_keeps h (fun _ h => h.transaction _ _ fun _ _ h => h.refuseTransaction _) ht
  | unknownCommand code tail => exact State.runIf_keeps h (fun _ h => h.transaction _ _ fun _ _ h => h.refuseTransaction _) ht
  | _ => exact transaction.elim

/-- A command that spares the port leaves the committed image. -/
theorem SparesPort.locked {c : Instr} (spares : SparesPort c) (h : s.part.LockedWith image) (ht : exec c s = .next t) :
    t.part.LockedWith image := by
  obtain ⟨pins, event, ⟨-, answer⟩, same⟩ := spares s
  rw [answer] at ht
  split at ht
  · obtain rfl := Host.Outcome.next.inj ht
    exact Part.whenWorking_keeps (fun p hp => hp.congr (same p)) h
  · cases ht

end

/-- Settles O59: the port's own commands, and those that spare the port. -/
theorem committedImageLocked : Obligations.CommittedImageLocked := by
  intro c s t committed ht
  have h : s.part.LockedWith s.part.lpc.image := ⟨committed, rfl⟩
  by_cases reset : IsReset c
  · cases c with
    | powerOn selected => exact .inr (.inl ⟨selected, rfl⟩)
    | resetInput low selected => exact .inr (.inr (.inl ⟨low, selected, rfl⟩))
    | _ => exact reset.elim
  by_cases restart : c = .restart ⟨[], 0⟩
  · exact .inr (.inr (.inr restart))
  by_cases transaction : IsTransaction c
  · exact .inl (exec_transaction_locked transaction restart h ht)
  · exact .inl ((sparesPort_of_not_port c reset transaction).locked h ht)

end Sys2Proof.Machine
end

section
/-! PROOF. The bytes of a frame read back as its fields (R98, R158, R159), and the layout of the STATUS and VIEW records (R162, R163):
numbers, keys and flags recovered from the bytes that carry them (O16, O37). -/

namespace Sys2Proof.Machine

/-! ## Fields read back from their bytes (R158) -/

@[simp] theorem toNat_byte (n : Nat) : (byte n).toNat = n % 256 := BitVec.toNat_ofNat n 8

theorem nat2_of_bytes2 {n : Nat} (fits : n < 65536) : nat2 (byte (n / 256)) (byte n) = n := by
  simp only [nat2, toNat_byte]
  omega

theorem keyOfBytes_of_bytesOfKey (k : Key) :
    keyOfBytes (BitVec.extractLsb' 16 8 k) (BitVec.extractLsb' 8 8 k) (BitVec.extractLsb' 0 8 k) = k := by
  apply BitVec.eq_of_toNat_eq
  simp only [keyOfBytes, nat3, BitVec.toNat_ofNat, BitVec.extractLsb'_toNat, Nat.shiftRight_eq_div_pow]
  omega

theorem flagBit_eq (i : Nat) (flag : Bool) : flagBit i flag = 2 ^ i * flag.toNat := by
  cases flag <;> simp [flagBit]

/-- A bit of a byte is the binary digit of the number it was made from. -/
theorem getLsbD_byte_eq {n i : Nat} {flag : Bool} (inside : i < 8) (digit : n / 2 ^ i % 2 = flag.toNat) :
    (byte n).getLsbD i = flag := by
  have bit : (byte n).getLsbD i = n.testBit i := by rw [byte, BitVec.getLsbD_ofNat, decide_eq_true inside, Bool.true_and]
  rw [bit, Nat.testBit_eq_decide_div_mod_eq, digit]
  cases flag <;> rfl

/-- Flags at bits 0 to 5 of a byte, each read back where it was put. -/
theorem bitsOfByte_flags (a b c d e f : Bool) :
    bitsOfByte (byte (flagBit 0 a + flagBit 1 b + flagBit 2 c + flagBit 3 d + flagBit 4 e + flagBit 5 f))
      = [false, false, f, e, d, c, b, a] := by
  have := a.toNat_le; have := b.toNat_le; have := c.toNat_le
  have := d.toNat_le; have := e.toNat_le; have := f.toNat_le
  have := Bool.toNat_false
  simp only [bitsOfByte, flagBit_eq, List.cons.injEq, and_true]
  refine ⟨?_, ?_, ?_, ?_, ?_, ?_, ?_, ?_⟩
  all_goals
    refine getLsbD_byte_eq (by decide) ?_
    omega

/-! ## The receive tests on the bytes of a frame (R98, R159) -/

/-- The test of the contents that each kind of frame takes. -/
def FrameKind.parse : FrameKind → List Byte → FrameTest
  | .release => parseRelease
  | .adjust => parseAdjust
  | .claim => parseClaim
  | .presence => parsePresence

/-- A kind code with contents and the check byte over both passes the tests of length, check and kind. -/
theorem testFrame_withCheck (kind : FrameKind) (contents : List Byte) :
    testFrame (withCheck (kind.code :: contents)) = kind.parse contents := by
  have long : ¬ (withCheck (kind.code :: contents)).length < 2 := by simp [withCheck]
  have front : (withCheck (kind.code :: contents)).dropLast = kind.code :: contents := List.dropLast_concat
  have last : (withCheck (kind.code :: contents)).getLastD 0 = crc (kind.code :: contents) := by
    simp only [withCheck, List.getLastD_concat]
  have first : byteAt (withCheck (kind.code :: contents)) 0 = kind.code := rfl
  unfold testFrame
  rw [if_neg long, front, last, if_neg (not_not_intro rfl), first]
  cases kind <;> rfl

theorem FrameTest.ofContents_of_inRange {f : Frame} (h : f.inRange = true) : ofContents (some f) = .valid f := if_pos h

theorem nodeOfByte_byte (n : Node) : nodeOfByte (byte n.toNat) = some n := by
  rw [nodeOfByte_eq_some_iff, toNat_byte]
  omega

@[simp] theorem ReleaseOutcome.ofCode_code (o : ReleaseOutcome) : ofCode o.code = some o := by cases o <;> rfl

theorem parseRelease_of_outcome (o : ReleaseOutcome) (n : Node) :
    parseRelease [byte (16 * o.code + n.toNat)] = .ofContents (some (.release o n)) := by
  have below : o.code ≤ 3 := by cases o <;> decide
  have node := n.isLt
  have value : (byte (16 * o.code + n.toNat)).toNat = 16 * o.code + n.toNat := by
    rw [toNat_byte]
    omega
  have high : (16 * o.code + n.toNat) / 16 = o.code := by omega
  have low : BitVec.ofNat 4 (16 * o.code + n.toNat) = n := by
    apply BitVec.eq_of_toNat_eq
    rw [BitVec.toNat_ofNat]
    omega
  simp only [parseRelease, value, high, low, ReleaseOutcome.ofCode_code, Option.map_some]

theorem parseAdjust_of_draw (n : Node) {d : Nat} (fits : d ≤ 255) :
    parseAdjust [byte n.toNat, byte d] = .ofContents (some (.adjust n d)) := by
  simp only [parseAdjust, nodeOfByte_byte, Option.map_some, toNat_byte, Nat.mod_eq_of_lt (Nat.lt_succ_of_le fits)]

theorem parseClaim_of_key (k : Key) {u : Nat} (fits : u ≤ 255) :
    parseClaim (bytesOfKey k ++ [byte u]) = .ofContents (some (.claim k u)) := by
  simp only [parseClaim, bytesOfKey, List.cons_append, List.nil_append, keyOfBytes_of_bytesOfKey, toNat_byte,
    Nat.mod_eq_of_lt (Nat.lt_succ_of_le fits)]

/-- The state byte of a PRESENCE: its code in the low four bits, its flags above them (R159). -/
theorem PresenceBody.stateByte_fields {b : PresenceBody} (fits : b.code ≤ 15) :
    b.stateByte.toNat % 16 = b.code ∧ b.stateByte.getLsbD 4 = b.draw.isSome ∧ b.stateByte.getLsbD 5 = b.key.isSome
      ∧ b.stateByte.getLsbD 6 = b.mismatch ∧ b.stateByte.getLsbD 7 = b.solo := by
  have := b.draw.isSome.toNat_le; have := b.key.isSome.toNat_le
  have := b.mismatch.toNat_le; have := b.solo.toNat_le
  simp only [stateByte, flagBit_eq]
  refine ⟨?_, ?_, ?_, ?_, ?_⟩
  · rw [toNat_byte]
    omega
  all_goals
    refine getLsbD_byte_eq (by decide) ?_
    omega

/-- The optional parts of a PRESENCE under its flags, with and without each (R159). -/
theorem parseOptional_of_parts {draw : Option Nat} (key : Option Key) (fits : ∀ d ∈ draw, d ≤ 255) :
    parseOptional draw.isSome key.isSome (drawBytes draw ++ keyBytes key) = some (draw, key) := by
  cases draw with
  | none =>
    cases key with
    | none => rfl
    | some k => simp [parseOptional, drawBytes, keyBytes, bytesOfKey, keyOfBytes_of_bytesOfKey]
  | some d =>
    have draw : d % 256 = d := Nat.mod_eq_of_lt (Nat.lt_succ_of_le (fits d rfl))
    cases key with
    | none => simp [parseOptional, drawBytes, keyBytes, draw]
    | some k => simp [parseOptional, drawBytes, keyBytes, bytesOfKey, keyOfBytes_of_bytesOfKey, draw]

theorem parsePresence_of_body (n : Node) {b : PresenceBody} (code : b.code ≤ 15) (limit : b.storeLimit < 65536)
    (draw : ∀ d ∈ b.draw, d ≤ 255) :
    parsePresence (byte n.toNat :: b.stateByte :: (bytes2 b.storeLimit ++ drawBytes b.draw ++ keyBytes b.key))
      = .ofContents (some (.presence n b)) := by
  obtain ⟨low, drawFlag, keyFlag, mismatch, solo⟩ := PresenceBody.stateByte_fields code
  simp only [parsePresence, bytes2, List.cons_append, List.nil_append, drawFlag, keyFlag, parseOptional_of_parts b.key draw,
    nodeOfByte_byte, Option.map_some, low, nat2_of_bytes2 limit, mismatch, solo]

/-- Settles O37: kind by kind, the contents are read back as the fields, which are in range. -/
theorem sentFramePassesItsTests : Obligations.SentFramePassesItsTests := by
  intro f inRange
  rw [← FrameTest.ofContents_of_inRange inRange]
  cases f with
  | release o n => exact (testFrame_withCheck .release _).trans (parseRelease_of_outcome o n)
  | adjust n d =>
    have draw : d ≤ 255 := (within_iff.mp inRange).2
    exact (testFrame_withCheck .adjust _).trans (parseAdjust_of_draw n draw)
  | claim k u =>
    have draw : u ≤ 255 := (within_iff.mp inRange).2
    exact (testFrame_withCheck .claim _).trans (parseClaim_of_key k draw)
  | presence n b =>
    simp only [Frame.inRange, Bool.and_eq_true, within_iff] at inRange
    obtain ⟨⟨⟨-, code⟩, -, limit⟩, draw⟩ := inRange
    have code : b.code ≤ 15 := code.trans (by decide)
    have limit : b.storeLimit < 65536 := limit.trans_lt (by decide)
    have draw : ∀ d ∈ b.draw, d ≤ 255 := by
      intro d drawn
      rw [Option.mem_def.mp drawn] at draw
      exact (within_iff.mp draw).2
    exact (testFrame_withCheck .presence _).trans (parsePresence_of_body n code limit draw)

/-! ## The records of the port (R162, R163) -/

/-- The flags byte of the STATUS record, bit by bit (R162). -/
theorem Part.statusFlags_bits (p : Part) :
    p.statusFlags.getLsbD 0 = p.lpc.committed ∧ p.statusFlags.getLsbD 1 = p.liu.positionValid
      ∧ p.statusFlags.getLsbD 2 = p.liu.lockout ∧ p.statusFlags.getLsbD 3 = p.pvw.mismatch
      ∧ p.statusFlags.getLsbD 4 = p.fre.duplicate ∧ p.statusFlags.getLsbD 5 = p.anu.voiceFault
      ∧ p.statusFlags.getLsbD 6 = false ∧ p.statusFlags.getLsbD 7 = false := by
  have bits : bitsOfByte p.statusFlags = _ := bitsOfByte_flags ..
  simp only [bitsOfByte, List.cons.injEq, and_true] at bits
  obtain ⟨seven, six, five, four, three, two, one, zero⟩ := bits
  exact ⟨zero, one, two, three, four, five, six, seven⟩

/-- The flags byte of a VIEW record, bit by bit, with nothing above bit 4 (R163). -/
theorem PeerRecord.bytes_flags (r : PeerRecord) :
    (byteAt r.bytes 3).getLsbD 0 = r.inferred ∧ (byteAt r.bytes 3).getLsbD 1 = r.sEcho.isSome
      ∧ (byteAt r.bytes 3).getLsbD 2 = r.draw.isSome ∧ (byteAt r.bytes 3).getLsbD 3 = r.key.isSome
      ∧ (byteAt r.bytes 3).getLsbD 4 = r.lastOutcome.isSome ∧ (byteAt r.bytes 3).toNat < 32 := by
  have bits : bitsOfByte (byteAt r.bytes 3) = _ := bitsOfByte_flags _ _ _ _ _ false
  simp only [bitsOfByte, List.cons.injEq, and_true] at bits
  obtain ⟨seven, six, five, four, three, two, one, zero⟩ := bits
  refine ⟨zero, one, two, three, four, (toNat_byte _).trans_lt ?_⟩
  have := r.inferred.toNat_le; have := r.sEcho.isSome.toNat_le; have := r.draw.isSome.toNat_le
  have := r.key.isSome.toNat_le; have := r.lastOutcome.isSome.toNat_le
  simp only [flagBit_eq]
  omega

/-- Settles O16: each code, each byte of the two records where it stands, and the fields of several bytes and the flags read back. -/
theorem portRecordsLayout : Obligations.PortRecordsLayout := by
  refine ⟨by decide, ?_, fun r => ?_⟩
  · rintro p _ rfl
    refine ⟨rfl, rfl, rfl, rfl, rfl, rfl, nat2_of_bytes2, keyOfBytes_of_bytesOfKey _, rfl, rfl, rfl, rfl, rfl, rfl, rfl, rfl,
      nat2_of_bytes2, ?lastRelease, rfl, rfl, nat2_of_bytes2, rfl, rfl, rfl, ?failOffset, rfl, p.statusFlags_bits⟩
    case lastRelease =>
      change (p.adu.lastRelease.map fun o => byte o.code).getD 0xFF = _
      cases p.adu.lastRelease <;> rfl
    case failOffset =>
      change (p.lpc.failOffset.map byte).getD 0xFF = _
      cases p.lpc.failOffset <;> rfl
  · obtain ⟨inferred, limit, draw, key, outcome, above⟩ := r.bytes_flags
    have node : (byteAt r.bytes 0).toNat = r.node.toNat := (toNat_byte _).trans (Nat.mod_eq_of_lt (by omega))
    refine ⟨rfl, node, rfl, rfl, inferred, limit, draw, key, outcome, above, nat2_of_bytes2, rfl, keyOfBytes_of_bytesOfKey _, ?_⟩
    change byte ((r.lastOutcome.map ReleaseOutcome.code).getD 0) = _
    cases r.lastOutcome <;> rfl

end Sys2Proof.Machine
end

section
/-! PROOF. A step runs the front command on the queue's rest, and a command that is an event completes, the resets as they stand
and every other by the form of its answer (O1, O3). -/

namespace Sys2Proof.Machine

/-- The resets are events in every state: they have no operand to check and ask nothing of RSTN. -/
theorem exec_reset {c : Instr} (reset : IsReset c) (s : State) :
    c.wellFormed = true ∧ ∃ q, exec c s = .next { s with part := q } := by
  cases c with
  | powerOn selected => exact ⟨rfl, _, rfl⟩
  | resetInput low selected => exact ⟨rfl, _, rfl⟩
  | _ => exact reset.elim

section
variable {c : Instr} {s : State} {pins : Pins} {event : Part → Part}

theorem Answers.next_of_wellFormed (answers : Answers c s pins event) (ok : c.wellFormed = true) :
    exec c s = .next { s with part := ({ s.part with pins := pins } : Part).whenWorking event } :=
  answers.2.trans (if_pos ok)

theorem Answers.refused_of_not_wellFormed (answers : Answers c s pins event) (no : c.wellFormed = false) :
    exec c s = .refused .notAnEvent :=
  answers.2.trans (if_neg (by simp [no]))

end

/-- Settles O3: a reset completes whatever the state; any other command answers by the check of its operands. -/
theorem everyEventCompletes : Obligations.EveryEventCompletes := by
  intro c s
  by_cases reset : IsReset c
  · obtain ⟨ok, completes⟩ := exec_reset reset s
    exact ⟨fun _ => completes, fun no => absurd (ok.symm.trans no) (by decide)⟩
  · obtain ⟨pins, event, answers⟩ := answers_of_not_reset reset s
    exact ⟨fun ok => ⟨_, answers.next_of_wellFormed ok⟩, answers.refused_of_not_wellFormed⟩

/-- What a step does where a command waits. -/
theorem step_of_pending {c : Instr} {rest : List Instr} {s : State} (front : s.pending = c :: rest) :
    step s = exec c { s with pending := rest } := by
  unfold step
  rw [front]

/-- Settles O1: the queue's rest is the queue that the command was put in front of. -/
theorem stepTakesFrontCommand : Obligations.StepTakesFrontCommand :=
  fun _ _ => step_of_pending rfl

end Sys2Proof.Machine
end
